-- ==== Sys2Proof/Word.lean ====
section
/-! DEFINITION. The words the spec treats as bits: bytes of frames, sixteen-bit addresses, masks and CRCs, and their plainest arithmetic (00 §0.6). -/

namespace Sys2Proof

/-- One byte of a frame. -/
abbrev Byte := BitVec 8

/-- A station address, an address mask, an alert flag set or a CRC. -/
abbrev Word16 := BitVec 16

/-- "Round": to the nearest whole number of `n / d`, halves rounded up (00 §0.6). -/
def roundDiv (n d : Nat) : Nat := (2 * n + d) / (2 * d)

/-- One more, staying at the maximum (00 §0.6, saturating counters). -/
def satSucc (limit n : Nat) : Nat := min limit (n + 1)

/-- `n` clamped to `lo … hi`. -/
def clampInt (lo hi n : Int) : Int := max lo (min hi n)

end Sys2Proof
end

