-- ==== Sys2Proof/Syntax.lean ====
section
/-! DEFINITION. The commands of the part: one constructor of `Instr` for each row of spec/opcode_table.json, with the operands the rules give it. Requests carry their body fields as the numbers the frame carries, so that a field out of range can be refused (R172, R173). -/

namespace Sys2Proof

/-- The three ports (00 §0.3). -/
inductive Port where
  | c | p | l
  deriving DecidableEq, Repr

/-- Where a request frame arrived. An L-port frame carries its station address (R155, Table 11-3). -/
inductive Source where
  | c
  | p
  | l (station : Word16)
  deriving DecidableEq, Repr

/-- The two ports that read a byte stream (R171). -/
inductive UartPort where
  | p | l
  deriving DecidableEq, Repr

/-- The six voltage channels (R4). -/
inductive Channel where
  | vaS | vbS | vcS | vaL | vbL | vcL
  deriving DecidableEq, Repr

/-- The control mode and the CONTROL key's readings (R89). -/
inductive ControlMode where
  | localMode | remoteMode
  deriving DecidableEq, Repr

/-- One pole's auxiliary contacts, `true` for closed (Table 4-1). -/
structure PoleContacts where
  a : Bool
  b : Bool
  deriving DecidableEq, Repr

/-- The contacts of the three poles as they stand at an indication event (R65). -/
structure Contacts where
  a : PoleContacts
  b : PoleContacts
  c : PoleContacts
  deriving DecidableEq, Repr

/-- One sample of a channel as the front end gives it, in primary milliamperes or millivolts, and whether the front end
clipped it (R2, R4; log 5). -/
structure Sample where
  value : Int
  clipped : Bool
  deriving DecidableEq, Repr

/-- The four samples of a channel that complete a measurement update, oldest first (R1). -/
structure Samples where
  first : Sample
  second : Sample
  third : Sample
  fourth : Sample
  deriving DecidableEq, Repr

/-- The samples of one measurement update. All nine analog channels are sampled together (1.1); the residual current has no input
of its own (R3). -/
structure Readings where
  ia : Samples
  ib : Samples
  ic : Samples
  vaS : Samples
  vbS : Samples
  vcS : Samples
  vaL : Samples
  vbL : Samples
  vcL : Samples
  deriving DecidableEq, Repr

/-- The read-back of a store write (R185). On a failure, `holdsOld` says whether storage still holds the
old record; the rule leaves "old, torn or no content" open. -/
inductive ReadBack where
  | passes
  | fails (holdsOld : Bool)
  deriving DecidableEq, Repr

/-- The commands, one for each row of the table, in the table's order. -/
inductive Instr where
  | statusRead (src : Source) (ref : Byte)
  | clearAlerts (src : Source) (ref : Byte) (clear : Word16) (mask : Option Word16)
  | trip (src : Source) (ref : Byte)
  | close (src : Source) (ref : Byte)
  | selectClose (src : Source) (ref : Byte)
  | operateClose (src : Source) (ref : Byte) (selectRef : Byte)
  | cancel (src : Source) (ref : Byte)
  | tagPlace (src : Source) (ref : Byte) (kind crew : Nat) (note : List Byte)
  | tagRemove (src : Source) (ref : Byte) (slot crew : Nat)
  | tagList (src : Source) (ref : Byte)
  | recloseBlock (src : Source) (ref : Byte) (value : Nat)
  | settingsWrite (src : Source) (ref : Byte) (fields : List Nat)
  | settingsRead (src : Source) (ref : Byte) (which : Nat)
  | curveLoad (src : Source) (ref : Byte) (curve : Nat) (points : List (Nat × Nat))
  | mechanismSettings (src : Source) (ref : Byte) (fields : List Nat)
  | mechanismFaultReset (src : Source) (ref : Byte)
  | batterySettings (src : Source) (ref : Byte) (fields : List Nat)
  | batteryTest (src : Source) (ref : Byte) (mode : Nat)
  | abortTest (src : Source) (ref : Byte)
  | batteryReplaced (src : Source) (ref : Byte)
  | readAttributes (src : Source) (ref : Byte)
  | readTestHistory (src : Source) (ref : Byte)
  | readRecord (src : Source) (ref : Byte) (number : Nat)
  | readCounters (src : Source) (ref : Byte) (limit : Option Nat)
  | timeSet (src : Source) (ref : Byte) (seconds millis : Nat)
  | trackerSources (src : Source) (ref : Byte) (sources : List Nat) (nominalFreq nominalVolts squelch : Nat)
  | linkSettings (src : Source) (ref : Byte) (fields : List Nat)
  | badFrame (port : Port) (bytes : List Byte)
  | answerRead (clocked : Nat)
  | pAnswerSend
  | frameGapTimeout (port : UartPort) (bytes : List Byte)
  | lineBreak (port : UartPort) (bytes : List Byte)
  | uartFramingError (port : UartPort) (bytes : List Byte)
  | ack (station : Word16) (number : Nat)
  | powerOn (contacts : Option Contacts)
  | resetInAsserted
  | resetInReleased
  | measurementUpdate (readings : Readings)
  | sourceCycleComplete (channel : Channel) (length : Nat)
  | noCrossingTimeout (channel : Channel)
  | sourceLockQualified
  | holdoverTimerExpiry
  | capacitorMeasurement (millivolts : Nat)
  | lowEnergyWatchExpiry
  | poleIndicationChange (contacts : Contacts)
  | tripPulseEnd
  | tripSettleExpiry
  | retripSettleExpiry
  | closePulseEnd
  | closeSettleExpiry
  | invalidWatchExpiry
  | mixedWatchExpiry
  | recloseIntervalExpiry
  | energyWaitExpiry
  | reclaimExpiry
  | controlKeyChange (reading : ControlMode)
  | supervisorKeyChange (held : Bool)
  | handleLockChange (pulled : Bool)
  | tripPushbutton
  | selectionExpiry
  | panelCloseDelayExpiry
  | acStateChange (present : Bool)
  | batteryMeasurement (millivolts : Nat) (milliamps : Int) (temperature : Int)
  | absorbTimeout
  | floatDropExpiry
  | disconnectTimerExpiry
  | shutdownRadioTimeout
  | shutdownStoreTimeout
  | dayIncrease
  | scheduledTestAttempt
  | restTimerExpiry (millivolts : Nat)
  | loadTimerExpiry (millivolts : Nat) (milliamps : Int)
  | suspensionTimerExpiry
  | floatWindowComplete
  | hotHourComplete
  | measurementTimerExpiry
  | transmitFrameStart
  | frameEnd
  | ackTimeout
  | channelWaitTimeout
  | probeTimerExpiry
  | radioWarmupEnd
  | carrierDetectChange (active : Bool)
  | listenWindowOpen
  | listenWindowClose
  | storeWriteComplete (readBack : ReadBack)
  | tripPushbuttonRelease
  | notBeforeTimeReached (number : Nat)
  | powerLoss
  deriving DecidableEq, Repr

end Sys2Proof
end

