-- ==== Sys2Proof/Decode.lean ====
section
/-! DEFINITION. The table gives no row any bits, so no word spells a command (log 34). -/

namespace Sys2Proof

/-- The command a word spells by the table's bits: none of the 89 rows has bits. -/
def decodeTableWord (_nbits _w : Nat) : Option Instr := none

end Sys2Proof
end

