-- ==== Sys2Proof/Machine/Blocks.lean ====
section
/-! DEFINITION. The plain data each block of Table 0-1 owns. Times are running times in microseconds (R167); a `Stamp` is a time of day. -/

namespace Sys2Proof.Machine

/-! ### Time of day (ORU) -/

/-- A time-of-day stamp with the TIME_UNSET mark as it stood (R167). -/
structure Stamp where
  seconds : BitVec 32
  millis : Nat
  unset : Bool
  deriving DecidableEq, Repr

/-- Running time in microseconds, and the time of day (R167). -/
structure Clock where
  running : Nat
  seconds : BitVec 32
  millis : Nat
  unset : Bool
  deriving DecidableEq, Repr

/-! ### Line Measurement Unit -/

/-- One current as the last update delivered it, and its last 32 samples, oldest first (R2). Those of the residual current are the
sums of the phase samples (R3). -/
structure CurrentChannel where
  value : Nat
  saturated : Bool
  window : List Sample
  deriving DecidableEq, Repr

/-- One voltage channel: magnitude, presence, its last 32 samples, oldest first, and qualification (R4 to R6), and its last
completed cycle lengths, newest first, last crossing and good-since time (R7). -/
structure VoltageChannel where
  value : Nat
  live : Bool
  window : List Sample
  qualifiedFrom : Option Nat
  cycles : List Nat
  lastCrossing : Nat
  goodSince : Option Nat
  deriving DecidableEq, Repr

/-- Table 1-2. -/
inductive Tracker where
  | locked (source : Channel)
  | holdover (deadline : Nat)
  | nominal
  deriving DecidableEq, Repr

/-- The TRACKER record (1.5). -/
structure TrackerSettings where
  sources : List Channel
  nominalFreq : Nat
  nominalVolts : Nat
  squelch : Nat
  deriving DecidableEq, Repr

structure Lmu where
  settings : TrackerSettings
  tracker : Tracker
  /-- The period in force, µs (R11). -/
  period : Nat
  /-- The length of the interval in progress, µs: the Δt the next update carries (R1). -/
  interval : Nat
  lastUpdate : Nat
  /-- The period in force and the tracker state as the last measurement update left them, for the VOLTAGE set (R139, Table 7-5). -/
  measuredPeriod : Nat
  measuredTracker : Tracker
  ia : CurrentChannel
  ib : CurrentChannel
  ic : CurrentChannel
  ig : CurrentChannel
  vaS : VoltageChannel
  vbS : VoltageChannel
  vcS : VoltageChannel
  vaL : VoltageChannel
  vbL : VoltageChannel
  vcL : VoltageChannel
  deriving DecidableEq, Repr

/-- Four currents in primary amperes, as a decision or a record carries them (R33). -/
structure Currents where
  ia : Nat
  ib : Nat
  ic : Nat
  ig : Nat
  deriving DecidableEq, Repr

/-! ### Overcurrent Element Bank -/

/-- The elements in the order of Table 2-1. -/
inductive Element where
  | pa | pb | pc | pg | ip | igi | ha | hb | hc | hg
  deriving DecidableEq, Repr

/-- A timed element (Table 2-2); the pickup run is counted for PA, PB, PC and PG. -/
structure Timed where
  progress : Nat
  picked : Bool
  run : Nat
  deriving DecidableEq, Repr

/-- An instantaneous element (Table 2-2). -/
structure Instant where
  count : Nat
  picked : Bool
  deriving DecidableEq, Repr

/-- The points (M_k, T_k) of a curve table (2.4). -/
abbrev CurveTable := List (Nat × Nat)

structure Oeb where
  pa : Timed
  pb : Timed
  pc : Timed
  pg : Timed
  ip : Instant
  igi : Instant
  ha : Timed
  hb : Timed
  hc : Timed
  hg : Timed
  /-- The hot-line set is the active one (R17). -/
  hotActive : Bool
  u1 : CurveTable
  u2 : CurveTable
  deriving DecidableEq, Repr

/-! ### Protection settings (Table 3-1) and the Sequence Controller -/

inductive Curve where
  | f1 | d1 | d2 | d3 | u1 | u2
  deriving DecidableEq, Repr

/-- A curve with its time dial and adder. -/
structure CurveChoice where
  curve : Curve
  dial : Nat
  adder : Nat
  deriving DecidableEq, Repr

inductive ResetMode where
  | instant | timed
  deriving DecidableEq, Repr

/-- An instantaneous element's settings; bit k of the mask names trip k + 1. -/
structure InstantSettings where
  setting : Nat
  count : Nat
  mask : BitVec 4
  deriving DecidableEq, Repr

structure Settings where
  phasePickup : Nat
  groundPickup : Nat
  phaseFast : CurveChoice
  phaseDelayed : CurveChoice
  groundFast : CurveChoice
  groundDelayed : CurveChoice
  /-- Trips to lockout N. -/
  trips : Nat
  /-- Fast trips F. -/
  fast : Nat
  interval1 : Nat
  interval2 : Nat
  interval3 : Nat
  reclaim : Nat
  resetMode : ResetMode
  resetTime : Nat
  ip : InstantSettings
  igi : InstantSettings
  coordination : Bool
  hotPhasePickup : Nat
  hotGroundPickup : Nat
  hotTime : Nat
  energyWait : Nat
  deriving DecidableEq, Repr

/-- Table 3-3. -/
inductive TripKind where
  | protection | command | tag | discordance
  deriving DecidableEq, Repr

inductive CloseKind where
  | reclose | command
  deriving DecidableEq, Repr

/-- Table 3-5. -/
inductive LockoutCause where
  | shots | tag | block | afterCommand | hotLine | authority | energy | command | mechanism
  deriving DecidableEq, Repr

/-- The reclaim timer runs to a deadline or keeps its remaining time while paused (R56). -/
inductive ReclaimTimer where
  | running (deadline : Nat)
  | paused (remaining : Nat)
  deriving DecidableEq, Repr

/-- Table 3-2, with the items of Table 3-3 that exist in one state only. RECLOSE_WAIT stands as its two
substates. -/
inductive Sequence where
  | ready
  | tripping (kind : TripKind) (hotLine : Bool)
  | interval (deadline : Nat)
  | energyWait (deadline : Nat)
  | closing (kind : CloseKind)
  | reclaim (timer : ReclaimTimer)
  | lockout (cause : LockoutCause)
  | opened
  deriving DecidableEq, Repr

structure Sqc where
  sequence : Sequence
  shot : Nat
  afterCommand : Bool
  active : Settings
  staged : Option Settings
  /-- The picked-up status last handed over by the OEB (R34). -/
  picked : Bool
  /-- The first pole report since power-on has been taken (R63). -/
  reported : Bool
  deriving DecidableEq, Repr

/-! ### Mechanism Driver -/

/-- Table 4-1. -/
inductive Indication where
  | closed | opened | invalid
  deriving DecidableEq, Repr

structure Poles where
  a : Indication
  b : Indication
  c : Indication
  deriving DecidableEq, Repr

/-- Where an operation or a record comes from (0.7, Table 4-2, Table 8-1). -/
inductive Origin where
  | protection | c | p | l | button | discordance | tag | reclose
  deriving DecidableEq, Repr

inductive OpKind where
  | trip | close
  deriving DecidableEq, Repr

inductive Phase where
  | pulse | settle | retripPulse | retripSettle
  deriving DecidableEq, Repr

/-- How a pulse operation ends (R77, Table 8-1). -/
inductive OpOutcome where
  | complete | retripComplete | discordant | failed | cut
  deriving DecidableEq, Repr

/-- Table 4-2, with the record number reserved for the operation (R160). The retrip flag is set exactly in the
RETRIP phases. -/
structure Operation where
  kind : OpKind
  origins : List Origin
  phase : Phase
  retrip : Bool
  pulseStart : Nat
  energyBefore : Nat
  lowEnergy : Bool
  element : Option Element
  currents : Currents
  number : Nat
  deriving DecidableEq, Repr

structure MechanismSettings where
  capacitance : Nat
  target : Nat
  eTrip : Nat
  eClose : Nat
  deriving DecidableEq, Repr

/-- The low-energy watch (R86). -/
inductive LowWatch where
  | stopped
  | running (deadline : Nat)
  | raised
  deriving DecidableEq, Repr

/-- The MECHANISM_FAULT causes in the order of Table 7-3. -/
inductive MechCause where
  | tripFailed | closeFailed | closeDiscordant | invalidIndication | poleDropped | unexpectedClose | powerOn
  deriving DecidableEq, Repr

structure Mdr where
  poles : Poles
  op : Option Operation
  tripDrive : Bool
  closeDrive : Bool
  latch : Bool
  settings : MechanismSettings
  vcap : Nat
  lastMeasurement : Nat
  estimate : Nat
  /-- The estimate as the last capacitor measurement set it, for the ENERGY set (R139, Table 7-5). -/
  measuredEstimate : Nat
  /-- The recharge flag, with the time of the measurement that started the recharge (R85). -/
  rechargeSince : Option Nat
  lowWatch : LowWatch
  invalidWatch : Option Nat
  mixedWatch : Option Nat
  deriving DecidableEq, Repr

/-- The conditions of the close permit (Tables 4-4 and 5-4). -/
inductive Failed where
  | tag | handle | block | mode | inFlight | latch | notOpen | energy
  deriving DecidableEq, Repr

/-! ### Result codes and answers -/

/-- Table 11-5, in its order. -/
inductive Code where
  | done | accepted | busy | mode | tag | energy | mechFault | handleLock | notSelected | selectedElsewhere
  | invalid | full | duplicate | authority | empty | conditions | gone | notPermitted | unknown | frameError
  deriving DecidableEq, Repr

/-- An answer waiting to be collected or sent (R174); `kind` is the request's kind byte. -/
structure Answer where
  kind : Byte
  ref : Byte
  code : Code
  body : List Byte
  deriving DecidableEq, Repr

/-! ### Authority Unit -/

inductive TagKind where
  | hotLine | doNotClose
  deriving DecidableEq, Repr

/-- Table 5-2, with the placement number of R91. An absent note is the empty list. -/
structure Tag where
  slot : Nat
  kind : TagKind
  origin : Port
  crew : Nat
  placed : Stamp
  note : List Byte
  number : Nat
  deriving DecidableEq, Repr

/-- The selection record (R101). -/
structure Selection where
  owner : Port
  ref : Byte
  selected : Nat
  expiry : Nat
  deriving DecidableEq, Repr

inductive CancelCause where
  | cancel | trip | tag | mode | reset
  deriving DecidableEq, Repr

/-- The panel close record (R108). -/
inductive Panel where
  | none
  | running (expiry : Nat)
  | fired
  | refused (code : Code)
  | cancelled (cause : CancelCause)
  deriving DecidableEq, Repr

/-- A reading of an input that has not stood its time yet, and the moment it will have (Table 5-1, R113). -/
structure Stand (α : Type) where
  reading : α
  ends : Nat
  deriving DecidableEq, Repr

structure Au where
  /-- The tag table, in placement order (R91). -/
  tags : List Tag
  placements : Nat
  block : Bool
  mode : ControlMode
  /-- The first stable reading of the CONTROL key has been taken (R89). -/
  modeTaken : Bool
  supervisorHeld : Bool
  handlePulled : Bool
  buttonPressed : Bool
  /-- The readings of the four door inputs that do not stand long enough yet (Table 5-1). -/
  keyStand : Option (Stand ControlMode)
  supervisorStand : Option (Stand Bool)
  handleStand : Option (Stand Bool)
  buttonStand : Option (Stand Bool)
  selection : Option Selection
  panel : Panel
  deriving DecidableEq, Repr

/-! ### Battery Care Unit -/

/-- Table 6-1 with the absorb timer's start, the float-since time and the float drop timer's start (R116). -/
inductive Charger where
  | off
  | bulk
  | absorb (since : Nat)
  | float (since : Nat) (dropSince : Option Nat)
  | testHold
  deriving DecidableEq, Repr

inductive Tier where
  | normal | low | critical | disconnect
  deriving DecidableEq, Repr

inductive TestMode where
  | attended | background | scheduled
  deriving DecidableEq, Repr, Inhabited

inductive TestPhase where
  | rest (deadline : Nat)
  | load (deadline : Nat)
  | suspended (deadline : Nat)
  deriving DecidableEq, Repr

/-- The running test (Table 6-4); the test state is IDLE when there is none. -/
structure TestRun where
  mode : TestMode
  port : Option Port
  phase : TestPhase
  suspensions : Nat
  vRest : Option Nat
  deriving DecidableEq, Repr

inductive TestOutcome where
  | pass | fail | aborted
  deriving DecidableEq, Repr

/-- The causes of a test outcome, in the order of R190. -/
inductive TestCause where
  | loadOpen | acLoss | request | tier | interrupted | suspensionTimeout | powerLoss
  deriving DecidableEq, Repr

/-- An entry of the test history (R127). -/
structure TestEntry where
  time : Stamp
  mode : TestMode
  outcome : TestOutcome
  cause : Option TestCause
  vRest : Option Nat
  vLoad : Option Nat
  iLoad : Option Nat
  rInt : Option Nat
  deriving DecidableEq, Repr

/-- The refusals of Table 6-5, in its order. -/
inductive Precondition where
  | busy | noAc | notFloating | tier | recharge | energy | sequence
  deriving DecidableEq, Repr

/-- An attribute (R128); its threshold stands in the battery settings. -/
structure HealthAttribute where
  raw : Option Int
  normalized : Nat
  worst : Nat
  deriving DecidableEq, Repr

/-- The eight attributes of Table 6-6, in its order. -/
structure Attributes where
  resistance : HealthAttribute
  loadMargin : HealthAttribute
  failures : HealthAttribute
  floatCurrent : HealthAttribute
  deepDischarges : HealthAttribute
  days : HealthAttribute
  hotHours : HealthAttribute
  rechargeTime : HealthAttribute
  deriving DecidableEq, Repr

/-- Table 6-7; the eight thresholds in order. -/
structure BatterySettings where
  bulk : Nat
  taper : Nat
  vFloat : Nat
  vAbs : Nat
  interval : Nat
  floor : Nat
  rated : Nat
  thresholds : List Nat
  deriving DecidableEq, Repr

/-- The next scheduled attempt, and whether it is a power-loss retry (R121). -/
structure Attempt where
  time : Nat
  retry : Bool
  deriving DecidableEq, Repr

/-- Where the shutdown of R119 stands: waiting for the radio (step 2), for the store (step 3), or for the
mark's write (step 4). -/
inductive Shutdown where
  | none
  | radio (deadline : Nat)
  | store (deadline : Nat)
  | mark
  deriving DecidableEq, Repr

/-- The part of the BCU's state that the BATTERY record holds (Table 10-1). -/
structure BatteryRecord where
  settings : BatterySettings
  attributes : Attributes
  history : List TestEntry
  pending : Bool
  deep : Nat
  hot : Nat
  days : Nat
  fails : Nat
  deriving DecidableEq, Repr

structure Bcu where
  stored : BatteryRecord
  v : Nat
  i : Int
  t : Int
  measured : Bool
  lastMeasurement : Nat
  vFloatSet : Int
  vAbsSet : Int
  acPresent : Bool
  acQualified : Bool
  /-- A reading of the AC sense input that has not stood for 2 s yet (R113). -/
  acStand : Option (Stand Bool)
  thermalHold : Bool
  charger : Charger
  tier : Tier
  /-- The tier and the charger state as the last battery measurement left them, for the BATTERY set (R139, Table 7-5). -/
  measuredTier : Tier
  measuredCharger : Charger
  disconnectSince : Option Nat
  floatSum : Nat
  floatCount : Nat
  hotCount : Nat
  test : Option TestRun
  loadOn : Bool
  opInFlight : Bool
  recharging : Bool
  nextDay : Nat
  nextAttempt : Option Attempt
  lastReason : Option Precondition
  failing : Bool
  shutdown : Shutdown
  contactorClosed : Bool
  deriving DecidableEq, Repr

/-! ### Report Unit -/

/-- Table 7-3, in its order. -/
inductive AlarmId where
  | lockout | mechanismFault | poleDiscordance | lowEnergy | batteryLow | batteryCritical | batteryDisconnect
  | batteryFailing | acSupplyLost | tagTable | storeFault | wearLimit
  deriving DecidableEq, Repr

/-- Table 7-4, in its order. -/
inductive EventKind where
  | trip | close | seqAdvance | settingsActivated | controlMode | frequencyState | acSupplyRestored
  | tierCleared | batteryTestResult | verdictGood | start
  deriving DecidableEq, Repr

/-- Table 7-5, in its order. -/
inductive MeasureSet where
  | load | voltage | battery | energy
  deriving DecidableEq, Repr

/-- Class and kind of a report (Table 7-2). -/
inductive ReportKind where
  | alarm (id : AlarmId)
  | event (kind : EventKind)
  | measure (set : MeasureSet)
  deriving DecidableEq, Repr

/-- A report object in use (Table 7-2). `classCount` is the merged count of an ALARM, the lost-before count of an
EVENT and the overwritten mark of a MEASURE as 0 or 1, as the report frame carries it (R194). -/
structure Report where
  object : Nat
  kind : ReportKind
  number : Nat
  created : Stamp
  order : Nat
  payload : List Byte
  attempts : Nat
  notBefore : Option Nat
  classCount : Nat
  deriving DecidableEq, Repr

structure LinkSettings where
  address : Word16
  mask : Word16
  slot : Nat
  ackTimeout : Nat
  maxAttempts : Nat
  retryBase : Nat
  warnLevel : Nat
  probeInterval : Nat
  measureInterval : Nat
  selectTimeout : Nat
  panelDelay : Nat
  deriving DecidableEq, Repr

inductive Standing where
  | good | weak | silent
  deriving DecidableEq, Repr

/-- The radio supply (R152). -/
inductive Radio where
  | off
  | warming (ends : Nat)
  | on
  deriving DecidableEq, Repr

/-- What the frame being sent carries; `disconnect` marks the transmission of R154. -/
inductive TxItem where
  | answer
  | report (object : Nat) (disconnect : Bool)
  deriving DecidableEq, Repr

/-- The frame being sent on the L-port; transmit-enable is asserted while there is one (R145). -/
structure Transmission where
  item : TxItem
  bytes : List Byte
  ends : Nat
  deriving DecidableEq, Repr

inductive Probe where
  | stopped
  | running (deadline : Nat)
  | expired
  deriving DecidableEq, Repr

/-- The listen window timing (R153). -/
inductive Listen where
  | stopped
  | waiting (opens : Nat)
  | opened (closes : Nat) (nextOpens : Nat)
  deriving DecidableEq, Repr

/-- The BATTERY_DISCONNECT transmission (R154). -/
inductive LastCall where
  | none | waiting | sending | over
  deriving DecidableEq, Repr

structure Rpu where
  qAlarm : List Report
  qEvent : List Report
  qMeasure : List Report
  inFlight : Option Report
  held : List Report
  /-- The object in flight is single-trial whatever its class (R154). -/
  singleTrial : Bool
  nextNumber : Nat
  nextOrder : Nat
  lost : Nat
  score : Nat
  standing : Standing
  settings : LinkSettings
  answers : List Answer
  radio : Radio
  tx : Option Transmission
  carrier : Bool
  holdoff : Option Nat
  channelWait : Option Nat
  ackTimer : Option Nat
  probe : Probe
  listen : Listen
  measureTimer : Option Nat
  lastCall : LastCall
  deriving DecidableEq, Repr

/-! ### Record Unit -/

inductive RecordKind where
  | protTrip | cmdTrip | externalOpen | reclose | cmdClose | seqAdvance | lockout
  deriving DecidableEq, Repr

/-- Table 8-1. -/
structure OpRecord where
  number : Nat
  kind : RecordKind
  time : Stamp
  shotAfter : Nat
  origin : Origin
  element : Option Element
  currents : Option Currents
  energyBefore : Option Nat
  outcome : Option OpOutcome
  lowEnergy : Bool
  deriving DecidableEq, Repr

structure PerPole (α : Type) where
  a : α
  b : α
  c : α
  deriving DecidableEq, Repr

/-- The COUNTERS record (Table 10-1). -/
structure Counters where
  total : Nat
  protTrips : Nat
  lockouts : Nat
  wear : PerPole Nat
  limit : Nat
  marks : PerPole Bool
  next : Nat
  deriving DecidableEq, Repr

structure Oru where
  /-- Oldest first (R159). -/
  ring : List OpRecord
  counters : Counters
  deriving DecidableEq, Repr

/-! ### Port engines -/

/-- Table 9-3, in its order. -/
inductive Flag where
  | trip | close | lockout | tagChanged | modeChanged | mechFault | energyLow | batteryTier | batteryVerdict
  | testDone | freqState | acSupply | linkStanding | storeFault | settingsActive | resetSeen
  deriving DecidableEq, Repr

/-- One port's sticky and mask bits; the flag of row k of Table 9-3 is bit k − 1 (R177). -/
structure AlertSet where
  sticky : Word16
  mask : Word16
  deriving DecidableEq, Repr

inductive ResetCause where
  | powerOn | afterDisconnect | interfaceReset
  deriving DecidableEq, Repr

/-- What a C-port transaction shifts out: the bytes of an answer read, 0xFF first, or the empty indication, which is 0xFF under the first
byte and 0x00 under every later one, however many are clocked (R193). -/
inductive Miso where
  | bytes (shifted : List Byte)
  | empty
  deriving DecidableEq, Repr

structure Ports where
  cAnswers : List Answer
  pAnswers : List Answer
  cHold : Option Byte
  pHold : Option Byte
  cAlerts : AlertSet
  pAlerts : AlertSet
  resetCause : ResetCause
  resetIn : Bool
  /-- What the C-port last shifted out that carries something (R170, R193). -/
  miso : Miso
  /-- The answer frame last sent on the P-port, and the moment its transmitter is free (R175). -/
  pFrame : List Byte
  pFree : Nat
  /-- The partial frames of the two byte-stream parsers, and the moments of their last bytes (R171). -/
  pPartial : List Byte
  lPartial : List Byte
  pLast : Nat
  lLast : Nat
  deriving DecidableEq, Repr

/-! ### Store Controller -/

/-- The record ids of Table 10-1; `tagSlot n` is TAG_SLOT_n. -/
inductive RecordId where
  | activeSettings | userCurve1 | userCurve2 | tagSlot (slot : Nat) | authority | mechanism | counters
  | recordRing | battery | link | tracker | shutdownMark
  deriving DecidableEq, Repr

structure MechanismRecord where
  latch : Bool
  settings : MechanismSettings
  deriving DecidableEq, Repr

/-- The content of a record as its owner held it when it placed the write (R184). -/
inductive Content where
  | activeSettings (s : Settings)
  | userCurve1 (t : CurveTable)
  | userCurve2 (t : CurveTable)
  | tagSlot (slot : Nat) (entry : Option Tag)
  | authority (block : Bool)
  | mechanism (m : MechanismRecord)
  | counters (c : Counters)
  | recordRing (ring : List OpRecord)
  | battery (b : BatteryRecord)
  | link (s : LinkSettings)
  | tracker (s : TrackerSettings)
  | shutdownMark (set : Bool)
  deriving DecidableEq, Repr

/-- One record as nonvolatile storage holds it: its id, its content length in bytes, its content and its check value (R183, log 8). -/
structure StoredRecord where
  id : RecordId
  length : Nat
  content : Content
  check : Word16
  deriving DecidableEq, Repr

/-- Nonvolatile storage: one copy of each record that has ever been written (R183). -/
structure Store where
  records : List StoredRecord
  deriving DecidableEq, Repr

/-- The write in progress; `second` once the first read-back has failed (R185). -/
structure Writing where
  content : Content
  second : Bool
  deriving DecidableEq, Repr

structure Nvs where
  store : Store
  queue : List Content
  writing : Option Writing
  deriving DecidableEq, Repr

end Sys2Proof.Machine
end

