-- ==== Sys2Proof/Config.lean ====
section
/-! DEFINITION. What the spec leaves open: the free values, and the length of the model's tick. -/

namespace Sys2Proof.Config

/-- FREE VALUE (log 11, DESIGN CHOICE). R133 adds a history entry for a test cut off by the loss of power and R127 gives
every entry a mode, but the mode of that test is stored nowhere (Table 10-1): nothing says what the entry shows. The nth
such entry shows this, and nothing constrains it. -/
opaque lostTestMode : Nat → Machine.TestMode

/-- FREE VALUE (log 39, DESIGN CHOICE). R2 to R4 give a magnitude as a whole number and do not say which way one that is not whole
goes. Whether the magnitude of this window goes up is free, and nothing constrains it. -/
opaque roundsUp : List Sample → Bool

/-- A step on an empty queue lets this many microseconds of running time pass (log 1, DESIGN CHOICE). -/
def tick : Nat := 1000

end Sys2Proof.Config
end

