-- ==== Sys2Proof/Machine/Defaults.lean ====
section
/-! DEFINITION. The fixed curve tables, the default settings and the fixed times of the rules. -/

namespace Sys2Proof.Machine

/-! ### Curves (Table 2-3) -/

def multiples : List Nat := [110, 150, 200, 300, 500, 1000, 2000, 4000]

def curveF1 : CurveTable := multiples.zip [180, 120, 90, 60, 40, 28, 22, 20]
def curveD1 : CurveTable := multiples.zip [9000, 3800, 2300, 1400, 900, 600, 450, 380]
def curveD2 : CurveTable := multiples.zip [24000, 7500, 4000, 2000, 1000, 450, 220, 120]
def curveD3 : CurveTable := multiples.zip [60000, 16000, 7000, 2900, 1100, 330, 100, 40]

/-! ### Default settings -/

/-- Table 3-1, column Default. -/
def Settings.default : Settings where
  phasePickup := 400
  groundPickup := 100
  phaseFast := ⟨.f1, 100, 0⟩
  phaseDelayed := ⟨.d2, 50, 0⟩
  groundFast := ⟨.f1, 100, 0⟩
  groundDelayed := ⟨.d1, 100, 0⟩
  trips := 4
  fast := 2
  interval1 := 2000
  interval2 := 10000
  interval3 := 15000
  reclaim := 30000
  resetMode := .timed
  resetTime := 2000
  ip := ⟨0, 2, 3⟩
  igi := ⟨0, 2, 3⟩
  coordination := true
  hotPhasePickup := 200
  hotGroundPickup := 50
  hotTime := 50
  energyWait := 30000

/-- R87. -/
def MechanismSettings.default : MechanismSettings := ⟨6800, 220000, 30000, 70000⟩

/-- Table 6-7, column Default. -/
def BatterySettings.default : BatterySettings where
  bulk := 2000
  taper := 300
  vFloat := 27000
  vAbs := 28800
  interval := 7
  floor := 23500
  rated := 40
  thresholds := [50, 20, 40, 30, 20, 50, 30, 30]

/-- Table 7-6, column Default. -/
def LinkSettings.default : LinkSettings where
  address := 0x0001
  mask := 0xFFFF
  slot := 0
  ackTimeout := 3000
  maxAttempts := 4
  retryBase := 5000
  warnLevel := 48
  probeInterval := 60
  measureInterval := 900
  selectTimeout := 10
  panelDelay := 10

/-- The TRACKER substitute of Table 10-1. -/
def TrackerSettings.default : TrackerSettings := ⟨[.vaS, .vbS, .vcS], 6000, 7200, 20⟩

/-- An attribute of a new battery: raw absent, normalized and worst 100 (R130, Table 10-1). -/
def HealthAttribute.fresh : HealthAttribute := ⟨none, 100, 100⟩

def Attributes.fresh : Attributes :=
  ⟨.fresh, .fresh, .fresh, .fresh, .fresh, .fresh, .fresh, .fresh⟩

/-- The BATTERY substitute of Table 10-1. -/
def BatteryRecord.default : BatteryRecord where
  settings := .default
  attributes := .fresh
  history := []
  pending := false
  deep := 0
  hot := 0
  days := 0
  fails := 0

/-- The COUNTERS substitute of Table 10-1, with next record number 0 (R169 for an empty ring). -/
def Counters.zero : Counters where
  total := 0
  protTrips := 0
  lockouts := 0
  wear := ⟨0, 0, 0⟩
  limit := 0
  marks := ⟨false, false, false⟩
  next := 0

/-- The fail-safe entry of R91. Its placed time 0 is the time of day at power-on, when the part makes it, with the TIME_UNSET mark as it stands
then (R167; log 46, DEDUCED). -/
def Tag.failSafe (slot : Nat) : Tag where
  slot := slot
  kind := .hotLine
  origin := .p
  crew := 0
  placed := ⟨0, 0, true⟩
  note := []
  number := 0

/-- The MECHANISM substitute of Table 10-1: latch set (R186). -/
def MechanismRecord.substitute : MechanismRecord := ⟨true, .default⟩

/-- A store in which no record has ever been written: every record fails its check (R183, 10.6). -/
def Store.blank : Store := ⟨[]⟩

/-! ### Element, channel and port start values (R15, R39, R182) -/

def Timed.rest : Timed := ⟨0, false, 0⟩
def Instant.rest : Instant := ⟨0, false⟩
/-- A window of zero samples (R15). -/
def zeroWindow : List Sample := List.replicate 32 ⟨0, false⟩

def CurrentChannel.rest : CurrentChannel := ⟨0, false, zeroWindow⟩
def VoltageChannel.rest : VoltageChannel := ⟨0, false, zeroWindow, none, [], 0, none⟩

/-! ### Times of the rules, in microseconds -/

def ms : Nat := 1000
def second : Nat := 1000000

def presenceQualification : Nat := 500 * ms       -- R6
def lockQualification : Nat := 500 * ms           -- R9
def holdoverTime : Nat := 10 * second             -- R8
def crossingTimeout : Nat := 30000                -- R7
def frameGap : Nat := 20 * ms + 1                 -- R171, the first microsecond past 20 ms
def capacitorPeriod : Nat := 10 * ms              -- R83
def tripPulse : Nat := 40 * ms                    -- R70
def tripWindow : Nat := 100 * ms                  -- R70
def closePulse : Nat := 60 * ms                   -- R73
def closeWindow : Nat := 150 * ms                 -- R73
def watchTime : Nat := 200 * ms                   -- R79
def lowEnergyTime : Nat := 60 * second            -- R86
def batteryPeriod : Nat := second                 -- R112
def absorbTime : Nat := 4 * 3600 * second         -- R116
def floatDropTime : Nat := 60 * second            -- R116
def disconnectTime : Nat := 60 * second           -- R117
def shutdownRadioTime : Nat := 10 * second        -- R119, R154
def shutdownStoreTime : Nat := 5 * second         -- R119
def floatForTest : Nat := 3600 * second           -- R120
def day : Nat := 86400 * second                   -- R121
def attemptRepeat : Nat := 3600 * second          -- R121
def powerLossRetry : Nat := 900 * second          -- R133
def restTime : Nat := 10 * second                 -- R122
def loadTime : Nat := 20 * second                 -- R122
def suspensionTime : Nat := 120 * second          -- R124
def warmUp : Nat := 500 * ms                      -- R152
def channelWaitLimit : Nat := 10 * second         -- R144
def listenPeriod : Nat := 60 * second             -- R153
def listenLength : Nat := 2 * second              -- R153

/-- The holdoff of a station slot (R143). -/
def holdoffLength (slot : Nat) : Nat := (50 + 20 * slot) * ms

/-- Readings of a float window, and measurements of a hot hour (R128). -/
def floatWindow : Nat := 86400
def hotHour : Nat := 3600

end Sys2Proof.Machine
end

