-- ==== Sys2Proof/Machine/State.lean ====
section
/-! DEFINITION. The state of the part, block by block (00 Table 0-1), the reasons a step can stop, and the state after reset. -/

namespace Sys2Proof.Machine

/-- Every piece of state the spec gives the part, held by the block that owns it, and two fields of the model's own: the queue of
waiting commands, and the number of free values taken so far (log 11). -/
structure State where
  clock : Clock
  lmu : Lmu
  oeb : Oeb
  sqc : Sqc
  mdr : Mdr
  au : Au
  bcu : Bcu
  rpu : Rpu
  oru : Oru
  ports : Ports
  nvs : Nvs
  /-- The supply is present (R185, POWER_LOSS). -/
  powered : Bool
  /-- The model's own: how many free values have been taken. -/
  freeIndex : Nat
  /-- The model's own: the commands that wait, first in, first out. -/
  pending : List Instr
  deriving DecidableEq, Repr

/-- No command of this part stops it (INVENTORY.md, Faults): there is no fault to raise. -/
inductive Fault where
  deriving DecidableEq, Repr

/-- The only refusal: a row of the table without a meaning. Every row has one, so no arm of `exec` raises it. -/
inductive Refusal where
  /-- Raised by `exec` for a row that is not modelled yet; safe. -/
  | notModelled (mnemonic : String)
  deriving DecidableEq, Repr

/-- The part right after its first power-on, fresh from the factory: every stored record fails its check, so the substitutes of
Table 10-1 stand and their writes are queued (10.6, R186, R187), and the pole positions have not been reported yet (R63). Values no
rule gives are those of log 7. -/
def State.reset : State where
  clock := ⟨0, 0, 0, true⟩
  lmu :=
    { settings := .default, tracker := .nominal, period := 16667, interval := 2083, lastUpdate := 0
      measuredPeriod := 16667, measuredTracker := .nominal
      ia := .rest, ib := .rest, ic := .rest, ig := .rest
      vaS := .rest, vbS := .rest, vcS := .rest, vaL := .rest, vbL := .rest, vcL := .rest }
  oeb :=
    { pa := .rest, pb := .rest, pc := .rest, pg := .rest, ip := .rest, igi := .rest
      ha := .rest, hb := .rest, hc := .rest, hg := .rest
      hotActive := true, u1 := curveD1, u2 := curveD2 }
  sqc :=
    { sequence := .opened, shot := 0, afterCommand := false, active := .default, staged := none
      picked := false, reported := false }
  mdr :=
    { poles := ⟨.invalid, .invalid, .invalid⟩, op := none, tripDrive := false, closeDrive := false
      latch := true, settings := .default, vcap := 0, lastMeasurement := 0, estimate := 0, measuredEstimate := 0
      rechargeSince := none, lowWatch := .stopped, invalidWatch := none, mixedWatch := none }
  au :=
    { tags := [.failSafe 0], placements := 1, block := false, mode := .localMode, modeTaken := false
      supervisorHeld := false, handlePulled := true, buttonPressed := true
      keyStand := none, supervisorStand := none, handleStand := none, buttonStand := none
      selection := none, panel := .none }
  bcu :=
    { stored := .default, v := 0, i := 0, t := 0, measured := false, lastMeasurement := 0
      vFloatSet := 27000, vAbsSet := 28800, acPresent := false, acQualified := false, acStand := none
      thermalHold := false
      charger := .off, tier := .normal, measuredTier := .normal, measuredCharger := .off
      disconnectSince := none, floatSum := 0, floatCount := 0, hotCount := 0
      test := none, loadOn := false, opInFlight := false, recharging := false, nextDay := day
      nextAttempt := none, lastReason := none, failing := false, shutdown := .none, contactorClosed := true }
  rpu :=
    { qAlarm := [⟨1, .alarm .storeFault, 1, ⟨0, 0, true⟩, 1,
        [0x01, 0x13, 0x01, 0, 0x02, 0, 0x03, 0, 0x04, 1, 0x05, 0, 0x06, 0, 0x07, 0, 0x08, 0, 0x09, 0, 0x0A, 0, 0x0B, 0,
         0x0C, 0, 0x0D, 0, 0x0E, 0, 0x0F, 0, 0x10, 0, 0x11, 0, 0x12, 0, 0x13, 0], 0, none, 1⟩,
        ⟨2, .alarm .mechanismFault, 2, ⟨0, 0, true⟩, 2, [0x07, 0x03, 0x03, 0x03, 0], 0, none, 1⟩]
      qEvent := [⟨0, .event .start, 0, ⟨0, 0, true⟩, 0, [0x01], 0, none, 0⟩]
      qMeasure := [], inFlight := none, held := [], singleTrial := false, nextNumber := 3, nextOrder := 3
      lost := 0, score := 0, standing := .good, settings := .default, answers := []
      radio := .warming (500 * ms), tx := none, carrier := false, holdoff := some (50 * ms), channelWait := none
      ackTimer := none, probe := .stopped, listen := .stopped, measureTimer := some (900 * second), lastCall := .none }
  oru := { ring := [], counters := .zero }
  ports :=
    { cAnswers := [], pAnswers := [], cHold := none, pHold := none
      cAlerts := ⟨0xA020, 0xFFFF⟩, pAlerts := ⟨0xA020, 0xFFFF⟩, resetCause := .powerOn, resetIn := false
      miso := .bytes [], pFrame := [], pFree := 0, pPartial := [], lPartial := [], pLast := 0, lLast := 0 }
  nvs :=
    { store := .blank
      queue :=
        [.userCurve1 curveD1, .userCurve2 curveD2, .tagSlot 0 (some (.failSafe 0)), .tagSlot 1 none, .tagSlot 2 none,
         .tagSlot 3 none, .tagSlot 4 none, .tagSlot 5 none, .tagSlot 6 none, .tagSlot 7 none, .authority false,
         .mechanism .substitute, .counters .zero, .recordRing [], .battery .default, .link .default, .tracker .default,
         .shutdownMark false]
      writing := some ⟨.activeSettings .default, false⟩ }
  powered := true
  freeIndex := 0
  pending := []

end Sys2Proof.Machine
end

