-- ==== Sys2Proof/Machine/Encoding.lean ====
section
/-! DEFINITION. Field encoding: R190 and R191. Named values count from 0x01 in the order of their tables (log 18 to 20 where the order is read by inference). -/

namespace Sys2Proof.Machine

/-! ### Numbers, optional fields, lists -/

/-- `n` in `width` bytes, most significant first (R190). -/
def be : (width : Nat) → (n : Nat) → List Byte
  | 0, _ => []
  | w + 1, n => BitVec.ofNat 8 (n / 256 ^ w) :: be w n

/-- A number whose range includes negative values: two's complement (R191). -/
def beInt (width : Nat) (i : Int) : List Byte := be width (i % (256 ^ width : Nat)).toNat

/-- A mark, flag or live status (R191). -/
def encFlag (b : Bool) : List Byte := [if b then 1 else 0]

/-- An optional field: a presence byte, then the field (R190). -/
def encOpt {α : Type} (enc : α → List Byte) : Option α → List Byte
  | none => [0]
  | some a => 1 :: enc a

/-- A list whose number of entries varies: a count byte, then the entries (R191). -/
def encList {α : Type} (enc : α → List Byte) (l : List α) : List Byte :=
  BitVec.ofNat 8 l.length :: l.flatMap enc

/-- Text: its length, then its bytes (R190). -/
def encText (l : List Byte) : List Byte := BitVec.ofNat 8 l.length :: l

/-- A time of day: seconds, then milliseconds with the TIME_UNSET mark as top bit (R190). -/
def Stamp.enc (t : Stamp) : List Byte :=
  be 4 t.seconds.toNat ++ be 2 (t.millis + if t.unset then 0x8000 else 0)

/-! ### Named values -/

def portCode : Port → Byte
  | .c => 1 | .p => 2 | .l => 3

def channelCode : Channel → Byte
  | .vaS => 1 | .vbS => 2 | .vcS => 3 | .vaL => 4 | .vbL => 5 | .vcL => 6

def controlModeCode : ControlMode → Byte
  | .localMode => 1 | .remoteMode => 2

def Tracker.code : Tracker → Byte
  | .locked _ => 1 | .holdover _ => 2 | .nominal => 3

def presenceCode (live : Bool) : Byte := if live then 1 else 2

def Element.code : Element → Byte
  | .pa => 1 | .pb => 2 | .pc => 3 | .pg => 4 | .ip => 5 | .igi => 6 | .ha => 7 | .hb => 8 | .hc => 9 | .hg => 10

def Curve.code : Curve → Byte
  | .f1 => 1 | .d1 => 2 | .d2 => 3 | .d3 => 4 | .u1 => 5 | .u2 => 6

def ResetMode.code : ResetMode → Byte
  | .instant => 1 | .timed => 2

/-- ON or OFF (R98, Table 3-1). -/
def onOffCode (on : Bool) : Byte := if on then 1 else 2

def Sequence.code : Sequence → Byte
  | .ready => 1 | .tripping _ _ => 2 | .interval _ => 3 | .energyWait _ => 3 | .closing _ => 4 | .reclaim _ => 5
  | .lockout _ => 6 | .opened => 7

/-- The RECLOSE_WAIT substate (Table 3-2). -/
def Sequence.substate : Sequence → Option Byte
  | .interval _ => some 1 | .energyWait _ => some 2 | _ => none

def LockoutCause.code : LockoutCause → Byte
  | .shots => 1 | .tag => 2 | .block => 3 | .afterCommand => 4 | .hotLine => 5 | .authority => 6 | .energy => 7
  | .command => 8 | .mechanism => 9

def Sequence.cause : Sequence → Option LockoutCause
  | .lockout cause => some cause | _ => none

def Indication.code : Indication → Byte
  | .closed => 1 | .opened => 2 | .invalid => 3

def Poles.enc (p : Poles) : List Byte := [p.a.code, p.b.code, p.c.code]

def MechCause.code : MechCause → Byte
  | .tripFailed => 1 | .closeFailed => 2 | .closeDiscordant => 3 | .invalidIndication => 4 | .poleDropped => 5
  | .unexpectedClose => 6 | .powerOn => 7

/-- The origins of Table 8-1; a reclose is recorded as PROTECTION (R77). -/
def Origin.code : Origin → Byte
  | .protection => 1 | .c => 2 | .p => 3 | .l => 4 | .button => 5 | .discordance => 6 | .tag => 7 | .reclose => 1

def RecordKind.code : RecordKind → Byte
  | .protTrip => 1 | .cmdTrip => 2 | .externalOpen => 3 | .reclose => 4 | .cmdClose => 5 | .seqAdvance => 6 | .lockout => 7

def OpOutcome.code : OpOutcome → Byte
  | .complete => 1 | .retripComplete => 2 | .discordant => 3 | .failed => 4 | .cut => 5

def TagKind.code : TagKind → Byte
  | .hotLine => 1 | .doNotClose => 2

def supervisorCode (held : Bool) : Byte := if held then 1 else 2
def handleCode (pulled : Bool) : Byte := if pulled then 1 else 2

def CancelCause.code : CancelCause → Byte
  | .cancel => 1 | .trip => 2 | .tag => 3 | .mode => 4 | .reset => 5

def Panel.code : Panel → Byte
  | .none => 1 | .running _ => 2 | .fired => 3 | .refused _ => 4 | .cancelled _ => 5

def acCode (present : Bool) : Byte := if present then 1 else 2

def Charger.code : Charger → Byte
  | .off => 1 | .bulk => 2 | .absorb _ => 3 | .float _ _ => 4 | .testHold => 5

def Tier.code : Tier → Byte
  | .normal => 1 | .low => 2 | .critical => 3 | .disconnect => 4

def TestMode.code : TestMode → Byte
  | .attended => 1 | .background => 2 | .scheduled => 3

/-- The test state (Table 6-4): IDLE when no test runs. -/
def testStateCode : Option TestRun → Byte
  | none => 1
  | some r => match r.phase with
    | .rest _ => 2 | .load _ => 3 | .suspended _ => 4

def TestOutcome.code : TestOutcome → Byte
  | .pass => 1 | .fail => 2 | .aborted => 3

def TestCause.code : TestCause → Byte
  | .loadOpen => 1 | .acLoss => 2 | .request => 3 | .tier => 4 | .interrupted => 5 | .suspensionTimeout => 6 | .powerLoss => 7

/-- Reasons are numbered by the rows of Table 6-5 (log 19, DEDUCED). -/
def Precondition.code : Precondition → Byte
  | .busy => 1 | .noAc => 2 | .notFloating => 3 | .tier => 4 | .recharge => 5 | .energy => 6 | .sequence => 7

/-- R129 names FAILING first (log 20, DEDUCED). -/
def verdictCode (failing : Bool) : Byte := if failing then 1 else 2

def AlarmId.code : AlarmId → Byte
  | .lockout => 1 | .mechanismFault => 2 | .poleDiscordance => 3 | .lowEnergy => 4 | .batteryLow => 5 | .batteryCritical => 6
  | .batteryDisconnect => 7 | .batteryFailing => 8 | .acSupplyLost => 9 | .tagTable => 10 | .storeFault => 11 | .wearLimit => 12

def EventKind.code : EventKind → Byte
  | .trip => 1 | .close => 2 | .seqAdvance => 3 | .settingsActivated => 4 | .controlMode => 5 | .frequencyState => 6
  | .acSupplyRestored => 7 | .tierCleared => 8 | .batteryTestResult => 9 | .verdictGood => 10 | .start => 11

def MeasureSet.code : MeasureSet → Byte
  | .load => 1 | .voltage => 2 | .battery => 3 | .energy => 4

/-- The class byte of a report frame (R194). -/
def ReportKind.classCode : ReportKind → Byte
  | .alarm _ => 1 | .event _ => 2 | .measure _ => 3

def ReportKind.code : ReportKind → Byte
  | .alarm id => id.code | .event k => k.code | .measure m => m.code

def Standing.code : Standing → Byte
  | .good => 1 | .weak => 2 | .silent => 3

/-- The order of R180's text (log 20). -/
def ResetCause.code : ResetCause → Byte
  | .powerOn => 1 | .afterDisconnect => 2 | .interfaceReset => 3

/-- Table 11-5. -/
def Code.value : Code → Byte
  | .done => 0x00 | .accepted => 0x01 | .busy => 0x02 | .mode => 0x03 | .tag => 0x04 | .energy => 0x05
  | .mechFault => 0x06 | .handleLock => 0x07 | .notSelected => 0x08 | .selectedElsewhere => 0x09 | .invalid => 0x0A
  | .full => 0x0B | .duplicate => 0x0C | .authority => 0x0D | .empty => 0x0E | .conditions => 0x0F | .gone => 0x10
  | .notPermitted => 0x11 | .unknown => 0x12 | .frameError => 0x13

/-- The record ids of R190. -/
def RecordId.code : RecordId → Byte
  | .activeSettings => 0x01 | .userCurve1 => 0x02 | .userCurve2 => 0x03 | .tagSlot n => BitVec.ofNat 8 (4 + n)
  | .authority => 0x0C | .mechanism => 0x0D | .counters => 0x0E | .recordRing => 0x0F | .battery => 0x10 | .link => 0x11
  | .tracker => 0x12 | .shutdownMark => 0x13

/-! ### Settings records as bodies -/

def CurveChoice.fields (c : CurveChoice) : List Nat := [c.curve.code.toNat, c.dial, c.adder]

def InstantSettings.fields (i : InstantSettings) : List Nat := [i.setting, i.count, i.mask.toNat]

/-- The 33 fields of Table 3-1 as the numbers a frame carries. -/
def Settings.fields (s : Settings) : List Nat :=
  [s.phasePickup, s.groundPickup] ++ s.phaseFast.fields ++ s.phaseDelayed.fields ++ s.groundFast.fields
    ++ s.groundDelayed.fields
    ++ [s.trips, s.fast, s.interval1, s.interval2, s.interval3, s.reclaim, s.resetMode.code.toNat, s.resetTime]
    ++ s.ip.fields ++ s.igi.fields
    ++ [(onOffCode s.coordination).toNat, s.hotPhasePickup, s.hotGroundPickup, s.hotTime, s.energyWait]

/-- The bytes each of those fields takes (R191: the fewest of one, two or four that hold its range). -/
def settingsWidths : List Nat :=
  [2, 2, 1, 2, 2, 1, 2, 2, 1, 2, 2, 1, 2, 2, 1, 1, 4, 4, 4, 4, 1, 2, 2, 1, 1, 2, 1, 1, 1, 2, 2, 2, 4]

def mechanismWidths : List Nat := [2, 4, 4, 4]
def batteryWidths : List Nat := [2, 2, 2, 2, 1, 2, 1, 1, 1, 1, 1, 1, 1, 1, 1]
def linkWidths : List Nat := [2, 2, 1, 2, 1, 2, 1, 2, 2, 1, 1]

def encFields (widths fields : List Nat) : List Byte :=
  (widths.zip fields).flatMap fun p => be p.1 p.2

def Settings.enc (s : Settings) : List Byte := encFields settingsWidths s.fields

/-- The same numbers for the other settings records, in the order of R87 and of Tables 6-7 and 7-6. -/
def MechanismSettings.fields (m : MechanismSettings) : List Nat := [m.capacitance, m.target, m.eTrip, m.eClose]

def BatterySettings.fields (b : BatterySettings) : List Nat :=
  [b.bulk, b.taper, b.vFloat, b.vAbs, b.interval, b.floor, b.rated] ++ b.thresholds

def LinkSettings.fields (l : LinkSettings) : List Nat :=
  [l.address.toNat, l.mask.toNat, l.slot, l.ackTimeout, l.maxAttempts, l.retryBase, l.warnLevel, l.probeInterval, l.measureInterval,
   l.selectTimeout, l.panelDelay]

/-! ### Entries -/

/-- A TAG LIST entry (11.4). -/
def Tag.enc (t : Tag) : List Byte :=
  [BitVec.ofNat 8 t.slot, t.kind.code, portCode t.origin] ++ be 2 t.crew ++ t.placed.enc ++ encText t.note

/-- A TAG_TABLE payload entry (R194). -/
def Tag.brief (t : Tag) : List Byte :=
  [BitVec.ofNat 8 t.slot, t.kind.code, portCode t.origin] ++ be 2 t.crew

/-- The fields of a test history entry (R127). -/
def TestEntry.enc (e : TestEntry) : List Byte :=
  e.time.enc ++ [e.mode.code, e.outcome.code] ++ encOpt (fun c => [TestCause.code c]) e.cause ++ encOpt (be 2) e.vRest
    ++ encOpt (be 2) e.vLoad ++ encOpt (be 2) e.iLoad ++ encOpt (be 4) e.rInt

def Currents.enc (c : Currents) : List Byte := be 2 c.ia ++ be 2 c.ib ++ be 2 c.ic ++ be 2 c.ig

/-- Every field of an operation record, absent ones left out (R162, Table 8-1). -/
def OpRecord.enc (r : OpRecord) : List Byte :=
  be 2 r.number ++ [r.kind.code] ++ r.time.enc ++ be 1 r.shotAfter ++ [r.origin.code]
    ++ encOpt (fun e => [Element.code e]) r.element ++ encOpt Currents.enc r.currents ++ encOpt (be 4) r.energyBefore
    ++ encOpt (fun o => [OpOutcome.code o]) r.outcome
    ++ encOpt encFlag (if r.lowEnergy then some true else none)

/-- The answer of READ COUNTERS (R166). -/
def Counters.enc (c : Counters) : List Byte :=
  be 4 c.total ++ be 4 c.protTrips ++ be 4 c.lockouts ++ be 4 c.wear.a ++ be 4 c.wear.b ++ be 4 c.wear.c
    ++ encFlag c.marks.a ++ encFlag c.marks.b ++ encFlag c.marks.c ++ be 4 c.limit ++ be 2 c.next

/-- The panel close record: its state, then the expiry, the code or the cause it has (R108, log 18). -/
def Panel.enc (expiry : Nat → Stamp) (p : Panel) : List Byte :=
  [p.code]
    ++ encOpt Stamp.enc (match p with | .running t => some (expiry t) | _ => Option.none)
    ++ encOpt (fun c => [Code.value c]) (match p with | .refused c => some c | _ => Option.none)
    ++ encOpt (fun c => [CancelCause.code c]) (match p with | .cancelled c => some c | _ => Option.none)

/-! ### CRC (R196) -/

/-- One of the eight left shifts of step 2. -/
def crcShift (r : Word16) : Word16 := if r.msb then (r <<< 1) ^^^ 0x1021 else r <<< 1

/-- Both steps for one byte. -/
def crcByte (r : Word16) (b : Byte) : Word16 :=
  let r := r ^^^ (b.setWidth 16 <<< 8)
  crcShift (crcShift (crcShift (crcShift (crcShift (crcShift (crcShift (crcShift r)))))))

def crc (bytes : List Byte) : Word16 := bytes.foldl crcByte 0xFFFF

/-! ### Stored records (R183, Table 10-1) -/

/-- A TAG_SLOT entry as it is stored, with its placement number (R91). -/
def Tag.stored (t : Tag) : List Byte :=
  [t.kind.code, portCode t.origin] ++ be 2 t.crew ++ t.placed.enc ++ encText t.note ++ be 4 t.number

/-- The bytes of an attribute's raw value (R191): its rule gives attribute 3 the range to 255 (R128), and attributes 5, 6 and 7 the range to
65,535 (R118, Table 6-4, R128); no rule states the range of the others, of which attribute 2 can be negative (log 56, DEDUCED). -/
def rawWidth (id : Nat) : Nat :=
  match id with
  | 3 => 1
  | 5 | 6 | 7 => 2
  | _ => 4

/-- The raw value (or absent), the normalized value and the worst value of attribute `id` (R132). -/
def HealthAttribute.enc (id : Nat) (a : HealthAttribute) : List Byte :=
  encOpt (beInt (rawWidth id)) a.raw ++ be 1 a.normalized ++ be 1 a.worst

def Attributes.stored (a : Attributes) : List Byte :=
  a.resistance.enc 1 ++ a.loadMargin.enc 2 ++ a.failures.enc 3 ++ a.floatCurrent.enc 4 ++ a.deepDischarges.enc 5
    ++ a.days.enc 6 ++ a.hotHours.enc 7 ++ a.rechargeTime.enc 8

def BatteryRecord.stored (b : BatteryRecord) : List Byte :=
  encFields batteryWidths b.settings.fields ++ b.attributes.stored ++ encList TestEntry.enc b.history ++ encFlag b.pending
    ++ be 2 b.deep ++ be 2 b.hot ++ be 2 b.days ++ be 1 b.fails

def CurveTable.stored (t : CurveTable) : List Byte := t.flatMap fun p => be 2 p.1 ++ be 4 p.2

/-- The content length a record id calls for: the longest content of its kind (log 8). -/
def RecordId.size : RecordId → Nat
  | .activeSettings => settingsWidths.sum
  | .userCurve1 | .userCurve2 => 48
  | .tagSlot _ => 40
  | .authority | .shutdownMark => 1
  | .mechanism => 1 + mechanismWidths.sum
  | .counters => 33
  | .recordRing => 993
  | .battery => 268
  | .link => linkWidths.sum
  | .tracker => 10

def Content.id : Content → RecordId
  | .activeSettings _ => .activeSettings
  | .userCurve1 _ => .userCurve1
  | .userCurve2 _ => .userCurve2
  | .tagSlot n _ => .tagSlot n
  | .authority _ => .authority
  | .mechanism _ => .mechanism
  | .counters _ => .counters
  | .recordRing _ => .recordRing
  | .battery _ => .battery
  | .link _ => .link
  | .tracker _ => .tracker
  | .shutdownMark _ => .shutdownMark

/-- The fields of a content, encoded as in a frame (log 8). -/
def Content.fields : Content → List Byte
  | .activeSettings s => s.enc
  | .userCurve1 t | .userCurve2 t => t.stored
  | .tagSlot _ entry => encOpt Tag.stored entry
  | .authority block => encFlag block
  | .mechanism m => encFlag m.latch ++ encFields mechanismWidths m.settings.fields
  | .counters c => c.enc
  | .recordRing ring => encList OpRecord.enc ring
  | .battery b => b.stored
  | .link l => encFields linkWidths l.fields
  | .tracker t => encList (fun c => [channelCode c]) t.sources ++ be 2 t.nominalFreq ++ be 2 t.nominalVolts ++ be 1 t.squelch
  | .shutdownMark set => encFlag set

/-- The stored bytes of a content: its fields, filled with 0x00 up to the length its record calls for (log 8). -/
def Content.bytes (c : Content) : List Byte := c.fields ++ List.replicate (c.id.size - c.fields.length) 0

/-- The CRC over the id, the length and the content, in that order (R183). -/
def checkValue (id : RecordId) (length : Nat) (c : Content) : Word16 := crc (id.code :: be 2 length ++ c.bytes)

/-- R183: the stored length is the one the id calls for, and the stored check value is the CRC of what is stored. -/
def StoredRecord.passes (r : StoredRecord) : Bool := r.length == r.id.size && r.check == checkValue r.id r.length r.content

/-- A record written as a whole (R183). -/
def StoredRecord.whole (c : Content) : StoredRecord := ⟨c.id, c.id.size, c, checkValue c.id c.id.size c⟩

/-- A record whose write was cut off or failed: its check value does not match (R183, log 8). -/
def StoredRecord.torn (c : Content) : StoredRecord := { whole c with check := ~~~checkValue c.id c.id.size c }

end Sys2Proof.Machine
end

