-- ==== Sys2Proof/Machine/Flags.lean ====
section
/-! DEFINITION. The alert flags: occurrences, live statuses and the attention outputs (9.4). -/

namespace Sys2Proof.Machine

/-- The energy a close needs: E_close + E_trip (R67). -/
def MechanismSettings.closeEnergy (m : MechanismSettings) : Nat := m.eClose + m.eTrip

/-- The place of a flag in Table 9-3, from 0. -/
def Flag.index : Flag → Nat
  | .trip => 0 | .close => 1 | .lockout => 2 | .tagChanged => 3 | .modeChanged => 4 | .mechFault => 5 | .energyLow => 6
  | .batteryTier => 7 | .batteryVerdict => 8 | .testDone => 9 | .freqState => 10 | .acSupply => 11 | .linkStanding => 12
  | .storeFault => 13 | .settingsActive => 14 | .resetSeen => 15

/-- The flag's bit in a set (R191). -/
def Flag.bit (f : Flag) : Word16 := BitVec.ofNat 16 (2 ^ f.index)

/-- An occurrence sets the flag's sticky bit (R177). -/
def AlertSet.raise (f : Flag) (a : AlertSet) : AlertSet := { a with sticky := a.sticky ||| f.bit }

/-- The attention output of a port follows its set (R178). -/
def AlertSet.attn (a : AlertSet) : Bool := a.sticky &&& a.mask != 0

def Ports.raise (f : Flag) (p : Ports) : Ports :=
  { p with cAlerts := p.cAlerts.raise f, pAlerts := p.pAlerts.raise f }

/-- Raising an occurrence sets the flag in both alert sets (R177). -/
def State.raise (f : Flag) (s : State) : State := { s with ports := s.ports.raise f }

/-- The live status of a flag, computed from its owner's state (Table 9-3). -/
def State.live (f : Flag) (s : State) : Bool :=
  match f with
  | .lockout => match s.sqc.sequence with
    | .lockout _ => true
    | _ => false
  | .tagChanged => !s.au.tags.isEmpty
  | .mechFault => s.mdr.latch
  | .energyLow => s.mdr.estimate < s.mdr.settings.closeEnergy
  | .batteryTier => s.bcu.tier != .normal
  | .batteryVerdict => s.bcu.failing
  | .freqState => match s.lmu.tracker with
    | .locked _ => false
    | _ => true
  | .acSupply => !s.bcu.acPresent
  | .linkStanding => s.rpu.standing != .good
  | .trip | .close | .modeChanged | .testDone | .storeFault | .settingsActive | .resetSeen => false

/-- The flags that Table 9-3 gives a live status. -/
def Flag.withLive : List Flag :=
  [.lockout, .tagChanged, .mechFault, .energyLow, .batteryTier, .batteryVerdict, .freqState, .acSupply, .linkStanding]

/-- The outputs ATTN_C and ATTN_P (R178). -/
def State.attnC (s : State) : Bool := s.ports.cAlerts.attn
def State.attnP (s : State) : Bool := s.ports.pAlerts.attn

end Sys2Proof.Machine
end

