-- ==== Sys2Proof/Machine/Ops.lean ====
section
/-! DEFINITION. The operations several blocks share: time, the store write queue, report creation, record creation, answers. -/

namespace Sys2Proof.Machine

/-! ### Time (R167) -/

def Clock.stamp (c : Clock) : Stamp := ⟨c.seconds, c.millis, c.unset⟩

/-- `milliseconds` later on the time of day: the milliseconds wrap into the seconds, the seconds into 0 (R167). -/
def Stamp.later (milliseconds : Nat) (t : Stamp) : Stamp :=
  { t with
    seconds := t.seconds + BitVec.ofNat 32 ((t.millis + milliseconds) / 1000)
    millis := (t.millis + milliseconds) % 1000 }

/-- Running time moves on to `t`, and the time of day with it: the milliseconds advance as the running time passes whole milliseconds,
after a TIME SET too (R167, R168; log 54, DESIGN CHOICE). A `t` already past changes nothing. -/
def Clock.reach (t : Nat) (c : Clock) : Clock :=
  let later := c.stamp.later (max t c.running / ms - c.running / ms)
  { c with running := max t c.running, seconds := later.seconds, millis := later.millis }

def State.now (s : State) : Nat := s.clock.running

/-- A timer's expiry command brings the running time up to its deadline (log 2). -/
def State.reach (t : Nat) (s : State) : State := { s with clock := s.clock.reach t }

def State.stamp (s : State) : Stamp := s.clock.stamp

/-- A deadline as a time of day, in the time of day in force (R167). -/
def State.stampAt (t : Nat) (s : State) : Stamp := s.stamp.later (t / ms - s.now / ms)

/-! ### Inputs read through a contact (Table 5-1, R89, R90, R110, R113) -/

/-- How long a reading of the input must stand, where State keeps one that does not yet, the state in force (none before the first one
has been taken), and what taking a reading does. -/
structure Contact (α : Type) where
  time : Nat
  stand : State → Option (Stand α)
  keep : Option (Stand α) → State → State
  inForce : State → Option α
  take : α → State → State

/-- A reading that has stood its time is taken. -/
def Contact.settle {α : Type} (k : Contact α) (s : State) : State :=
  match k.stand s with
  | some x => if x.ends ≤ s.now then k.take x.reading (k.keep none s) else s
  | none => s

/-- The stand that begins when the contact changes to the reading: none for one equal to the state in force. -/
def Contact.next {α : Type} [DecidableEq α] (k : Contact α) (reading : α) (s : State) : Option (Stand α) :=
  if k.inForce s = some reading then none else some ⟨reading, s.now + k.time⟩

/-- The contact changes to the reading: a reading that has stood its time before is taken first, one that has not is dropped. -/
def Contact.changes {α : Type} [DecidableEq α] (k : Contact α) (reading : α) (s : State) : State :=
  let s := k.settle s
  k.keep (k.next reading s) s

/-- What a contact command does. A reading that stands has stood its time: the running time comes up to the end of its stand (log 2), and
it is taken. Any other reading is the contact's change (log 14, DESIGN CHOICE). -/
def Contact.hear {α : Type} [DecidableEq α] (k : Contact α) (reading : α) (s : State) : State :=
  match k.stand s with
  | some x => if x.reading = reading then k.settle (s.reach x.ends) else k.changes reading s
  | none => k.changes reading s

/-! ### The store (10.1, 10.2) -/

/-- Puts the record in the place of the copy of its id, or adds it (R183, one copy of each). -/
def Store.keep (r : StoredRecord) (st : Store) : Store :=
  ⟨if st.records.any (fun x => x.id == r.id) then st.records.map fun x => if x.id == r.id then r else x else st.records ++ [r]⟩

/-- The record has been written whole: it passes its check with this content (R183). -/
def Store.put (c : Content) (st : Store) : Store := st.keep (.whole c)

/-- The record no longer passes its check: its write was cut off or failed (R183). -/
def Store.tear (c : Content) (st : Store) : Store := st.keep (.torn c)

/-- The content of the record, when it passes its check; a record never written fails it (R183). -/
def Store.read (id : RecordId) (st : Store) : Option Content :=
  (st.records.find? fun r => r.id == id).bind fun r => if r.passes then some r.content else none

/-! What each record hands its owner (R186). -/

def Store.activeSettings (st : Store) : Option Settings :=
  match st.read .activeSettings with | some (.activeSettings x) => some x | _ => none
def Store.userCurve1 (st : Store) : Option CurveTable :=
  match st.read .userCurve1 with | some (.userCurve1 x) => some x | _ => none
def Store.userCurve2 (st : Store) : Option CurveTable :=
  match st.read .userCurve2 with | some (.userCurve2 x) => some x | _ => none
def Store.slot (n : Nat) (st : Store) : Option (Option Tag) :=
  match st.read (.tagSlot n) with | some (.tagSlot _ x) => some x | _ => none
def Store.authority (st : Store) : Option Bool :=
  match st.read .authority with | some (.authority x) => some x | _ => none
def Store.mechanism (st : Store) : Option MechanismRecord :=
  match st.read .mechanism with | some (.mechanism x) => some x | _ => none
def Store.counters (st : Store) : Option Counters :=
  match st.read .counters with | some (.counters x) => some x | _ => none
def Store.recordRing (st : Store) : Option (List OpRecord) :=
  match st.read .recordRing with | some (.recordRing x) => some x | _ => none
def Store.battery (st : Store) : Option BatteryRecord :=
  match st.read .battery with | some (.battery x) => some x | _ => none
def Store.link (st : Store) : Option LinkSettings :=
  match st.read .link with | some (.link x) => some x | _ => none
def Store.tracker (st : Store) : Option TrackerSettings :=
  match st.read .tracker with | some (.tracker x) => some x | _ => none
def Store.shutdownMark (st : Store) : Option Bool :=
  match st.read .shutdownMark with | some (.shutdownMark x) => some x | _ => none

/-- With no write in progress, the oldest entry leaves the queue and is written (R185). -/
def Nvs.kick (n : Nvs) : Nvs :=
  match n.writing, n.queue with
  | none, c :: rest => { n with queue := rest, writing := some ⟨c, false⟩ }
  | _, _ => n

/-- A placement replaces the queued entry of its id in place, or joins the end (R184). -/
def Nvs.place (c : Content) (n : Nvs) : Nvs :=
  Nvs.kick <|
    if n.queue.any (fun e => e.id == c.id) then
      { n with queue := n.queue.map fun e => if e.id == c.id then c else e }
    else { n with queue := n.queue ++ [c] }

/-- What a record holds now, as its owner has it (Table 10-1). SHUTDOWN_MARK is placed with its value by R188 and R189. -/
def State.content (id : RecordId) (s : State) : Content :=
  match id with
  | .activeSettings => .activeSettings s.sqc.active
  | .userCurve1 => .userCurve1 s.oeb.u1
  | .userCurve2 => .userCurve2 s.oeb.u2
  | .tagSlot n => .tagSlot n (s.au.tags.find? fun t => t.slot == n)
  | .authority => .authority s.au.block
  | .mechanism => .mechanism ⟨s.mdr.latch, s.mdr.settings⟩
  | .counters => .counters s.oru.counters
  | .recordRing => .recordRing s.oru.ring
  | .battery => .battery s.bcu.stored
  | .link => .link s.rpu.settings
  | .tracker => .tracker s.lmu.settings
  | .shutdownMark => .shutdownMark false

/-- The owner places a write of its record (R184). -/
def State.place (id : RecordId) (s : State) : State :=
  { s with nvs := s.nvs.place (s.content id) }

/-! ### Creating reports (7.2 to 7.5) -/

def ReportKind.isAlarm : ReportKind → Bool
  | .alarm _ => true
  | _ => false

def ReportKind.isEvent : ReportKind → Bool
  | .event _ => true
  | _ => false

def ReportKind.isMeasure : ReportKind → Bool
  | .measure _ => true
  | _ => false

/-- The objects in use (Table 7-1). -/
def Rpu.used (r : Rpu) : List Report := r.qAlarm ++ r.qEvent ++ r.qMeasure ++ r.inFlight.toList ++ r.held

/-- The lowest-numbered object in FREE (log 21). -/
def Rpu.freeObject (r : Rpu) : Nat :=
  ((List.range 48).find? fun n => r.used.all fun x => x.object != n).getD 48

/-- A new report (R135): the next number, the created time of the moment, attempts 0, no not-before time. -/
def Rpu.fresh (now : Stamp) (kind : ReportKind) (payload : List Byte) (classCount : Nat) (r : Rpu) : Report where
  object := r.freeObject
  kind := kind
  number := r.nextNumber
  created := now
  order := r.nextOrder
  payload := payload
  attempts := 0
  notBefore := none
  classCount := classCount

/-- The counters of R135 move on past a created report. -/
def Rpu.count (r : Rpu) : Rpu :=
  { r with nextNumber := (r.nextNumber + 1) % 65536, nextOrder := r.nextOrder + 1 }

/-- R136: merging a new alarm of the identity into an object of it. -/
def Report.merge (id : AlarmId) (payload : List Byte) (x : Report) : Report :=
  if x.kind == .alarm id then { x with classCount := satSucc 255 x.classCount, payload := payload } else x

/-- R136. -/
def Rpu.alarm (now : Stamp) (id : AlarmId) (payload : List Byte) (r : Rpu) : Rpu :=
  if r.qAlarm.any (fun x => x.kind == .alarm id) then { r with qAlarm := r.qAlarm.map (Report.merge id payload) }
  else if r.held.any (fun x => x.kind == .alarm id) then { r with held := r.held.map (Report.merge id payload) }
  else { r.count with qAlarm := r.qAlarm ++ [r.fresh now (.alarm id) payload 1] }

/-- The report created first (R137, "oldest"). -/
def oldest : List Report → Option Report
  | [] => none
  | x :: rest => match oldest rest with
    | none => some x
    | some y => if y.order < x.order then some y else some x

/-- The list without one object. -/
def without (x : Report) (l : List Report) : List Report := l.filter fun y => y.object != x.object

/-- Objects of class EVENT or MEASURE (R137). -/
def Rpu.eventOrMeasureCount (r : Rpu) : Nat := r.used.countP fun x => !x.kind.isAlarm

/-- R137: with 24 events and snapshots in use, one goes to FREE; an evicted event counts as lost (R138). -/
def Rpu.evict (r : Rpu) : Rpu :=
  if r.eventOrMeasureCount < 24 then r
  else match oldest r.qMeasure, oldest r.qEvent, oldest (r.held.filter fun x => x.kind.isEvent) with
    | some x, _, _ => { r with qMeasure := without x r.qMeasure }
    | none, some x, _ => { r with qEvent := without x r.qEvent, lost := satSucc 255 r.lost }
    | none, none, some x => { r with held := without x r.held, lost := satSucc 255 r.lost }
    | none, none, none => r

/-- R137, R138: the new event takes the lost count, which becomes 0. -/
def Rpu.event (now : Stamp) (kind : EventKind) (payload : List Byte) (r : Rpu) : Rpu :=
  let r := r.evict
  { r.count with qEvent := r.qEvent ++ [r.fresh now (.event kind) payload r.lost], lost := 0 }

/-- R139: a queued snapshot of the set is overwritten, or a new object is created under R137. -/
def Rpu.snapshot (now : Stamp) (set : MeasureSet) (payload : List Byte) (r : Rpu) : Rpu :=
  if r.qMeasure.any (fun x => x.kind == .measure set) then
    { r with qMeasure := r.qMeasure.map fun x =>
        if x.kind == .measure set then { x with payload := payload, classCount := 1 } else x }
  else
    let r := r.evict
    { r.count with qMeasure := r.qMeasure ++ [r.fresh now (.measure set) payload 0] }

def State.alarm (id : AlarmId) (payload : List Byte) (s : State) : State :=
  { s with rpu := s.rpu.alarm s.stamp id payload }

def State.event (kind : EventKind) (payload : List Byte) (s : State) : State :=
  { s with rpu := s.rpu.event s.stamp kind payload }

/-! ### Operation records (8.1 to 8.5) -/

/-- R160: a number is taken, and the next record number grows by 1. -/
def State.takeNumber (s : State) : State × Nat :=
  ({ s with oru := { s.oru with counters := { s.oru.counters with next := (s.oru.counters.next + 1) % 65536 } } },
   s.oru.counters.next)

/-- R160: a number is reserved for an operation, and COUNTERS is queued. -/
def State.reserve (s : State) : State × Nat := (s.takeNumber.1.place .counters, s.takeNumber.2)

def RecordKind.counts : RecordKind → Bool
  | .seqAdvance | .lockout => false
  | _ => true

def counterLimit : Nat := 9999999
def wearMax : Nat := 4294967295

/-- R164: one pole's count after an interruption of `amps`. -/
def wearAdd (wear amps : Nat) : Nat := min wearMax (wear + amps * amps / 10000)

/-- A pole's mark is set when its count is above a limit other than 0 (R165). -/
def passed (limit wear : Nat) (mark : Bool) : Bool := mark || (limit != 0 && limit < wear)

def Counters.marksAfter (c : Counters) : PerPole Bool :=
  ⟨passed c.limit c.wear.a c.marks.a, passed c.limit c.wear.b c.marks.b, passed c.limit c.wear.c c.marks.c⟩

/-- R165: the WEAR_LIMIT payload: the limit, the three wear counts, then the three marks (log 45, DESIGN CHOICE). -/
def Counters.wearPayload (c : Counters) : List Byte :=
  be 4 c.limit ++ be 4 c.wear.a ++ be 4 c.wear.b ++ be 4 c.wear.c
    ++ encFlag c.marks.a ++ encFlag c.marks.b ++ encFlag c.marks.c

/-- R165: the marks of this moment are set, then one WEAR_LIMIT alarm is asked for each newly marked pole. -/
def State.judgeWear (s : State) : State :=
  let c := s.oru.counters
  let marked := { c with marks := c.marksAfter }
  let ask (before after : Bool) (s : State) : State :=
    if after && !before then s.alarm .wearLimit marked.wearPayload else s
  { s with oru := { s.oru with counters := marked } }
    |> ask c.marks.a marked.marks.a |> ask c.marks.b marked.marks.b |> ask c.marks.c marked.marks.c

/-- R163: the operation counters after a record of the kind. -/
def Counters.tally (kind : RecordKind) (c : Counters) : Counters :=
  { c with
    total := if kind.counts then satSucc counterLimit c.total else c.total
    protTrips := if kind = .protTrip then satSucc counterLimit c.protTrips else c.protTrips
    lockouts := if kind = .lockout then satSucc counterLimit c.lockouts else c.lockouts }

/-- R164: the wear counts after a record that carries currents. -/
def Counters.wearOut (currents : Option Currents) (c : Counters) : Counters :=
  match currents with
  | some x => { c with wear := ⟨wearAdd c.wear.a x.ia, wearAdd c.wear.b x.ib, wearAdd c.wear.c x.ic⟩ }
  | none => c

/-- R159: the newest end of a ring of `size`, the oldest dropped to make room. -/
def pushRing {α : Type} (size : Nat) (x : α) (ring : List α) : List α :=
  (ring ++ [x]).drop (ring.length + 1 - size)

/-- R161, steps 1 to 6, for a record whose number has been taken; the stamp and the shot counter are those of the moment. COUNTERS is placed
once, with all its changes and ahead of RECORD_RING, as Table 10-2 shows it (log 58, DEDUCED). -/
def State.record (r : OpRecord) (s : State) : State :=
  let r := { r with time := s.stamp, shotAfter := s.sqc.shot }
  let s := { s with oru :=
    { ring := pushRing 32 r s.oru.ring
      counters := (s.oru.counters.tally r.kind).wearOut r.currents } }
  let s := if r.currents.isSome then s.judgeWear else s
  (s.place .counters).place .recordRing

/-- A record without a pulse takes the next number (R160); the number is handed back (R161, step 7). The number's change reaches COUNTERS with
the record's own (log 58, DEDUCED). -/
def State.newRecord (kind : RecordKind) (origin : Origin) (element : Option Element) (currents : Option Currents)
    (energy : Option Nat) (s : State) : State × Nat :=
  let (s, n) := s.takeNumber
  (s.record ⟨n, kind, s.stamp, 0, origin, element, currents, energy, none, false⟩, n)

/-! ### Answers (9.3) -/

/-- An answer joins a list of up to four; a fifth discards the oldest (R142, R175). -/
def pushAnswer (a : Answer) (l : List Answer) : List Answer := pushRing 4 a l

/-- The answer goes to the C-port list, the P-port list or the L-port answer queue. -/
def State.answer (port : Port) (a : Answer) (s : State) : State :=
  match port with
  | .c => { s with ports := { s.ports with cAnswers := pushAnswer a s.ports.cAnswers } }
  | .p => { s with ports := { s.ports with pAnswers := pushAnswer a s.ports.pAnswers } }
  | .l => { s with rpu := { s.rpu with answers := pushAnswer a s.rpu.answers } }

end Sys2Proof.Machine
end

