-- ==== Sys2Proof/Machine/Frames.lean ====
section
/-! DEFINITION. Frames: the layouts of answers and reports, the checks of a received frame, and the bits on the wires (09 R170 to R172, 11). -/

namespace Sys2Proof.Machine

/-- The start byte of every frame (Table 11-1). -/
def startByte : Byte := 0xA5

/-- The start byte, the length, the fields and the CRC, high byte first (R190). -/
def frame (fields : List Byte) : List Byte :=
  let covered := startByte :: be 2 fields.length ++ fields
  covered ++ be 2 (crc covered).toNat

/-! ### What the part sends -/

/-- Table 11-2. -/
def Answer.fields (a : Answer) : List Byte := [a.kind ||| 0x80, a.ref, a.code.value] ++ a.body

/-- An answer frame on the C-port or the P-port (R192). -/
def Answer.frame (a : Answer) : List Byte := Machine.frame a.fields

/-- An ANSWER frame on the L-port (R194). -/
def Answer.radioFrame (address : Word16) (a : Answer) : List Byte :=
  Machine.frame (0x02 :: be 2 address.toNat ++ a.fields)

/-- The REPORT fields (R194). -/
def Report.fields (r : Report) : List Byte :=
  [r.kind.classCode, r.kind.code] ++ be 2 r.number ++ r.created.enc ++ be 1 r.attempts ++ be 1 r.classCount
    ++ encText r.payload

/-- A REPORT frame on the L-port (R194, R145). -/
def Report.radioFrame (address : Word16) (r : Report) : List Byte :=
  Machine.frame (0x03 :: be 2 address.toNat ++ r.fields)

/-- The answer to a frame whose length or CRC is bad: kind byte 0x80, reference 0, no body (R172, R192). -/
def Answer.frameError : Answer := ⟨0, 0, .frameError, []⟩

/-- The time a frame of `n` bytes takes at `baud`, ten bit times a character, in microseconds (R145, R197). -/
def frameTime (n baud : Nat) : Nat := n * 10 * second / baud

def radioBaud : Nat := 9600
def panelBaud : Nat := 19200

/-! ### Bits on the wires (R197; log 52) -/

/-- A byte on the C-port SPI, most significant bit first. -/
def spiBits (b : Byte) : List Bool := (List.range 8).map fun k => b.getLsbD (7 - k)

/-- The level of SCK and of a data line over half a clock period. -/
structure SpiHalf where
  sck : Bool
  line : Bool
  deriving DecidableEq, Repr

/-- A data line through a transaction: SCK idles low, the line takes its next bit as SCK falls (the first one before the first rising edge) and
keeps it over the rising edge. -/
def spiWave (bytes : List Byte) : List SpiHalf := (bytes.flatMap spiBits).flatMap fun b => [⟨false, b⟩, ⟨true, b⟩]

/-- The bits read from a line at the rising edges of SCK, from a level of SCK before. -/
def spiSample : (before : Bool) → List SpiHalf → List Bool
  | _, [] => []
  | before, h :: rest => if !before && h.sck then h.line :: spiSample h.sck rest else spiSample h.sck rest

/-- A character on a UART: the start bit, eight data bits least significant first, the stop bit; `true` is the idle level. -/
def uartBits (b : Byte) : List Bool := false :: (List.range 8).map (fun k => b.getLsbD k) ++ [true]

/-- A UART line, one level for each bit time of the bytes sent one after another. -/
def uartWave (bytes : List Byte) : List Bool := bytes.flatMap uartBits

/-! ### Request kinds (Table 11-4) and port permissions (Table 9-1) -/

inductive RequestKind where
  | statusRead | trip | close | selectClose | operateClose | cancel | tagPlace | tagRemove | tagList | recloseBlock
  | settingsWrite | settingsRead | curveLoad | mechanismSettings | mechanismFaultReset | batterySettings | batteryTest
  | abortTest | batteryReplaced | readAttributes | readTestHistory | readRecord | readCounters | timeSet
  | trackerSources | linkSettings | clearAlerts
  deriving DecidableEq, Repr

def RequestKind.code : RequestKind → Byte
  | .statusRead => 0x01 | .trip => 0x02 | .close => 0x03 | .selectClose => 0x04 | .operateClose => 0x05 | .cancel => 0x06
  | .tagPlace => 0x07 | .tagRemove => 0x08 | .tagList => 0x09 | .recloseBlock => 0x0A | .settingsWrite => 0x0B
  | .settingsRead => 0x0C | .curveLoad => 0x0D | .mechanismSettings => 0x0E | .mechanismFaultReset => 0x0F
  | .batterySettings => 0x10 | .batteryTest => 0x11 | .abortTest => 0x12 | .batteryReplaced => 0x13
  | .readAttributes => 0x14 | .readTestHistory => 0x15 | .readRecord => 0x16 | .readCounters => 0x17 | .timeSet => 0x18
  | .trackerSources => 0x19 | .linkSettings => 0x1A | .clearAlerts => 0x1B

def RequestKind.all : List RequestKind :=
  [.statusRead, .trip, .close, .selectClose, .operateClose, .cancel, .tagPlace, .tagRemove, .tagList, .recloseBlock,
   .settingsWrite, .settingsRead, .curveLoad, .mechanismSettings, .mechanismFaultReset, .batterySettings, .batteryTest,
   .abortTest, .batteryReplaced, .readAttributes, .readTestHistory, .readRecord, .readCounters, .timeSet,
   .trackerSources, .linkSettings, .clearAlerts]

/-- Table 9-1. -/
def RequestKind.permitted (k : RequestKind) (port : Port) : Bool :=
  match k with
  | .close | .mechanismFaultReset => port == .p
  | .clearAlerts | .batteryReplaced => port != .l
  | .selectClose | .operateClose | .settingsWrite | .timeSet => port != .p
  | .curveLoad | .mechanismSettings | .batterySettings | .trackerSources | .linkSettings => port == .c
  | _ => true

/-- The kinds an attended hold lets through (R173). -/
def RequestKind.passesHold : RequestKind → Bool
  | .trip | .abortTest | .statusRead => true
  | _ => false

def within (lo hi n : Nat) : Bool := lo ≤ n && n ≤ hi

/-- The body lengths a kind allows (R172 step 5, R191). -/
def RequestKind.lengthOk (k : RequestKind) (n : Nat) : Bool :=
  match k with
  | .operateClose | .recloseBlock | .settingsRead | .batteryTest => n == 1
  | .tagPlace => within 4 28 n
  | .tagRemove => n == 3
  | .settingsWrite => n == settingsWidths.sum
  | .curveLoad => n == 49
  | .mechanismSettings => n == mechanismWidths.sum
  | .batterySettings => n == batteryWidths.sum
  | .readRecord => n == 2
  | .readCounters => n == 1 || n == 5
  | .timeSet => n == 6
  | .trackerSources => within 7 10 n
  | .linkSettings => n == linkWidths.sum
  | .clearAlerts => n == 3 || n == 5
  | .statusRead | .trip | .close | .selectClose | .cancel | .tagList | .mechanismFaultReset | .abortTest | .batteryReplaced
  | .readAttributes | .readTestHistory => n == 0

/-! ### Received frames (R172) -/

/-- The number the bytes spell, most significant first (R190). -/
def ofBytes (l : List Byte) : Nat := l.foldl (fun n b => n * 256 + b.toNat) 0

/-- The numbers the bytes spell, of the given widths one after another (R191). -/
def takeFields : (widths : List Nat) → List Byte → List Nat
  | [], _ => []
  | w :: rest, l => ofBytes (l.take w) :: takeFields rest (l.drop w)

/-- The points of a CURVE LOAD body (R36). -/
def takePoints : Nat → List Byte → List (Nat × Nat)
  | 0, _ => []
  | n + 1, l => (ofBytes (l.take 2), ofBytes ((l.drop 2).take 4)) :: takePoints n (l.drop 6)

/-- The request a body of a length its kind allows carries (R191), or none where a presence byte, a note length or a list count inside it
disagrees with that length (log 48). -/
def RequestKind.decode (k : RequestKind) (src : Source) (ref : Byte) (body : List Byte) : Option Instr :=
  let one := ofBytes (body.take 1)
  match k with
  | .statusRead => some (.statusRead src ref)
  | .trip => some (.trip src ref)
  | .close => some (.close src ref)
  | .selectClose => some (.selectClose src ref)
  | .operateClose => some (.operateClose src ref (body.headD 0))
  | .cancel => some (.cancel src ref)
  | .tagPlace => match body with
    | kind :: hi :: lo :: n :: note =>
      if note.length = n.toNat then some (.tagPlace src ref kind.toNat (ofBytes [hi, lo]) note) else none
    | _ => none
  | .tagRemove => some (.tagRemove src ref one (ofBytes (body.drop 1)))
  | .tagList => some (.tagList src ref)
  | .recloseBlock => some (.recloseBlock src ref one)
  | .settingsWrite => some (.settingsWrite src ref (takeFields settingsWidths body))
  | .settingsRead => some (.settingsRead src ref one)
  | .curveLoad => some (.curveLoad src ref one (takePoints 8 (body.drop 1)))
  | .mechanismSettings => some (.mechanismSettings src ref (takeFields mechanismWidths body))
  | .mechanismFaultReset => some (.mechanismFaultReset src ref)
  | .batterySettings => some (.batterySettings src ref (takeFields batteryWidths body))
  | .batteryTest => some (.batteryTest src ref one)
  | .abortTest => some (.abortTest src ref)
  | .batteryReplaced => some (.batteryReplaced src ref)
  | .readAttributes => some (.readAttributes src ref)
  | .readTestHistory => some (.readTestHistory src ref)
  | .readRecord => some (.readRecord src ref (ofBytes body))
  | .readCounters => match body with
    | [0] => some (.readCounters src ref none)
    | [1, a, b, c, d] => some (.readCounters src ref (some (ofBytes [a, b, c, d])))
    | _ => none
  | .timeSet => some (.timeSet src ref (ofBytes (body.take 4)) (ofBytes (body.drop 4)))
  | .trackerSources =>
    let rest := body.drop (1 + one)
    if body.length = one + 6 then
      some (.trackerSources src ref (((body.drop 1).take one).map BitVec.toNat) (ofBytes (rest.take 2)) (ofBytes ((rest.drop 2).take 2))
        (ofBytes (rest.drop 4)))
    else none
  | .linkSettings => some (.linkSettings src ref (takeFields linkWidths body))
  | .clearAlerts => match body with
    | [a, b, 0] => some (.clearAlerts src ref (BitVec.ofNat 16 (ofBytes [a, b])) none)
    | [a, b, 1, c, d] =>
      some (.clearAlerts src ref (BitVec.ofNat 16 (ofBytes [a, b])) (some (BitVec.ofNat 16 (ofBytes [c, d]))))
    | _ => none

/-- What the checks of R172 find; a good frame is the command it carries. -/
inductive Checked where
  | lengthOrCrc
  | dropped
  | unknown (kind ref : Byte)
  | badLength (kind ref : Byte)
  | good (c : Instr)
  deriving DecidableEq, Repr

/-- Steps 1 and 2: the length lies in the port's range, agrees with the bytes received, and the CRC matches. -/
def frameOk (lengthOk : Nat → Bool) (bytes : List Byte) : Bool :=
  let length := ofBytes ((bytes.drop 1).take 2)
  bytes.head? == some startByte && 3 ≤ bytes.length && lengthOk length && bytes.length == length + 5
    && be 2 (crc (bytes.take (3 + length))).toNat == bytes.drop (3 + length)

/-- Steps 4 and 5 for the bytes from the kind on. A body whose inner lengths disagree with its own fails step 5, like one of a length the kind
does not allow (log 48, DESIGN CHOICE). -/
def checkRequest (src : Source) : List Byte → Checked
  | kind :: ref :: body => match RequestKind.all.find? fun k => k.code == kind with
    | some k =>
      if k.lengthOk body.length then ((k.decode src ref body).map Checked.good).getD (.badLength kind ref) else .badLength kind ref
    | none => .unknown kind ref
  | _ => .lengthOrCrc

/-- R172 on the C-port and the P-port: a request is 2 to 300 bytes long (R190). -/
def checkPortFrame (src : Source) (bytes : List Byte) : Checked :=
  if frameOk (within 2 300) bytes then checkRequest src ((bytes.drop 3).take (bytes.length - 5)) else .lengthOrCrc

/-- How an L-port frame's station address is judged (R155). -/
inductive Addressed where
  | exact | group | other
  deriving DecidableEq, Repr

def LinkSettings.judge (station : Word16) (l : LinkSettings) : Addressed :=
  if station = l.address then .exact
  else if station = 0xFFFF || (station ^^^ l.address) &&& l.mask = 0 then .group
  else .other

/-- R172 on the L-port: a REQUEST is 5 to 300 bytes long, an ACK exactly 5 (R190). Only an exact request is answered. -/
def checkRadioFrame (l : LinkSettings) (bytes : List Byte) : Checked :=
  match bytes.drop 3 with
  | 0x01 :: hi :: lo :: _ =>
    let station : Word16 := BitVec.ofNat 16 (ofBytes [hi, lo])
    if frameOk (within 5 300) bytes then
      match l.judge station, checkRequest (.l station) ((bytes.drop 6).take (bytes.length - 8)) with
      | .exact, found => found
      | .group, .good c => .good c
      | _, _ => .dropped
    else .dropped
  | 0x04 :: hi :: lo :: number =>
    if frameOk (· == 5) bytes then .good (.ack (BitVec.ofNat 16 (ofBytes [hi, lo])) (ofBytes (number.take 2))) else .dropped
  | _ => .dropped

end Sys2Proof.Machine
end

