-- ==== Sys2Proof/Machine/Tracker.lean ====
section
/-! DEFINITION. Line Measurement Unit: magnitudes, voltage presence and the frequency tracker (01). -/

namespace Sys2Proof.Machine

/-! ### Magnitudes -/

/-- The window after an update: the last 32 samples (R2). -/
def slide (new : Samples) (window : List Sample) : List Sample :=
  (window ++ [new.first, new.second, new.third, new.fourth]).drop (window.length + 4 - 32)

/-- The cosines of the 32 angles of one cycle, in billionths (log 39). -/
def cosines : List Int :=
  [1000000000, 980785280, 923879533, 831469612, 707106781, 555570233, 382683432, 195090322,
   0, -195090322, -382683432, -555570233, -707106781, -831469612, -923879533, -980785280,
   -1000000000, -980785280, -923879533, -831469612, -707106781, -555570233, -382683432, -195090322,
   0, 195090322, 382683432, 555570233, 707106781, 831469612, 923879533, 980785280]

/-- The sines of the same angles: the cosines a quarter of a cycle later. -/
def sines : List Int := cosines.drop 24 ++ cosines.take 24

/-- A window's sum of products with one of the two waves of one cycle. -/
def correlate (wave : List Int) (window : List Sample) : Int :=
  (wave.zip window).foldl (fun sum p => sum + p.1 * p.2.value) 0

/-- The square of the window's fundamental component, in the units of `powerUnit`. -/
def power (window : List Sample) : Nat :=
  (correlate cosines window).natAbs ^ 2 + (correlate sines window).natAbs ^ 2

/-- `power` of a window whose fundamental component has the magnitude 1 A or 1 V (root mean square): 512 from the 32 samples, the square of
1,000 for the unit of a sample, and the square of a billion for that of the waves. -/
def powerUnit : Nat := 512 * 1000 ^ 2 * 1000000000 ^ 2

/-- The largest `m` below `r + 2 ^ bits` whose square times `unit` is at most `p`, found bit by bit from `r` on. -/
def rootFrom (unit p : Nat) : (bits r : Nat) → Nat
  | 0, r => r
  | bits + 1, r => rootFrom unit p bits (if (r + 2 ^ bits) ^ 2 * unit ≤ p then r + 2 ^ bits else r)

/-- The magnitude of the fundamental component over a window, a whole number (R2): root mean square, and a magnitude that is not whole goes up
or down as the free value says (log 39). Fifteen bits hold every magnitude that the clamps let through. -/
def magnitude (window : List Sample) : Nat :=
  let m := rootFrom powerUnit (power window) 15 0
  if m ^ 2 * powerUnit = power window then m
  else if Config.roundsUp window then m + 1 else m

def anyClipped (window : List Sample) : Bool := window.any Sample.clipped

/-- A phase current channel at an update (R2). -/
def CurrentChannel.take (new : Samples) (c : CurrentChannel) : CurrentChannel :=
  let window := slide new c.window
  { value := if anyClipped window then 20000 else min 20000 (magnitude window), saturated := anyClipped window, window := window }

/-- The sample-by-sample sum of the three phase currents (R3). -/
def sumWindows (a b c : List Sample) : List Sample :=
  (a.zip (b.zip c)).map fun p =>
    ⟨p.1.value + p.2.1.value + p.2.2.value, p.1.clipped || p.2.1.clipped || p.2.2.clipped⟩

/-- The residual current: formed from the phase samples, clamped, and marked when a phase channel is (R3). -/
def residual (ia ib ic : CurrentChannel) : CurrentChannel :=
  let window := sumWindows ia.window ib.window ic.window
  { value := min 20000 (magnitude window), saturated := ia.saturated || ib.saturated || ic.saturated, window := window }

/-- A voltage channel's magnitude at an update; a clipped channel reads 25,000 (R4). -/
def VoltageChannel.take (new : Samples) (v : VoltageChannel) : VoltageChannel :=
  let window := slide new v.window
  { v with value := if anyClipped window then 25000 else min 25000 (magnitude window), window := window }

/-! ### Presence -/

/-- R5. -/
def TrackerSettings.threshold (t : TrackerSettings) : Nat := t.squelch * t.nominalVolts / 100

/-- R5 and R6 at a measurement update taken at `now`; becoming DEAD discards the cycles seen (R7). The last crossing stays, so the cycle in
progress counts among the four to be seen once it completes (log 40, DESIGN CHOICE). -/
def VoltageChannel.judge (threshold now : Nat) (v : VoltageChannel) : VoltageChannel :=
  if v.value < threshold then
    { v with live := false, qualifiedFrom := none, cycles := if v.live then [] else v.cycles }
  else if v.live then v
  else match v.qualifiedFrom with
    | none => { v with qualifiedFrom := some now }
    | some t => if t + presenceQualification ≤ now then { v with live := true, qualifiedFrom := none } else v

/-! ### Measured period and goodness (R7) -/

/-- Hundredths of a hertz of a period in µs. -/
def frequencyOf (period : Nat) : Nat := roundDiv 100000000 period

/-- The measured period: present once four complete cycles are held. -/
def VoltageChannel.period (v : VoltageChannel) : Option Nat :=
  match v.cycles with
  | [a, b, c, d] => some (roundDiv (a + b + c + d) 4)
  | _ => none

def VoltageChannel.good (v : VoltageChannel) : Bool :=
  v.live && match v.period with
    | some p => 4000 ≤ frequencyOf p && frequencyOf p ≤ 7000
    | none => false

/-- The good-since time is set when the channel becomes good and absent when it stops being good. -/
def VoltageChannel.refresh (now : Nat) (v : VoltageChannel) : VoltageChannel :=
  { v with goodSince := if v.good then some (v.goodSince.getD now) else none }

def Lmu.channel (c : Channel) (l : Lmu) : VoltageChannel :=
  match c with
  | .vaS => l.vaS | .vbS => l.vbS | .vcS => l.vcS | .vaL => l.vaL | .vbL => l.vbL | .vcL => l.vcL

def Lmu.setChannel (c : Channel) (v : VoltageChannel) (l : Lmu) : Lmu :=
  match c with
  | .vaS => { l with vaS := v } | .vbS => { l with vbS := v } | .vcS => { l with vcS := v }
  | .vaL => { l with vaL := v } | .vbL => { l with vbL := v } | .vcL => { l with vcL := v }

/-- The nominal period (R10). -/
def TrackerSettings.nominalPeriod (t : TrackerSettings) : Nat := roundDiv 100000000 t.nominalFreq

/-- The tracked frequency (R11). -/
def Lmu.frequency (l : Lmu) : Nat := frequencyOf l.period

def Tracker.source : Tracker → Option Channel
  | .locked c => some c
  | _ => none

/-! ### The tracker -/

/-- R12: a change of tracker state is announced. -/
def State.setTracker (t : Tracker) (period : Nat) (s : State) : State :=
  let s := { s with lmu := { s.lmu with tracker := t, period := period } }
  (s.raise .freqState).event .frequencyState
    (t.code :: encOpt (fun c => [channelCode c]) t.source ++ be 2 s.lmu.frequency)

/-- The tracker locks to the channel, whose measured period comes into force (R8, R9). -/
def State.lockTo (c : Channel) (s : State) : State :=
  s.setTracker (.locked c) ((s.lmu.channel c).period.getD s.lmu.period)

/-- R8: a locked source that is no longer good, or no longer listed (R14), is left for the first good one in list order, or for
HOLDOVER. -/
def State.keepLock (s : State) : State :=
  match s.lmu.tracker with
  | .locked c =>
    if s.lmu.settings.sources.contains c && (s.lmu.channel c).good then s
    else match s.lmu.settings.sources.find? fun d => (s.lmu.channel d).good with
      | some d => s.lockTo d
      | none => s.setTracker (.holdover (s.now + holdoverTime)) s.lmu.period
  | _ => s

/-- The moment a listed source has been good for 500 ms (R9). -/
def Lmu.lockTime (l : Lmu) (c : Channel) : Option Nat :=
  (l.channel c).goodSince.map (· + lockQualification)

/-- The first moment a listed source has been good for 500 ms (R9). -/
def Lmu.firstLock (l : Lmu) : Option Nat := (l.settings.sources.filterMap l.lockTime).min?

/-- R14, R7: a channel that has left the source list loses its measured period and its good-since time. Its period is measured anew over the
next four cycles, the one in progress among them (log 57, DEDUCED). -/
def VoltageChannel.delist (v : VoltageChannel) : VoltageChannel := { v with cycles := [], goodSince := none }

/-- The channel, delisted when it stands in the old list and not in the new one (R14). -/
def TrackerSettings.leave (old new : TrackerSettings) (c : Channel) (v : VoltageChannel) : VoltageChannel :=
  if old.sources.contains c && !new.sources.contains c then v.delist else v

/-- The new settings replace the old ones, and the channels that have left the list are delisted (R13, R14). -/
def Lmu.replaceSettings (new : TrackerSettings) (l : Lmu) : Lmu :=
  let leave := l.settings.leave new
  { l with
    settings := new
    vaS := leave .vaS l.vaS, vbS := leave .vbS l.vbS, vcS := leave .vcS l.vcS
    vaL := leave .vaL l.vaL, vbL := leave .vbL l.vbL, vcL := leave .vcL l.vcL }

/-- R14, R9: at a TRACKER SOURCES request in HOLDOVER or NOMINAL, the first listed source that has been good for 500 ms becomes the locked
one. The sources that qualify do so together, as they join the list, so the list order decides (log 51, DEDUCED). -/
def State.tryLock (s : State) : State :=
  match s.lmu.tracker with
  | .locked _ => s
  | _ =>
    match s.lmu.settings.sources.find? fun c => (s.lmu.lockTime c).any (· ≤ s.now) with
    | some c => s.lockTo c
    | none => s

/-- R2 to R4: the magnitudes of an update. -/
def Lmu.measure (r : Readings) (l : Lmu) : Lmu :=
  let ia := l.ia.take r.ia
  let ib := l.ib.take r.ib
  let ic := l.ic.take r.ic
  { l with
    ia := ia, ib := ib, ic := ic, ig := residual ia ib ic
    vaS := l.vaS.take r.vaS, vbS := l.vbS.take r.vbS, vcS := l.vcS.take r.vcS
    vaL := l.vaL.take r.vaL, vbL := l.vbL.take r.vbL, vcL := l.vcL.take r.vcL }

/-- Applies a change to each of the six voltage channels. -/
def Lmu.mapChannels (f : VoltageChannel → VoltageChannel) (l : Lmu) : Lmu :=
  { l with vaS := f l.vaS, vbS := f l.vbS, vcS := f l.vcS, vaL := f l.vaL, vbL := f l.vbL, vcL := f l.vcL }

/-- R1: the interval that begins at an update lasts an eighth of the period in force as it begins. -/
def Lmu.nextInterval (now : Nat) (l : Lmu) : Lmu :=
  { l with lastUpdate := now, interval := roundDiv l.period 8 }

/-- What the update leaves in force is kept for the VOLTAGE set (R139, Table 7-5). -/
def Lmu.keepMeasured (l : Lmu) : Lmu := { l with measuredPeriod := l.period, measuredTracker := l.tracker }

/-- The LMU's part of a measurement update: presence is decided for all six channels, then the tracker is judged (R8). -/
def State.measureLine (r : Readings) (s : State) : State :=
  let l := (s.lmu.measure r).nextInterval s.now
  let l := l.mapChannels fun v => (v.judge l.settings.threshold s.now).refresh s.now
  let s := ({ s with lmu := l } : State).keepLock
  { s with lmu := s.lmu.keepMeasured }

/-- The currents the update delivers to the OEB (R1). -/
def Lmu.currents (l : Lmu) : Currents := ⟨l.ia.value, l.ib.value, l.ic.value, l.ig.value⟩

/-- R7: a completed cycle joins the last four. A gap of more than 30,000 µs has ended the run of cycles before it (log 29). -/
def VoltageChannel.complete (length now : Nat) (v : VoltageChannel) : VoltageChannel :=
  { v with
    cycles := if crossingTimeout < length then [] else (length :: v.cycles).take 4
    lastCrossing := now }

/-- R8: in LOCKED, a completed cycle of the locked source that leaves it good sets the period in force. -/
def State.followSource (c : Channel) (s : State) : State :=
  if s.lmu.tracker = .locked c && (s.lmu.channel c).good then
    { s with lmu := { s.lmu with period := (s.lmu.channel c).period.getD s.lmu.period } }
  else s

end Sys2Proof.Machine
end

