-- ==== Sys2Proof/Machine/Transmit.lean ====
section
/-! DEFINITION. Report Unit: link score, retries, the transmitter, radio power and snapshots (07). -/

namespace Sys2Proof.Machine

/-! ### Score and standing (R149, R150) -/

def standingOf (warn score : Nat) : Standing :=
  if score < warn then .good else if score < 200 then .weak else .silent

/-- A running probe timer, started now (R151). -/
def State.probeFrom (s : State) : Probe := .running (s.now + s.rpu.settings.probeInterval * second)

/-- R150: the standing is recomputed, and a change has its effects. -/
def State.restand (s : State) : State :=
  let old := s.rpu.standing
  let new := standingOf s.rpu.settings.warnLevel s.rpu.score
  if new = old then s
  else
    ({ s with rpu := { s.rpu with
        standing := new
        qMeasure := if old = .good then [] else s.rpu.qMeasure
        probe := if new = .silent then s.probeFrom else if old = .silent then .stopped else s.rpu.probe } } :
      State).raise .linkStanding

def State.setScore (n : Nat) (s : State) : State :=
  State.restand { s with rpu := { s.rpu with score := n } }

/-! ### Failed attempts (R147) -/

/-- The wait before the next attempt, in microseconds. -/
def LinkSettings.backoff (attempts : Nat) (l : LinkSettings) : Nat :=
  min (l.retryBase * 2 ^ (attempts - 1)) 120000 * ms

/-- The object out of every queue and out of HELD. -/
def Rpu.takeOut (x : Report) (r : Rpu) : Rpu :=
  { r with
    qAlarm := without x r.qAlarm, qEvent := without x r.qEvent, qMeasure := without x r.qMeasure
    held := without x r.held }

/-- A returning alarm merged into the object of its identity: its merged count is added, saturating (R147). -/
def Report.absorb (x y : Report) : Report :=
  if y.kind == x.kind then { y with classCount := min 255 (y.classCount + x.classCount) } else y

/-- Step 3 of R147 for a report with its attempts counted. -/
def Rpu.dispose (now : Nat) (single : Bool) (x : Report) (r : Rpu) : Rpu :=
  if single || x.kind.isMeasure then r
  else if x.kind.isAlarm && r.qAlarm.any (fun y => y.kind == x.kind) then
    { r with qAlarm := r.qAlarm.map (Report.absorb x) }
  else if x.kind.isAlarm && r.held.any (fun y => y.kind == x.kind) then
    { r with held := r.held.map (Report.absorb x) }
  else if x.attempts < r.settings.maxAttempts then
    let x := { x with notBefore := some (now + r.settings.backoff x.attempts) }
    if x.kind.isAlarm then { r with qAlarm := x :: r.qAlarm } else { r with qEvent := x :: r.qEvent }
  else { r with held := r.held ++ [x] }

/-- R147 for a report: one more attempt, 8 more on the score, and its disposal. -/
def State.charge (single : Bool) (x : Report) (s : State) : State :=
  let s := State.setScore (min 255 (s.rpu.score + 8)) { s with rpu := s.rpu.takeOut x }
  { s with rpu := s.rpu.dispose s.now single { x with attempts := satSucc 8 x.attempts } }

/-- The object in flight is charged a failed attempt (ack timeout, R154 step 1). -/
def State.chargeInFlight (s : State) : State :=
  match s.rpu.inFlight with
  | some x =>
    State.charge s.rpu.singleTrial x
      { s with rpu := { s.rpu with inFlight := none, singleTrial := false, ackTimer := none } }
  | none => s

/-! ### Acknowledgement (R146) -/

/-- A report leaving HELD starts afresh. -/
def Report.revive (x : Report) : Report := { x with attempts := 0, notBefore := none }

/-- Step 3 of R146. -/
def Rpu.releaseHeld (r : Rpu) : Rpu :=
  let back := r.held.map Report.revive
  { r with
    qAlarm := back.filter (fun x => x.kind.isAlarm) ++ r.qAlarm
    qEvent := back.filter (fun x => x.kind.isEvent) ++ r.qEvent
    held := [] }

/-- R146 for an ACK passed by the LPE. -/
def State.acknowledge (number : Nat) (s : State) : State :=
  match s.rpu.inFlight with
  | some x =>
    if x.number = number then
      let s := State.setScore (if s.rpu.standing = .silent then 150 else s.rpu.score - 1)
        { s with rpu := { s.rpu with inFlight := none, singleTrial := false, ackTimer := none } }
      { s with rpu := s.rpu.releaseHeld }
    else s
  | none => s

/-! ### What to send (R141, R151, R154) -/

def Report.eligible (now : Nat) (x : Report) : Bool := x.notBefore.all (· ≤ now)

/-- The probe of R151. -/
def Rpu.probeReport (r : Rpu) : Option Report := oldest ((r.qAlarm ++ r.held).filter fun x => x.kind.isAlarm)

/-- Steps 2 to 4 of R141, with the tiers and standings that narrow them. -/
def Rpu.nextReport (now : Nat) (tier : Tier) (r : Rpu) : Option Report :=
  if r.standing = .silent then (if r.probe = .expired then r.probeReport else none)
  else (r.qAlarm.find? (·.eligible now)).orElse fun _ =>
    if tier = .critical then none
    else (r.qEvent.find? (·.eligible now)).orElse fun _ => r.qMeasure.find? (·.eligible now)

/-- The item the transmitter takes when a frame may start (R141). In DISCONNECT it is the BATTERY_DISCONNECT object, wherever a channel wait
may have put it back (R144, R154, log 38). -/
def Rpu.nextItem (now : Nat) (tier : Tier) (r : Rpu) : Option TxItem :=
  if tier = .disconnect then
    if r.lastCall = .waiting then
      ((r.qAlarm ++ r.held).find? fun x => x.kind == .alarm .batteryDisconnect).map fun x => .report x.object true
    else none
  else if !r.answers.isEmpty then some .answer
  else if r.inFlight.isSome then none
  else (r.nextReport now tier).map fun x => .report x.object false

def State.nextItem (s : State) : Option TxItem := s.rpu.nextItem s.now s.bcu.tier

/-- The report an item names, by its object. -/
def Rpu.find (object : Nat) (r : Rpu) : Option Report :=
  (r.qAlarm ++ r.held ++ r.qEvent ++ r.qMeasure).find? fun x => x.object == object

/-- The not-before time of the queued report with the number. -/
def Rpu.notBeforeOf (number : Nat) (r : Rpu) : Option Nat :=
  (r.qAlarm ++ r.qEvent).findSome? fun x => if x.number = number then x.notBefore else none

/-! ### Radio power (R152) -/

/-- The conditions under which the supply is on. -/
def Rpu.wanted (now : Nat) (tier : Tier) (r : Rpu) : Bool :=
  match tier with
  | .normal | .low => true
  | .critical =>
    r.inFlight.isSome || !r.answers.isEmpty
      || (match r.listen with
          | .opened _ _ => true
          | _ => false)
      || (if r.standing = .silent then r.probe = .expired && r.probeReport.isSome
          else r.qAlarm.any (·.eligible now))
  | .disconnect => r.lastCall = .waiting || r.lastCall = .sending

def Rpu.supplied (r : Rpu) : Bool := r.radio != .off

/-- The holdoff that starts now, when carrier-detect is inactive (R143). -/
def Rpu.holdoffFrom (now : Nat) (r : Rpu) : Option Nat :=
  if r.carrier then none else some (now + holdoffLength r.settings.slot)

/-- R152: the supply follows its conditions; a frame being sent is finished first. -/
def Rpu.rejudgeRadio (now : Nat) (tier : Tier) (r : Rpu) : Rpu :=
  if r.wanted now tier then
    if r.supplied then r else { r with radio := .warming (now + warmUp), holdoff := r.holdoffFrom now }
  else if r.supplied && r.tx.isSome then r
  else { r with radio := .off, holdoff := none }

/-- R144: the channel wait runs while there is something to send, the warm-up is over and no frame is being sent. -/
def Rpu.rejudgeWait (now : Nat) (tier : Tier) (r : Rpu) : Rpu :=
  { r with channelWait :=
      if r.radio = .on && r.tx.isNone && (r.nextItem now tier).isSome then
        some (r.channelWait.getD (now + channelWaitLimit))
      else none }

/-- A frame being received is lost while the supply is off (R152). -/
def Ports.keepReceived (supplied : Bool) (p : Ports) : Ports := { p with lPartial := if supplied then p.lPartial else [] }

/-- The RPU re-judges radio power and the channel wait after every command, and with the supply off the frame being received is lost (R152).
An interface reset that empties the answer queue in CRITICAL is such an event too: the supply may go off with it, although R158 has it
continue as it was (log 44, DEDUCED). -/
def State.rejudge (s : State) : State :=
  let r := (s.rpu.rejudgeRadio s.now s.bcu.tier).rejudgeWait s.now s.bcu.tier
  { s with rpu := r, ports := s.ports.keepReceived r.supplied }

/-! ### Frames (R143, R145) -/

/-- The moment from which a frame may start: the warm-up and the holdoff are over; absent while carrier-detect is active, the
supply is off or a frame is being sent (R143). -/
def Rpu.mayStartAt (r : Rpu) : Option Nat :=
  if r.tx.isSome || r.carrier then none
  else match r.radio, r.holdoff with
    | .on, some h => some h
    | .warming e, some h => some (max e h)
    | _, _ => none

/-- The frame of `bytes` starts: transmit-enable is asserted until it ends (R145). -/
def State.transmit (item : TxItem) (bytes : List Byte) (s : State) : State :=
  { s with rpu := { s.rpu with
      tx := some ⟨item, bytes, s.now + frameTime bytes.length radioBaud⟩, channelWait := none } }

/-- R145: an item's frame starts. A probe starts the probe timer again (R151); the transmission of R154 is single-trial. -/
def State.startFrame (item : TxItem) (s : State) : State :=
  match item with
  | .answer => match s.rpu.answers with
    | a :: rest =>
      State.transmit item (a.radioFrame s.rpu.settings.address) { s with rpu := { s.rpu with answers := rest } }
    | [] => s
  | .report object disconnect => match s.rpu.find object with
    | some x =>
      let r := s.rpu.takeOut x
      State.transmit item (x.radioFrame s.rpu.settings.address) { s with rpu :=
        { r with
          inFlight := some x
          singleTrial := disconnect
          probe := if r.standing = .silent && !disconnect then s.probeFrom else r.probe
          lastCall := if disconnect then .sending else r.lastCall } }
    | none => s

/-- R144: the channel wait is over, and the item the transmitter would take is disposed of. -/
def State.channelWaitOver (s : State) : State :=
  let cleared : State := { s with rpu := { s.rpu with channelWait := none } }
  match s.nextItem with
  | some .answer => { cleared with rpu := { cleared.rpu with answers := cleared.rpu.answers.drop 1 } }
  | some (.report object _) => match s.rpu.find object with
    | some x =>
      let probing := s.rpu.standing = .silent && s.bcu.tier != .disconnect
      let s := cleared.charge false x
      if probing then { s with rpu := { s.rpu with probe := s.probeFrom } } else s
    | none => cleared
  | none => cleared

/-! ### Tiers at the RPU (R118 step 1, R140, R153) -/

def State.tierToRpu (old new : Tier) (s : State) : State :=
  { s with rpu := { s.rpu with
      qMeasure := if old = .normal then [] else s.rpu.qMeasure
      listen := if new = .critical then .waiting (s.now + listenPeriod) else .stopped } }

/-- R154: the BATTERY_DISCONNECT transmission is asked for. -/
def State.askLastCall (s : State) : State :=
  let s := s.chargeInFlight
  { s with rpu := { s.rpu with lastCall := .waiting } }

/-! ### Snapshots (R139, Table 7-5) -/

def CurrentChannel.enc (c : CurrentChannel) : List Byte := be 2 c.value ++ encFlag c.saturated
def VoltageChannel.enc (v : VoltageChannel) : List Byte := be 2 v.value ++ [presenceCode v.live]

/-- The values of a set as the last measurement update, battery measurement or capacitor measurement left them (R139, Table 7-5; log 43,
DEDUCED), then the time of the snapshot (R191). -/
def State.measured (set : MeasureSet) (s : State) : List Byte :=
  let l := s.lmu
  (match set with
   | .load => l.ia.enc ++ l.ib.enc ++ l.ic.enc ++ l.ig.enc
   | .voltage =>
     l.vaS.enc ++ l.vbS.enc ++ l.vcS.enc ++ l.vaL.enc ++ l.vbL.enc ++ l.vcL.enc ++ be 2 (frequencyOf l.measuredPeriod)
       ++ [l.measuredTracker.code]
   | .battery => be 2 s.bcu.v ++ beInt 4 s.bcu.i ++ beInt 2 s.bcu.t ++ [s.bcu.measuredTier.code, s.bcu.measuredCharger.code]
   | .energy => be 4 s.mdr.vcap ++ be 4 s.mdr.measuredEstimate) ++ s.stamp.enc

def State.snapshot (set : MeasureSet) (s : State) : State :=
  { s with rpu := s.rpu.snapshot s.stamp set (s.measured set) }

/-- The four sets in order, unless R140 forbids snapshots. -/
def State.takeSnapshots (s : State) : State :=
  if s.rpu.standing = .good && s.bcu.tier = .normal then
    (((s.snapshot .load).snapshot .voltage).snapshot .battery).snapshot .energy
  else s

end Sys2Proof.Machine
end

