-- ==== Sys2Proof/Machine/Battery.lean ====
section
/-! DEFINITION. Battery Care Unit: charger, tiers, shutdown, the load test, attributes, verdict and schedule (06). -/

namespace Sys2Proof.Machine

def State.withBcu (f : Bcu → Bcu) (s : State) : State := { s with bcu := f s.bcu }

def State.withStored (f : BatteryRecord → BatteryRecord) (s : State) : State :=
  s.withBcu fun b => { b with stored := f b.stored }

/-- V and T as the alarms and events carry them: those of the last measurement (log 25). -/
def Bcu.vAndT (b : Bcu) : List Byte := be 2 b.v ++ beInt 2 b.t

/-! ### Charger (R114 to R116) -/

/-- The test is in REST or LOAD. -/
def Bcu.testHolds (b : Bcu) : Bool :=
  match b.test with
  | some r => match r.phase with
    | .rest _ | .load _ => true
    | .suspended _ => false
  | none => false

/-- The conditions under which the charger leaves OFF for BULK (R114). -/
def Bcu.mayCharge (b : Bcu) : Bool := b.acPresent && !b.thermalHold && b.tier != .disconnect && !b.testHolds

/-- The charger is sent to BULK, or to OFF when the conditions of R114 do not hold. -/
def Bcu.toBulk (b : Bcu) : Bcu := { b with charger := if b.mayCharge then .bulk else .off }

/-- The charger leaves OFF when it may (R114). -/
def Bcu.leaveOff (b : Bcu) : Bcu := if b.charger = .off then b.toBulk else b

/-- The charger is put in OFF from BULK, ABSORB or FLOAT (R114). -/
def Bcu.putOff (b : Bcu) : Bcu := if b.charger = .testHold then b else { b with charger := .off }

/-- R114: 55.0 °C sets the hold and below 50.0 °C clears it; the first measurement decides it at 50.0 °C (R133). -/
def Bcu.hold (t : Int) (b : Bcu) : Bool :=
  if b.measured then (if 550 ≤ t then true else if t < 500 then false else b.thermalHold) else 500 ≤ t

/-- R115. -/
def compensated (v25 : Nat) (t : Int) : Int := min 30000 (v25 + 36 * (25 - clampInt (-20) 50 (t.tdiv 10)))

/-- R116 for one measurement. -/
def Bcu.chargerStep (now : Nat) (b : Bcu) : Bcu :=
  match b.charger with
  | .bulk => if b.vAbsSet ≤ b.v then { b with charger := .absorb now } else b
  | .absorb since =>
    if b.i < b.stored.settings.taper || since + absorbTime ≤ now then { b with charger := .float now none } else b
  | .float since drop =>
    if (b.v : Int) < b.vFloatSet - 1000 then
      let start := drop.getD now
      if start + floatDropTime ≤ now then b.toBulk else { b with charger := .float since (some start) }
    else { b with charger := .float since none }
  | .off | .testHold => b

/-! ### Attributes and the verdict (R128, R129) -/

/-- An update sets the raw value and the normalized value, and lowers the worst value (R128). -/
def HealthAttribute.update (raw normalized : Int) (a : HealthAttribute) : HealthAttribute :=
  let n := (clampInt 1 253 normalized).toNat
  { raw := some raw, normalized := n, worst := min a.worst n }

/-- The PREFAIL attributes at or below their thresholds, by number, with their normalized values (R129). -/
def BatteryRecord.prefailing (b : BatteryRecord) : List (Nat × Nat) :=
  let t := b.settings.thresholds
  let judge (id : Nat) (a : HealthAttribute) : List (Nat × Nat) :=
    if a.normalized ≤ t.getD (id - 1) 0 then [(id, a.normalized)] else []
  judge 1 b.attributes.resistance ++ judge 2 b.attributes.loadMargin ++ judge 3 b.attributes.failures

/-- R129: the verdict is recomputed, and a change is announced. -/
def State.judgeVerdict (s : State) : State :=
  let bad := s.bcu.stored.prefailing
  let failing := !bad.isEmpty
  if failing = s.bcu.failing then s
  else
    let s := s.withBcu fun b => { b with failing := failing }
    if failing then
      (s.alarm .batteryFailing (encList (fun p => be 1 p.1 ++ be 1 p.2) bad)).raise .batteryVerdict
    else s.event .verdictGood []

def State.withAttributes (f : Attributes → Attributes) (s : State) : State :=
  s.withStored fun b => { b with attributes := f b.attributes }

/-- An update outside a test outcome: the verdict, then the write of the BATTERY record (R128). -/
def State.attributeUpdate (f : Attributes → Attributes) (s : State) : State :=
  ((s.withAttributes f).judgeVerdict).place .battery

/-- Table 6-6, row by row. -/
def Attributes.setResistance (rated rInt : Nat) (a : Attributes) : Attributes :=
  { a with resistance := a.resistance.update rInt (if rInt = 0 then 253 else (100 * rated / rInt : Nat)) }
def Attributes.setMargin (raw : Int) (a : Attributes) : Attributes :=
  { a with loadMargin := a.loadMargin.update raw (100 + raw / 20) }
def Attributes.setFailures (raw : Nat) (a : Attributes) : Attributes :=
  { a with failures := a.failures.update raw (100 - 30 * raw) }
def Attributes.setFloatCurrent (raw : Nat) (a : Attributes) : Attributes :=
  { a with floatCurrent := a.floatCurrent.update raw (253 - (raw / 2 : Nat)) }
def Attributes.setDeep (raw : Nat) (a : Attributes) : Attributes :=
  { a with deepDischarges := a.deepDischarges.update raw (100 - 5 * raw) }
def Attributes.setDays (raw : Nat) (a : Attributes) : Attributes :=
  { a with days := a.days.update raw (100 - raw) }
def Attributes.setHotHours (raw : Nat) (a : Attributes) : Attributes :=
  { a with hotHours := a.hotHours.update raw (100 - (raw / 100 : Nat)) }
def Attributes.setRecharge (raw : Nat) (a : Attributes) : Attributes :=
  { a with rechargeTime := a.rechargeTime.update raw (253 - (raw / 100 : Nat)) }

/-- A completed float window: attribute 4, and the accumulator starts again (R128). -/
def State.closeFloatWindow (s : State) : State :=
  let mean := s.bcu.floatSum / floatWindow
  (s.withBcu fun b => { b with floatSum := 0, floatCount := 0 }).attributeUpdate (·.setFloatCurrent mean)

/-- A completed hot hour: the count, attribute 7, and the accumulator starts again (R128). -/
def State.closeHotHour (s : State) : State :=
  let hours := satSucc 65535 s.bcu.stored.hot
  ((s.withBcu fun b => { b with hotCount := 0 }).withStored fun b => { b with hot := hours }).attributeUpdate
    (·.setHotHours hours)

/-! ### The load test (R122 to R127) -/

/-- The withheld answer of an ATTENDED test is sent, and the hold ends (R126, R176). -/
def State.releaseHold (port : Option Port) (body : List Byte) (s : State) : State :=
  match port with
  | some .c => match s.ports.cHold with
    | some ref => State.answer .c ⟨0x11, ref, .done, body⟩ { s with ports := { s.ports with cHold := none } }
    | none => s
  | some .p => match s.ports.pHold with
    | some ref => State.answer .p ⟨0x11, ref, .done, body⟩ { s with ports := { s.ports with pHold := none } }
    | none => s
  | _ => s

/-- The fields an ATTENDED answer carries (R126). -/
def TestEntry.result (e : TestEntry) : List Byte :=
  e.outcome.code :: encOpt (fun c => [TestCause.code c]) e.cause ++ encOpt (be 2) e.vRest ++ encOpt (be 2) e.vLoad
    ++ encOpt (be 2) e.iLoad ++ encOpt (be 4) e.rInt

/-- R127, with the attribute updates of a PASS or FAIL between steps 1 and 2. -/
def State.announce (e : TestEntry) (port : Option Port) (updates : State → State) (s : State) : State :=
  let s := updates (s.withStored fun b => { b with history := pushRing 8 e b.history })
  (((s.place .battery).event .batteryTestResult e.enc).raise .testDone).releaseHold port e.result

/-- The test state becomes IDLE: the load is disconnected, the pending mark cleared, the charger sent to BULK or OFF. -/
def State.leaveTest (s : State) : State :=
  ((s.withBcu fun b => { b with test := none, loadOn := false }).withStored fun b =>
    { b with pending := false }).withBcu Bcu.toBulk

/-- R125: a running test ends ABORTED. -/
def State.abortTest (cause : TestCause) (s : State) : State :=
  match s.bcu.test with
  | some r =>
    s.leaveTest.announce ⟨s.stamp, r.mode, .aborted, some cause, r.vRest, none, none, none⟩ r.port id
  | none => s

/-- R124: an operation or a recharge starts. -/
def State.suspendTest (s : State) : State :=
  match s.bcu.test with
  | some r =>
    if !s.bcu.testHolds then s
    else
      let r := { r with suspensions := r.suspensions + 1 }
      let s := s.withBcu fun b => { b with test := some r, loadOn := false }
      if 4 ≤ r.suspensions then s.abortTest .interrupted
      else s.withBcu fun b =>
        ({ b with test := some { r with phase := .suspended (s.now + suspensionTime), vRest := none } } : Bcu).toBulk
  | none => s

/-- R124: the test restarts once nothing is in flight and the recharge flag is clear. -/
def State.resumeTest (s : State) : State :=
  match s.bcu.test with
  | some r => match r.phase with
    | .suspended _ =>
      if s.bcu.opInFlight || s.bcu.recharging then s
      else s.withBcu fun b => { b with test := some { r with phase := .rest (s.now + restTime) }, charger := .testHold }
    | _ => s
  | none => s

/-- R122: a test starts in REST. -/
def State.startTest (mode : TestMode) (port : Option Port) (s : State) : State :=
  let s := s.withBcu fun b =>
    { b with
      test := some ⟨mode, port, .rest (s.now + restTime), 0, none⟩, charger := .testHold, loadOn := false
      nextAttempt := none }
  (s.withStored fun b => { b with pending := true }).place .battery

/-- The end of REST with V_rest read (R122). -/
def State.endRest (v : Nat) (s : State) : State :=
  match s.bcu.test with
  | some r =>
    let r := { r with vRest := some v }
    let s := s.withBcu fun b => { b with test := some r }
    if s.bcu.opInFlight || s.bcu.recharging then s.suspendTest
    else s.withBcu fun b => { b with test := some { r with phase := .load (s.now + loadTime) }, loadOn := true }
  | none => s

/-- R123: the result of a test from V_rest, V_load and the magnitude of I_load. -/
structure TestResult where
  outcome : TestOutcome
  cause : Option TestCause
  rInt : Option Nat
  deriving DecidableEq, Repr

def judgeTest (floor vRest vLoad iLoad : Nat) : TestResult :=
  if iLoad < 1000 then ⟨.fail, some .loadOpen, none⟩
  else ⟨if floor ≤ vLoad then .pass else .fail, none, some ((vRest - vLoad) * 1000 / iLoad)⟩

/-- One attribute update of a test outcome, and the verdict after it (R128, R129). -/
def State.testUpdate (f : Attributes → Attributes) (s : State) : State := (s.withAttributes f).judgeVerdict

/-- The attribute updates of a PASS or FAIL in the order of Table 6-6, each followed by the verdict (log 35). -/
def State.testUpdates (res : TestResult) (vLoad : Nat) (s : State) : State :=
  let set := s.bcu.stored.settings
  let fails := if res.outcome = .pass then 0 else satSucc 255 s.bcu.stored.fails
  let s := match res.rInt with
    | some r => (s.testUpdate (·.setResistance set.rated r)).testUpdate (·.setMargin ((vLoad : Int) - set.floor))
    | none => s
  ((s.withStored fun b => { b with fails := fails }).testUpdate (·.setFailures fails)).testUpdate (·.setDays 0)

/-- The days are counted from now on: the next day has passed 86,400 s from now (R121, R130). -/
def Bcu.restartDays (now : Nat) (b : Bcu) : Bcu := { b with nextDay := now + day }

/-- The end of LOAD with V_load and I_load read (R123). The days since completed test are whole days since this PASS or FAIL (Table 6-4), so
the part of a day already run starts again (log 42, DEDUCED). -/
def State.endLoad (v : Nat) (i : Int) (s : State) : State :=
  match s.bcu.test with
  | some r =>
    let res := judgeTest s.bcu.stored.settings.floor (r.vRest.getD 0) v i.natAbs
    let s := (s.leaveTest.withBcu (·.restartDays s.now)).withStored fun b => { b with days := 0 }
    s.announce ⟨s.stamp, r.mode, res.outcome, res.cause, r.vRest, some v, some i.natAbs, res.rInt⟩ r.port
      (State.testUpdates res v)
  | none => s

/-! ### Notices from the MDR (R124, R128) -/

def State.operationStarted (s : State) : State := (s.withBcu fun b => { b with opInFlight := true }).suspendTest
def State.operationEnded (s : State) : State := (s.withBcu fun b => { b with opInFlight := false }).resumeTest
def State.rechargeStarted (s : State) : State := (s.withBcu fun b => { b with recharging := true }).suspendTest

/-- A recharge stop notice, with its duration in ms where it carries one. -/
def State.rechargeStopped (duration : Option Nat) (s : State) : State :=
  let s := s.withBcu fun b => { b with recharging := false }
  (match duration with
    | some d => s.attributeUpdate (·.setRecharge d)
    | none => s).resumeTest

/-! ### Schedule (R120, R121) -/

/-- The first precondition of Table 6-5 that fails. -/
def State.precondition (s : State) : Option Precondition :=
  if s.bcu.test.isSome then some .busy
  else if !s.bcu.acPresent then some .noAc
  else if !(match s.bcu.charger with
      | .float since _ => since + floatForTest ≤ s.now
      | _ => false) then some .notFloating
  else if s.bcu.tier != .normal then some .tier
  else if s.mdr.rechargeSince.isSome then some .recharge
  else if s.mdr.estimate < s.mdr.settings.closeEnergy then some .energy
  else if !(match s.sqc.sequence with
      | .ready | .opened | .lockout _ => true
      | _ => false) then some .sequence
  else none

/-- R121: a scheduled attempt; a refused one sets the next an hour later. -/
def State.attempt (retry : Bool) (s : State) : State :=
  match s.precondition with
  | none => s.startTest .scheduled none
  | some reason =>
    s.withBcu fun b => { b with lastReason := some reason, nextAttempt := some ⟨s.now + attemptRepeat, retry⟩ }

/-- The interval is on and the days counted have reached it (R121). -/
def Bcu.scheduleDue (b : Bcu) : Bool := b.stored.settings.interval != 0 && b.stored.settings.interval ≤ b.stored.days

/-- R121: one day more, stored, with attribute 6, and the attempt it may trigger. -/
def State.dayPassed (s : State) : State :=
  let days := satSucc 65535 s.bcu.stored.days
  let s := s.withBcu fun b => { b with nextDay := b.nextDay + day }
  let s := (s.withStored fun b => { b with days := days }).attributeUpdate (·.setDays days)
  if s.bcu.scheduleDue then s.attempt false else s

/-! ### Tiers and shutdown (R117 to R119) -/

def Tier.rank : Tier → Nat
  | .normal => 0 | .low => 1 | .critical => 2 | .disconnect => 3

/-- The alarm of a tier entered downward (R118 step 3). -/
def Tier.alarm : Tier → Option AlarmId
  | .normal => none | .low => some .batteryLow | .critical => some .batteryCritical | .disconnect => some .batteryDisconnect

/-- The disconnect timer at a measurement (R117). -/
def Bcu.disconnectStep (now : Nat) (b : Bcu) : Option Nat :=
  if b.v < 21000 && !b.acPresent then some (b.disconnectSince.getD now) else none

/-- Steps 1 to 6 of R117. -/
def Bcu.decideTier (now : Nat) (b : Bcu) : Tier :=
  if b.disconnectSince.any fun t => t + disconnectTime ≤ now then .disconnect
  else match b.tier with
    | .normal => if b.v < 22000 then .critical else if b.v < 23000 then .low else .normal
    | .low => if b.v < 22000 then .critical else if 23400 < b.v then .normal else .low
    | .critical => if 23400 < b.v then .normal else if 22600 < b.v then .low else .critical
    | .disconnect => .disconnect

/-- R119 step 1 at the MDR (R85): the converter stops and the flag is cleared. -/
def State.stopRecharge (s : State) : State :=
  State.rechargeStopped none { s with mdr := { s.mdr with rechargeSince := none } }

/-- R119 step 4 (R188): queued entries are discarded, then the mark is written set. -/
def State.writeMark (s : State) : State :=
  { s with
    nvs := ({ s.nvs with queue := [.shutdownMark true] } : Nvs).kick
    bcu := { s.bcu with shutdown := .mark } }

/-- R119 step 3: the shutdown goes on once the write queue is empty. -/
def State.drainStore (s : State) : State :=
  match s.bcu.shutdown with
  | .store _ => if s.nvs.queue.isEmpty then s.writeMark else s
  | _ => s

/-- R119 step 2 is over: the shutdown waits for the store. -/
def State.radioDone (s : State) : State :=
  match s.bcu.shutdown with
  | .radio _ => (s.withBcu fun b => { b with shutdown := .store (s.now + shutdownStoreTime) }).drainStore
  | _ => s

/-- R119 steps 1 and 2. -/
def State.beginShutdown (s : State) : State :=
  ((s.withBcu fun b => { b with charger := .off }).stopRecharge.askLastCall).withBcu fun b =>
    { b with shutdown := .radio (s.now + shutdownRadioTime) }

/-- R118 step 2: a test in REST or SUSPENDED is aborted by a tier other than NORMAL. -/
def State.tierToTest (new : Tier) (s : State) : State :=
  match s.bcu.test with
  | some r => match r.phase with
    | .load _ => s
    | _ => if new = .normal then s else s.abortTest .tier
  | none => s

/-- R118, and R119 when the tier entered is DISCONNECT. -/
def State.setTier (new : Tier) (s : State) : State :=
  let old := s.bcu.tier
  if new = old then s
  else
    let down : Bool := old.rank < new.rank
    let s := s.withBcu fun b => { b with tier := new }
    let s := (s.tierToRpu old new).tierToTest new
    let s := match new.alarm with
      | some id => if down then s.alarm id (s.bcu.vAndT ++ [acCode s.bcu.acPresent]) else s
      | none => s
    let s :=
      if new = .critical && down then
        let deep := satSucc 65535 s.bcu.stored.deep
        (s.withStored fun b => { b with deep := deep }).attributeUpdate (·.setDeep deep)
      else s
    let s := if new = .normal then s.event .tierCleared (be 2 s.bcu.v) else s
    let s := s.raise .batteryTier
    if new = .disconnect then s.beginShutdown else s

/-! ### The measurement (R112) -/

/-- Step 1: the thermal hold; it puts the charger OFF when set, and lets it leave OFF when clear. -/
def Bcu.thermalStep (b : Bcu) : Bcu :=
  let hot := b.hold b.t
  let b := { b with thermalHold := hot, measured := true }
  if hot then b.putOff else b.leaveOff

/-- The readings are taken, with the set voltages of R115. -/
def Bcu.read (now v : Nat) (i t : Int) (b : Bcu) : Bcu :=
  { b with
    v := v, i := i, t := t, lastMeasurement := now
    vFloatSet := compensated b.stored.settings.vFloat t, vAbsSet := compensated b.stored.settings.vAbs t }

def Bcu.inLoad (b : Bcu) : Bool :=
  match b.test with
  | some r => match r.phase with
    | .load _ => true
    | _ => false
  | none => false

def Bcu.inFloat (b : Bcu) : Bool :=
  match b.charger with
  | .float _ _ => true
  | _ => false

/-- Step 3 (R117). -/
def State.tierStep (s : State) : State :=
  let s := s.withBcu fun b => { b with disconnectSince := b.disconnectStep s.now }
  s.setTier (s.bcu.decideTier s.now)

/-- Step 4, the float accumulator: a reading in FLOAT outside a test. A window already full is closed first (log 12). -/
def State.floatStep (s : State) : State :=
  if s.bcu.inFloat && s.bcu.test.isNone then
    let s := if floatWindow ≤ s.bcu.floatCount then s.closeFloatWindow else s
    s.withBcu fun b => { b with floatSum := b.floatSum + b.i.toNat, floatCount := b.floatCount + 1 }
  else s

/-- Step 4, the hot accumulator. An hour already full is closed first (log 12). -/
def State.hotStep (s : State) : State :=
  if 400 < s.bcu.t then
    let s := if hotHour ≤ s.bcu.hotCount then s.closeHotHour else s
    s.withBcu fun b => { b with hotCount := b.hotCount + 1 }
  else s

/-- The tier and the charger state that the measurement leaves are kept for the BATTERY set (R139, Table 7-5). -/
def Bcu.keepMeasured (b : Bcu) : Bcu := { b with measuredTier := b.tier, measuredCharger := b.charger }

/-- R112: the four uses of a measurement, in order; steps 2 and 3 and the float accumulator are left out in LOAD. -/
def State.measureBattery (v : Nat) (i t : Int) (s : State) : State :=
  let s := s.withBcu fun b => (b.read s.now v i t).thermalStep
  (if s.bcu.inLoad then s.hotStep
   else ((s.withBcu (·.chargerStep s.now)).tierStep.floatStep).hotStep).withBcu Bcu.keepMeasured

/-! ### AC supply (R113) -/

/-- The announcement of AC_LOST: steps 2 and 3 of R113. -/
def State.announceAcLost (s : State) : State := (s.alarm .acSupplyLost s.bcu.vAndT).raise .acSupply

/-- R113: a reading that has stood for 2 s is taken. -/
def State.acReading (present : Bool) (s : State) : State :=
  let first := !s.bcu.acQualified
  let change := present != s.bcu.acPresent
  let s := s.withBcu fun b => { b with acQualified := true, acPresent := present }
  if present then
    if change then
      let s := s.withBcu fun b => { b with disconnectSince := none }
      (if first then s else s.event .acSupplyRestored s.bcu.vAndT).withBcu Bcu.leaveOff
    else s
  else if change then
    ((s.abortTest .acLoss).withBcu Bcu.putOff).announceAcLost
  else if first then s.announceAcLost
  else s

end Sys2Proof.Machine
end

