-- ==== Sys2Proof/Machine/Authority.lean ====
section
/-! DEFINITION. Authority Unit: the authority half of the close permit, the selection and the panel close record (05). -/

namespace Sys2Proof.Machine

def State.withAu (f : Au → Au) (s : State) : State := { s with au := f s.au }

def State.clearSelection (s : State) : State := s.withAu fun a => { a with selection := none }

/-- R108: a running delay is cancelled with its cause; a record in another state stays. -/
def Panel.cancel (cause : CancelCause) (p : Panel) : Panel :=
  match p with
  | .running _ => .cancelled cause
  | _ => p

def State.cancelPanel (cause : CancelCause) (s : State) : State :=
  s.withAu fun a => { a with panel := a.panel.cancel cause }

/-- The selection is cleared and a running panel close delay cancelled (R69 step 5, R89, R93, R181). -/
def State.dropCloses (cause : CancelCause) (s : State) : State := s.clearSelection.cancelPanel cause

def failedWhen (c : Failed) (b : Bool) : List Failed := if b then [c] else []

/-- The control mode an origin needs for a close (Table 5-4, conditions 4 and 6). -/
def Origin.modeFails (mode : ControlMode) (o : Origin) : Bool :=
  match o with
  | .c | .l => mode != .remoteMode
  | .p => mode != .localMode
  | _ => false

/-- R99: the authority conditions that fail for a close of an origin. Conditions 5 and 7 hold for every request the AU places. -/
def Au.failed (o : Origin) (a : Au) : List Failed :=
  failedWhen .tag (!a.tags.isEmpty) ++ failedWhen .handle a.handlePulled ++ failedWhen .block (o == .reclose && a.block)
    ++ failedWhen .mode (o.modeFails a.mode)

/-- Whether a failed condition is the AU's (Table 5-4). -/
def Failed.isAuthority : Failed → Bool
  | .tag | .handle | .block | .mode => true
  | _ => false

/-- The result code of a condition (Tables 4-4 and 5-4); BLOCK has none, as it fails for recloses only. -/
def Failed.resultCode : Failed → Code
  | .tag => .tag
  | .handle => .handleLock
  | .block => .busy
  | .mode => .mode
  | .inFlight => .busy
  | .latch => .mechFault
  | .notOpen => .busy
  | .energy => .energy

/-- R100: one code from the failed set; the set is listed in the order of R100. -/
def refusalCode (failed : List Failed) : Code := (failed.head?.map Failed.resultCode).getD .accepted

/-- The origin of a close or trip request of a port. -/
def portOrigin : Port → Origin
  | .c => .c | .p => .p | .l => .l

/-- The mode has changed (R89 steps 1 to 4). -/
def State.changeMode (mode : ControlMode) (s : State) : State :=
  ((((s.withAu fun a => { a with mode := mode }).dropCloses .mode).raise .modeChanged).event .controlMode
    [controlModeCode mode])

/-! ### The tag table (R91 to R96) -/

/-- The whole table as a TAG_TABLE payload (R194). -/
def Au.tagPayload (a : Au) : List Byte := encList Tag.brief a.tags

/-- The lowest-numbered free slot (R93). -/
def Au.freeSlot (a : Au) : Option Nat := (List.range 8).find? fun n => a.tags.all fun t => t.slot != n

/-- R93 step 1. -/
def Au.addTag (slot : Nat) (kind : TagKind) (origin : Port) (crew : Nat) (placed : Stamp) (note : List Byte) (a : Au) : Au :=
  { a with
    tags := a.tags ++ [⟨slot, kind, origin, crew, placed, note, a.placements⟩]
    placements := satSucc 4294967295 a.placements }

/-- Steps 8 and 9 of R93, and 5 and 6 of R96. -/
def State.announceTags (s : State) : State := (s.alarm .tagTable s.au.tagPayload).raise .tagChanged

/-- Table 5-3. -/
def mayRemove (port origin : Port) : Bool := port == .p || (port == origin && origin != .p)

end Sys2Proof.Machine
end

