-- ==== Sys2Proof/Machine/Elements.lean ====
section
/-! DEFINITION. Overcurrent Element Bank: multiples, curves, operate times, integration, instantaneous counts and decisions (02). -/

namespace Sys2Proof.Machine

/-- The trip threshold of the progress (Table 2-2). -/
def fullProgress : Nat := 1000000

/-- R21. -/
def multiple (amps pickup : Nat) : Nat := min 4000 (amps * 100 / pickup)

/-- R23, searching the points in order. -/
def curveTime : CurveTable → Nat → Nat
  | [], _ => 0
  | [(_, t)], _ => t
  | (m₁, t₁) :: (m₂, t₂) :: rest, m =>
    if m ≤ m₁ then t₁
    else if m < m₂ then t₁ - (t₁ - t₂) * (m - m₁) / (m₂ - m₁)
    else curveTime ((m₂, t₂) :: rest) m

/-- R25. -/
def operateTime (t dial adder : Nat) : Nat := max 20 (min 600000 ((t * dial + 50) / 100 + adder))

/-- The table a curve names: fixed, or the bank's own (R16). -/
def Oeb.table (c : Curve) (o : Oeb) : CurveTable :=
  match c with
  | .f1 => curveF1 | .d1 => curveD1 | .d2 => curveD2 | .d3 => curveD3 | .u1 => o.u1 | .u2 => o.u2

/-- The operate time of an inverse-time element at a multiple (stages 2 and 3). -/
def Oeb.inverseTime (choice : CurveChoice) (m : Nat) (o : Oeb) : Nat :=
  operateTime (curveTime (o.table choice.curve) m) choice.dial choice.adder

/-- R24: fast or delayed, by the next trip number. -/
def Settings.phaseChoice (nextTrip : Nat) (s : Settings) : CurveChoice :=
  if nextTrip ≤ s.fast then s.phaseFast else s.phaseDelayed

def Settings.groundChoice (nextTrip : Nat) (s : Settings) : CurveChoice :=
  if nextTrip ≤ s.fast then s.groundFast else s.groundDelayed

/-- R26. -/
def Settings.hotOperateTime (s : Settings) : Nat := max s.hotTime 20

/-- R27: one update's growth. -/
def integrate (dt tOp p : Nat) : Nat := min fullProgress (p + dt * 1000 / tOp)

/-- R28: one update's reset or decay. -/
def decay (s : Settings) (dt p : Nat) : Nat :=
  match s.resetMode with
  | .instant => 0
  | .timed => p - dt * 1000 / s.resetTime

/-- Table 2-5, with `tOp` the operate time at this multiple. -/
def Timed.update (s : Settings) (dt m tOp : Nat) (t : Timed) : Timed :=
  if 100 ≤ m then
    { progress := integrate dt tOp t.progress, picked := true, run := if t.picked then satSucc 65535 t.run else 1 }
  else if t.picked && 95 ≤ m then { t with run := satSucc 65535 t.run }
  else { progress := decay s dt t.progress, picked := false, run := 0 }

/-- A timed element reaches a decision (R33). -/
def Timed.decides (t : Timed) : Bool := t.picked && t.progress == fullProgress

/-- R31. -/
def Instant.update (s : InstantSettings) (amps : Nat) (i : Instant) : Instant :=
  if s.setting = 0 then .rest
  else if s.setting ≤ amps then { count := min s.count (i.count + 1), picked := true }
  else .rest

/-- R32: the count stands at N_inst and the mask names the next trip. Trip 5 is in no mask. -/
def Instant.decides (s : InstantSettings) (nextTrip : Nat) (i : Instant) : Bool :=
  i.count == s.count && i.picked && s.mask.getLsbD (nextTrip - 1)

/-- A dropout notice (R35): the pickup run and the progress as they stood before the update. -/
structure Notice where
  element : Element
  run : Nat
  progress : Nat
  deriving DecidableEq, Repr

/-- What an update hands to the SQC (R33 to R35). -/
structure UpdateResult where
  decision : List Element
  notices : List Notice
  picked : Bool
  deriving DecidableEq, Repr

def noticeOf (e : Element) (before after : Timed) : List Notice :=
  if before.picked && !after.picked then [⟨e, before.run, before.progress⟩] else []

def named (e : Element) (b : Bool) : List Element := if b then [e] else []

/-- The normal set at an update (R19). -/
def Oeb.updateNormal (s : Settings) (nextTrip dt : Nat) (c : Currents) (o : Oeb) : Oeb :=
  let phase (amps : Nat) (t : Timed) : Timed :=
    let m := multiple amps s.phasePickup
    t.update s dt m (o.inverseTime (s.phaseChoice nextTrip) m)
  let mg := multiple c.ig s.groundPickup
  { o with
    pa := phase c.ia o.pa
    pb := phase c.ib o.pb
    pc := phase c.ic o.pc
    pg := o.pg.update s dt mg (o.inverseTime (s.groundChoice nextTrip) mg)
    ip := o.ip.update s.ip (max c.ia (max c.ib c.ic))
    igi := o.igi.update s.igi c.ig }

/-- The hot-line set at an update; its elements keep no pickup run (Table 2-2). -/
def Oeb.updateHot (s : Settings) (dt : Nat) (c : Currents) (o : Oeb) : Oeb :=
  let hot (pickup amps : Nat) (t : Timed) : Timed :=
    { t.update s dt (multiple amps pickup) s.hotOperateTime with run := 0 }
  { o with
    ha := hot s.hotPhasePickup c.ia o.ha
    hb := hot s.hotPhasePickup c.ib o.hb
    hc := hot s.hotPhasePickup c.ic o.hc
    hg := hot s.hotGroundPickup c.ig o.hg }

/-- The elements of the active set that reach a decision, in the order of Table 2-1. -/
def Oeb.decision (s : Settings) (nextTrip : Nat) (o : Oeb) : List Element :=
  if o.hotActive then
    named .ha o.ha.decides ++ named .hb o.hb.decides ++ named .hc o.hc.decides ++ named .hg o.hg.decides
  else
    named .pa o.pa.decides ++ named .pb o.pb.decides ++ named .pc o.pc.decides ++ named .pg o.pg.decides
      ++ named .ip (o.ip.decides s.ip nextTrip) ++ named .igi (o.igi.decides s.igi nextTrip)

/-- R34. -/
def Oeb.picked (o : Oeb) : Bool :=
  if o.hotActive then o.ha.picked || o.hb.picked || o.hc.picked || o.hg.picked
  else o.pa.picked || o.pb.picked || o.pc.picked || o.pg.picked || o.ip.picked || o.igi.picked

/-- R19: the active set is evaluated; the inactive one is not. -/
def Oeb.update (s : Settings) (shot dt : Nat) (c : Currents) (o : Oeb) : Oeb × UpdateResult :=
  let nextTrip := shot + 1
  let o' := if o.hotActive then o.updateHot s dt c else o.updateNormal s nextTrip dt c
  let notices :=
    if o.hotActive then []
    else noticeOf .pa o.pa o'.pa ++ noticeOf .pb o.pb o'.pb ++ noticeOf .pc o.pc o'.pc ++ noticeOf .pg o.pg o'.pg
  (o', ⟨o'.decision s nextTrip, notices, o'.picked⟩)

/-- R29: every element's progress and both counts become 0 at the start of a trip pulse. -/
def Oeb.pulseStart (o : Oeb) : Oeb :=
  { o with
    pa := { o.pa with progress := 0 }, pb := { o.pb with progress := 0 }
    pc := { o.pc with progress := 0 }, pg := { o.pg with progress := 0 }
    ha := { o.ha with progress := 0 }, hb := { o.hb with progress := 0 }
    hc := { o.hc with progress := 0 }, hg := { o.hg with progress := 0 }
    ip := { o.ip with count := 0 }, igi := { o.igi with count := 0 } }

/-- The cleared state of R18 for every element, with the given set active. -/
def Oeb.select (hot : Bool) (o : Oeb) : Oeb :=
  { o with
    pa := .rest, pb := .rest, pc := .rest, pg := .rest, ip := .rest, igi := .rest
    ha := .rest, hb := .rest, hc := .rest, hg := .rest, hotActive := hot }

def Tag.isHotLine (t : Tag) : Bool := t.kind == .hotLine

/-- R18: a tag change that moves the number of HOT_LINE entries across zero switches the active set, and the picked-up status becomes
false at once (R34). -/
def State.tagsToOeb (s : State) : State :=
  let hot := s.au.tags.any Tag.isHotLine
  if hot = s.oeb.hotActive then s
  else { s with oeb := s.oeb.select hot, sqc := { s.sqc with picked := false } }

def Element.isHotLine : Element → Bool
  | .ha | .hb | .hc | .hg => true
  | _ => false

end Sys2Proof.Machine
end

