-- ==== Sys2Proof/Machine/Sequence.lean ====
section
/-! DEFINITION. Sequence Controller: settings activation, lockout, and what each notice from its neighbours does (03). What the SQC asks of the MDR stands in Mechanism.lean. -/

namespace Sys2Proof.Machine

def State.setSequence (q : Sequence) (s : State) : State := { s with sqc := { s.sqc with sequence := q } }

def State.setShot (n : Nat) (s : State) : State := { s with sqc := { s.sqc with shot := n } }

def State.setAfterCommand (b : Bool) (s : State) : State := { s with sqc := { s.sqc with afterCommand := b } }

/-! ### Settings activation (R42, R43) -/

/-- The moments at which a staged copy becomes active (R42). -/
def Sqc.quiet (q : Sqc) : Bool :=
  match q.sequence with
  | .opened | .lockout _ => true
  | .ready => !q.picked
  | _ => false

/-- R43. -/
def State.activate (staged : Settings) (s : State) : State :=
  let s : State := { s with sqc :=
    { s.sqc with active := staged, staged := none, shot := min s.sqc.shot staged.trips } }
  ((s.place .activeSettings).raise .settingsActive).event .settingsActivated
    (be 1 s.sqc.active.trips ++ be 1 s.sqc.active.fast ++ be 1 s.sqc.shot)

/-- The test of R42. -/
def State.activationTest (s : State) : State :=
  match s.sqc.staged with
  | some staged => if s.sqc.quiet then s.activate staged else s
  | none => s

/-! ### LOCKOUT (R50) -/

/-- R50. A cause that arises in LOCKOUT changes nothing. -/
def State.enterLockout (cause : LockoutCause) (origin : Origin) (s : State) : State :=
  match s.sqc.sequence with
  | .lockout _ => s
  | _ =>
    let made := (s.setSequence (.lockout cause)).newRecord .lockout origin none none none
    ((made.1.raise .lockout).alarm .lockout
      (cause.code :: be 1 made.1.sqc.shot ++ be 2 made.2)).activationTest

/-! ### Trips (R47 to R49) -/

/-- R47: the kind of a trip the SQC did not ask for. -/
def kindOf (origins : List Origin) : TripKind :=
  if origins.contains .tag then .tag else if origins.contains .discordance then .discordance else .command

def Origin.isCommand : Origin → Bool
  | .c | .p | .l | .button => true
  | _ => false

/-- The cause and the record origin of a lockout by a trip in RECLOSE_WAIT (Tables 3-4 and 3-5). -/
def lockoutOf (origins : List Origin) : LockoutCause × Origin :=
  match kindOf origins with
  | .tag => (.tag, .tag)
  | .discordance => (.mechanism, .discordance)
  | _ => (.command, (origins.find? Origin.isCommand).getD .c)

/-- R47, with the states of Table 3-4. -/
def State.tripStarted (origins : List Origin) (s : State) : State :=
  if !s.sqc.reported || origins.all (· == .protection) then s
  else match s.sqc.sequence with
    | .ready | .reclaim _ | .closing _ => s.setSequence (.tripping (kindOf origins) false)
    | .interval _ | .energyWait _ => s.enterLockout (lockoutOf origins).1 (lockoutOf origins).2
    | .tripping _ _ | .opened | .lockout _ => s

/-- R48: the first of the five conditions that hold sends the sequence to LOCKOUT. -/
def State.lockoutCause (hotLine : Bool) (s : State) : Option (LockoutCause × Origin) :=
  if s.sqc.active.trips ≤ s.sqc.shot then some (.shots, .protection)
  else if !s.au.tags.isEmpty then some (.tag, .tag)
  else if s.au.block then some (.block, .protection)
  else if s.sqc.afterCommand then some (.afterCommand, .protection)
  else if hotLine then some (.hotLine, .protection)
  else none

/-- Reclose interval k of the record (Table 3-1, fields 17 to 19). -/
def Settings.interval (k : Nat) (s : Settings) : Nat :=
  match k with
  | 1 => s.interval1
  | 2 => s.interval2
  | _ => s.interval3

/-- R48 and R49 for a trip that left all poles OPEN. A trip whose start was disregarded before the first pole report (R63) may end in READY,
which neither rule covers; READY stays (log 41, DESIGN CHOICE). -/
def State.tripCompleted (s : State) : State :=
  match s.sqc.sequence with
  | .tripping .protection hotLine => match s.lockoutCause hotLine with
    | some (cause, origin) => s.enterLockout cause origin
    | none => s.setSequence (.interval (s.now + s.sqc.active.interval s.sqc.shot * ms))
  | .tripping .command _ => (s.setSequence .opened).activationTest
  | .tripping .tag _ => s.enterLockout .tag .tag
  | .tripping .discordance _ => s.enterLockout .mechanism .discordance
  | _ => s

/-- The MDR reports the end of a trip (R48, R49). -/
def State.tripEnded (outcome : OpOutcome) (s : State) : State :=
  if !s.sqc.reported then s
  else match outcome with
    | .complete | .retripComplete => s.tripCompleted
    | .discordant | .failed => s.enterLockout .mechanism .discordance
    | .cut => s

/-! ### Closes (R52, R54, R55) -/

/-- R52; the SQC is already CLOSING when a reclose starts. -/
def State.closeStarted (origin : Origin) (s : State) : State :=
  if !s.sqc.reported || !origin.isCommand then s
  else match s.sqc.sequence with
    | .opened | .lockout _ | .interval _ | .energyWait _ => s.setSequence (.closing .command)
    | _ => s

/-- RECLAIM with its timer at the full reclaim time, paused while an element is picked up (R54, R56). -/
def State.startReclaim (s : State) : State :=
  let time := s.sqc.active.reclaim * ms
  s.setSequence (.reclaim (if s.sqc.picked then .paused time else .running (s.now + time)))

/-- READY with the counter at 0 and the after-command flag clear (R54, R56, R61), and the test of R42. -/
def State.enterReady (s : State) : State :=
  (((s.setSequence .ready).setShot 0).setAfterCommand false).activationTest

/-- R54. -/
def State.closeCompleted (s : State) : State :=
  match s.sqc.sequence with
  | .closing kind =>
    if !s.au.tags.isEmpty then s.enterReady
    else match kind with
      | .reclose => s.startReclaim
      | .command => ((s.setShot 0).setAfterCommand true).startReclaim
  | _ => s

/-- The MDR reports the end of a close (R54, R55). -/
def State.closeEnded (outcome : OpOutcome) (s : State) : State :=
  if !s.sqc.reported then s
  else match outcome with
    | .complete | .retripComplete => s.closeCompleted
    | .failed | .discordant => s.enterLockout .mechanism .discordance
    | .cut => s

/-! ### The other notices (R56, R58 to R61, R63) -/

/-- R56: the pause follows the picked-up status. -/
def State.pauseReclaim (s : State) : State :=
  match s.sqc.sequence with
  | .reclaim (.running d) => if s.sqc.picked then s.setSequence (.reclaim (.paused (d - s.now))) else s
  | .reclaim (.paused r) => if s.sqc.picked then s else s.setSequence (.reclaim (.running (s.now + r)))
  | _ => s

/-- The states in which the SQC takes an external-open notice (R58). -/
def Sqc.openedByHand (q : Sqc) : Bool :=
  q.reported && match q.sequence with
    | .ready | .reclaim _ => true
    | _ => false

/-- R58 up to its activation test, which follows the record and the event (R78). -/
def State.externallyOpened (s : State) : State := if s.sqc.openedByHand then s.setSequence .opened else s

/-- R59. -/
def State.latchNoticed (s : State) : State :=
  if !s.sqc.reported then s
  else match s.sqc.sequence with
    | .interval _ | .energyWait _ | .opened => s.enterLockout .mechanism .discordance
    | _ => s

/-- The tests of R60 that concern the notice itself. -/
def Notice.counts (n : Notice) : Bool := 2 ≤ n.run && 50000 ≤ n.progress

/-- The tests of R60 that concern the sequence. -/
def State.mayAdvance (s : State) : Bool :=
  s.sqc.reported && s.sqc.active.coordination && s.au.tags.isEmpty
    && (match s.sqc.sequence with
        | .ready | .reclaim _ => true
        | _ => false)
    && s.sqc.shot + 1 ≤ s.sqc.active.fast && s.sqc.shot + 1 < s.sqc.active.trips

/-- R60: notices that pass the tests advance the sequence once. Of several, the record carries the element of the first, in the order of
Table 2-1 (log 60, DEDUCED). -/
def State.coordinate (notices : List Notice) (s : State) : State :=
  match s.mayAdvance, notices.find? Notice.counts with
  | true, some n =>
    let made := ((s.setShot (s.sqc.shot + 1)).startReclaim).newRecord .seqAdvance .protection (some n.element) none none
    made.1.event .seqAdvance (be 2 made.2)
  | _, _ => s

/-- R61. -/
def State.tagToSequence (s : State) : State :=
  if !s.sqc.reported then s
  else match s.sqc.sequence with
    | .ready | .reclaim _ => s.enterReady
    | .interval _ | .energyWait _ => s.enterLockout .tag .tag
    | .tripping _ _ | .closing _ | .opened | .lockout _ => s

def Poles.allOpen (p : Poles) : Bool := p.a == .opened && p.b == .opened && p.c == .opened
def Poles.allClosed (p : Poles) : Bool := p.a == .closed && p.b == .closed && p.c == .closed
def Poles.anyClosed (p : Poles) : Bool := p.a == .closed || p.b == .closed || p.c == .closed
def Poles.anyInvalid (p : Poles) : Bool := p.a == .invalid || p.b == .invalid || p.c == .invalid

/-- At least one CLOSED and one OPEN, none INVALID (R65). -/
def Poles.mixed (p : Poles) : Bool := !p.anyInvalid && !p.allOpen && !p.allClosed

/-- R63: the first pole report gives the SQC its starting state. -/
def State.takeReport (poles : Poles) (s : State) : State :=
  let s : State := { s with sqc := { s.sqc with reported := true } }
  if poles.allClosed then (s.setSequence .ready).activationTest
  else if poles.allOpen then (s.setSequence .opened).activationTest
  else s.enterLockout .mechanism .discordance

end Sys2Proof.Machine
end

