-- ==== Sys2Proof/Machine/Mechanism.lean ====
section
/-! DEFINITION. Mechanism Driver: the arbiter, pulses, the ends of operations, the pole watches, the latch and the energy account (04), and the requests the SQC places with it (R46, R51, R53). -/

namespace Sys2Proof.Machine

def State.withMdr (f : Mdr → Mdr) (s : State) : State := { s with mdr := f s.mdr }

/-- R83. -/
def energyOf (capacitance vcap : Nat) : Nat := capacitance * (vcap * vcap) / 2000000000

/-- R84; the estimate stays at 0 or above. -/
def Mdr.debit (e : Nat) (m : Mdr) : Mdr := { m with estimate := m.estimate - e }

def Mdr.stopWatches (m : Mdr) : Mdr := { m with invalidWatch := none, mixedWatch := none }

/-! ### Latch and alarms (R81, Table 7-3) -/

/-- R81: the latch is set; setting a latch already set changes nothing. -/
def State.setLatch (s : State) : State :=
  if s.mdr.latch then s
  else ((s.withMdr fun m => { m.stopWatches with latch := true }).raise .mechFault).place .mechanism

/-- A MECHANISM_FAULT alarm with its cause, the indications, and the record number where there is one. -/
def State.mechanismAlarm (cause : MechCause) (number : Option Nat) (s : State) : State :=
  s.alarm .mechanismFault (cause.code :: s.mdr.poles.enc ++ encOpt (be 2) number)

def State.discordanceAlarm (number : Option Nat) (s : State) : State :=
  s.alarm .poleDiscordance (s.mdr.poles.enc ++ encOpt (be 2) number)

/-! ### Pulses (R69) -/

/-- R69 for the first pulse of a trip, with what the request carries. -/
def State.beginTrip (origin : Origin) (element : Option Element) (currents : Currents) (s : State) : State :=
  let reserved := s.reserve
  let low : Bool := s.mdr.estimate < s.mdr.settings.eTrip
  let s := reserved.1.withMdr fun m =>
    { (m.debit m.settings.eTrip).stopWatches with
      op := some ⟨.trip, [origin], .pulse, false, s.now, m.estimate, low, element, currents, reserved.2⟩
      tripDrive := true, closeDrive := false }
  let s := if low then s.raise .energyLow else s
  let s : State := { s with oeb := s.oeb.pulseStart }
  (((s.tripStarted [origin]).dropCloses .trip).operationStarted)

/-- R69 for the pulse of a close. -/
def State.beginClose (origin : Origin) (s : State) : State :=
  let reserved := s.reserve
  let s := reserved.1.withMdr fun m =>
    { (m.debit m.settings.eClose).stopWatches with
      op := some ⟨.close, [origin], .pulse, false, s.now, m.estimate, false, none, s.lmu.currents, reserved.2⟩
      closeDrive := true }
  (s.closeStarted origin).operationStarted

/-- R71: the one retrip. Its pulse is debited and reaches the OEB, and nothing else hears of it (R69). -/
def State.retrip (op : Operation) (s : State) : State :=
  let s := s.withMdr fun m =>
    { m.debit m.settings.eTrip with
      op := some { op with phase := .retripPulse, retrip := true, pulseStart := s.now }, tripDrive := true }
  { s with oeb := s.oeb.pulseStart }

/-! ### Ends of operations (R77) -/

/-- The record kind of R77. -/
def Operation.recordKind (op : Operation) : RecordKind :=
  match op.kind, op.origins.head? with
  | .trip, some .protection => .protTrip
  | .trip, _ => .cmdTrip
  | .close, some .reclose => .reclose
  | .close, _ => .cmdClose

/-- The record of R77, with the number reserved for it. -/
def Operation.toRecord (outcome : OpOutcome) (op : Operation) : OpRecord where
  number := op.number
  kind := op.recordKind
  time := ⟨0, 0, false⟩
  shotAfter := 0
  origin := if op.origins.head? = some .reclose then .protection else op.origins.headD .protection
  element := if op.recordKind = .protTrip then op.element else none
  currents := if op.kind = .trip then some op.currents else none
  energyBefore := some op.energyBefore
  outcome := some outcome
  lowEnergy := op.lowEnergy

def OpOutcome.isFault : OpOutcome → Bool
  | .failed | .discordant => true
  | _ => false

/-- Steps 1 to 4 of R77. -/
def State.handOff (outcome : OpOutcome) (op : Operation) (s : State) : State :=
  let s := match op.kind with
    | .trip => s.tripEnded outcome
    | .close => s.closeEnded outcome
  let s := s.record (op.toRecord outcome)
  let s := match op.kind with
    | .trip => (s.event .trip (be 2 op.number)).raise .trip
    | .close => (s.event .close (be 2 op.number)).raise .close
  if outcome.isFault then s.raise .mechFault else s

/-- R77 with nothing left in flight; the BCU gets its end notice. -/
def State.endOperation (outcome : OpOutcome) (op : Operation) (s : State) : State :=
  ((s.withMdr fun m => { m with op := none, tripDrive := false, closeDrive := false }).handOff outcome op).operationEnded

/-! ### The arbiter (R66 to R68, R74) -/

/-- R74: the close in flight is cut, the trip begins, and the close is handed off. -/
def State.cutClose (origin : Origin) (element : Option Element) (currents : Currents) (close : Operation) (s : State) :
    State :=
  ((s.withMdr fun m => { m with closeDrive := false }).beginTrip origin element currents).handOff .cut close

/-- R66 for a trip request carrying an element and currents. -/
def State.requestTripWith (origin : Origin) (element : Option Element) (currents : Currents) (s : State) : State :=
  match s.mdr.op with
  | none => s.beginTrip origin element currents
  | some op => match op.kind with
    | .trip =>
      if op.origins.contains origin then s
      else s.withMdr fun m => { m with op := some { op with origins := op.origins ++ [origin] } }
    | .close => s.cutClose origin element currents op

/-- R66 for every origin but PROTECTION: the currents are those of the last measurement update. -/
def State.requestTrip (origin : Origin) (s : State) : State := s.requestTripWith origin none s.lmu.currents

/-- R67: the mechanism conditions that fail, in the order of Table 4-4. -/
def Mdr.failed (m : Mdr) : List Failed :=
  failedWhen .inFlight m.op.isSome ++ failedWhen .latch m.latch ++ failedWhen .notOpen (!m.poles.allOpen)
    ++ failedWhen .energy (m.estimate < m.settings.closeEnergy)

/-- R68: every condition of the close permit that fails, the AU's first. -/
def State.closeFailed (origin : Origin) (s : State) : List Failed := s.au.failed origin ++ s.mdr.failed

/-- R68: the close fires when nothing fails; the answer is the failed set, empty for FIRED. -/
def State.requestClose (origin : Origin) (s : State) : State × List Failed :=
  match s.closeFailed origin with
  | [] => (s.beginClose origin, [])
  | failed => (s, failed)

/-- The AU reports a tag placement (R74). -/
def State.tagToMechanism (s : State) : State :=
  match s.mdr.op with
  | some op => match op.kind with
    | .close => s.cutClose .tag none s.lmu.currents op
    | .trip => s
  | none => s

/-! ### Trip operations (R70 to R72) -/

/-- A trip is over with all poles OPEN: COMPLETE, or RETRIP_COMPLETE after a retrip (R70, R71). -/
def State.tripOpened (op : Operation) (s : State) : State :=
  s.endOperation (if op.retrip then .retripComplete else .complete) op

/-- The phase moves on and the coil drive ends (R70, R71, R73). -/
def State.toPhase (phase : Phase) (op : Operation) (s : State) : State :=
  s.withMdr fun m => { m with op := some { op with phase := phase }, tripDrive := false, closeDrive := false }

/-- R70, R71: the trip pulse has reached 40 ms. -/
def State.tripPulseOver (s : State) : State :=
  match s.mdr.op with
  | some op =>
    if op.kind = .trip then match op.phase with
      | .pulse =>
        let s := s.reach (op.pulseStart + tripPulse)
        if s.mdr.poles.allOpen then s.tripOpened op else s.toPhase .settle op
      | .retripPulse =>
        let s := s.reach (op.pulseStart + tripPulse)
        if s.mdr.poles.allOpen then s.tripOpened op else s.toPhase .retripSettle op
      | _ => s
    else s
  | none => s

/-- R71: the settle window has expired with a pole not OPEN. A pulse not yet ended ends first (log 24). -/
def State.tripWindowOver (s : State) : State :=
  match s.mdr.op with
  | some op =>
    if op.kind = .trip && !op.retrip then
      let s := if op.phase = .pulse then s.tripPulseOver else s
      match s.mdr.op with
      | some op =>
        let s := s.reach (op.pulseStart + tripWindow)
        if s.mdr.poles.allOpen then s.tripOpened op else s.retrip op
      | none => s
    else s
  | none => s

/-- R72: the settle window of the retrip has expired with a pole not OPEN. -/
def State.retripWindowOver (s : State) : State :=
  match s.mdr.op with
  | some op =>
    if op.kind = .trip && op.retrip then
      let s := if op.phase = .retripPulse then s.tripPulseOver else s
      match s.mdr.op with
      | some op =>
        let s := s.reach (op.pulseStart + tripWindow)
        if s.mdr.poles.allOpen then s.tripOpened op
        else ((s.setLatch.discordanceAlarm (some op.number)).mechanismAlarm .tripFailed (some op.number)).endOperation .discordant op
      | none => s
    else s
  | none => s

/-! ### Close operations (R73 to R76) -/

/-- R73: the close pulse has reached 60 ms. -/
def State.closePulseOver (s : State) : State :=
  match s.mdr.op with
  | some op =>
    if op.kind = .close && op.phase = .pulse then (s.reach (op.pulseStart + closePulse)).toPhase .settle op else s
  | none => s

/-- R75, R76: the close has failed. -/
def State.closeFailedAt (op : Operation) (s : State) : State :=
  let s := s.setLatch
  if s.mdr.poles.allOpen then (s.mechanismAlarm .closeFailed (some op.number)).endOperation .failed op
  else
    let s := (s.withMdr fun m => { m with closeDrive := false }).beginTrip .discordance none s.lmu.currents
    ((s.discordanceAlarm (some op.number)).mechanismAlarm .closeDiscordant (some op.number)).handOff .discordant op

/-- R73: the close settle window has expired before all poles read CLOSED. -/
def State.closeWindowOver (s : State) : State :=
  match s.mdr.op with
  | some op =>
    if op.kind = .close then
      let s := s.reach (op.pulseStart + closeWindow)
      if s.mdr.poles.allClosed then s.endOperation .complete op else s.closeFailedAt op
    else s
  | none => s

/-! ### Pole indications (R65, R78 to R80) -/

/-- Table 4-1. -/
def poleIndication (c : PoleContacts) : Indication :=
  match c.a, c.b with
  | true, false => .closed
  | false, true => .opened
  | _, _ => .invalid

def polesOf (c : Contacts) : Poles := ⟨poleIndication c.a, poleIndication c.b, poleIndication c.c⟩

/-- A pole has risen from OPEN or INVALID to CLOSED (R80). -/
def Poles.risen (before after : Poles) : Bool :=
  (before.a != .closed && after.a == .closed) || (before.b != .closed && after.b == .closed)
    || (before.c != .closed && after.c == .closed)

/-- R79: the watches at an indication event, or from the clearing of the latch (R82). They run with nothing in flight and the
latch clear. -/
def Mdr.watch (now : Nat) (m : Mdr) : Mdr :=
  if m.latch || m.op.isSome then m.stopWatches
  else
    { m with
      invalidWatch := if m.poles.anyInvalid then some (m.invalidWatch.getD (now + watchTime)) else none
      mixedWatch := if m.poles.mixed then some (m.mixedWatch.getD (now + watchTime)) else none }

/-- R78, R58: the SQC takes the notice, the record is written and the event created, and then the SQC makes its activation test. -/
def State.externalOpen (s : State) : State :=
  let opens := s.sqc.openedByHand
  let s := (s.withMdr Mdr.stopWatches).externallyOpened
  let made := s.newRecord .externalOpen .p none (some s.lmu.currents) (some s.mdr.estimate)
  let s := (made.1.event .trip (be 2 made.2)).raise .trip
  if opens then s.activationTest else s

/-- R80. -/
def State.unexpectedClose (s : State) : State :=
  let s := if s.mdr.latch then s else s.setLatch.latchNoticed
  (s.mechanismAlarm .unexpectedClose none).requestTrip .discordance

/-- The completion rules for an operation in flight at an indication event (R70, R71, R73). -/
def State.judgePoles (op : Operation) (s : State) : State :=
  match op.kind with
  | .trip => if s.mdr.poles.allOpen then s.tripOpened op else s
  | .close => if s.mdr.poles.allClosed then s.endOperation .complete op else s

/-- R65: an indication event after the first report, with the indications before it. -/
def State.indicationEvent (before : Poles) (s : State) : State :=
  match s.mdr.op with
  | some op => s.judgePoles op
  | none =>
    if s.mdr.poles.allOpen then s.externalOpen
    else if before.risen s.mdr.poles then s.unexpectedClose
    else s.withMdr (·.watch s.now)

/-- R88 after the SQC has taken its state: poles that are not all alike set the latch, and a pole found CLOSED is tripped. -/
def State.judgeReport (s : State) : State :=
  let poles := s.mdr.poles
  if poles.allOpen || poles.allClosed then s
  else
    let s := s.setLatch.mechanismAlarm .powerOn none
    let s := if poles.mixed then s.discordanceAlarm none else s
    if poles.anyClosed then s.requestTrip .discordance else s

/-- The first report of the poles after power-on (R63, R88); an operation already in flight is judged by it as by any event. -/
def State.firstReport (s : State) : State :=
  let s := (s.takeReport s.mdr.poles).judgeReport
  match s.mdr.op with
  | some op => s.judgePoles op
  | none => s

/-- The contacts as they now stand: the first report, a change of indication, or nothing. -/
def State.contactsRead (c : Contacts) (s : State) : State :=
  let before := s.mdr.poles
  let s' := s.withMdr fun m => { m with poles := polesOf c }
  if !s.sqc.reported then s'.firstReport
  else if polesOf c = before then s
  else s'.indicationEvent before

/-- R79: the INVALID watch has run 200 ms. -/
def State.invalidWatchOver (s : State) : State :=
  match s.mdr.invalidWatch with
  | some d => ((s.reach d).setLatch.latchNoticed).mechanismAlarm .invalidIndication none
  | none => s

/-- R79: the mixed watch has run 200 ms. The latch is set as the pulse starts. -/
def State.mixedWatchOver (s : State) : State :=
  match s.mdr.mixedWatch with
  | some d =>
    (((s.reach d).requestTrip .discordance).setLatch.discordanceAlarm none).mechanismAlarm .poleDropped none
  | none => s

/-! ### Requests of the SQC (R46, R51, R53) -/

/-- R46. -/
def State.takeDecision (decision : List Element) (s : State) : State :=
  let hot := decision.any Element.isHotLine
  if !s.sqc.reported || decision.isEmpty then s
  else match s.sqc.sequence with
    | .ready | .reclaim _ =>
      ((s.setShot (s.sqc.shot + 1)).setSequence (.tripping .protection hot)).requestTripWith .protection decision.head?
        s.lmu.currents
    | .tripping kind mark => s.setSequence (.tripping kind (mark || hot))
    | _ => s

/-- The SQC acts on the answer to a reclose (R51, R53): `wait` is the state for a refusal for energy alone. -/
def State.reclose (wait : Sequence) (s : State) : State :=
  let asked := s.requestClose .reclose
  match asked.2 with
  | [] => asked.1.setSequence (.closing .reclose)
  | [.energy] => asked.1.setSequence wait
  | failed =>
    if failed.any Failed.isAuthority then asked.1.enterLockout .authority .protection
    else asked.1.enterLockout .mechanism .discordance

/-- R53: a capacitor measurement is a cue to ask again. -/
def State.askAgain (s : State) : State :=
  match s.sqc.sequence with
  | .energyWait d => s.reclose (.energyWait d)
  | _ => s

/-- What the SQC does with the results of an update, in the order of 3.3.1: the decision or the notices, the pause (R56), the
activation test (R42). -/
def State.takeUpdate (r : UpdateResult) (s : State) : State :=
  let s : State := { s with sqc := { s.sqc with picked := r.picked } }
  let s := if r.decision.isEmpty then s.coordinate r.notices else s.takeDecision r.decision
  let s := s.pauseReclaim
  if s.sqc.sequence = .ready then s.activationTest else s

/-! ### The energy account (R83 to R86) -/

/-- R85; in DISCONNECT the converter does not start (R85). -/
def State.rechargeControl (s : State) : State :=
  match s.mdr.rechargeSince with
  | none =>
    if s.mdr.vcap + 5000 < s.mdr.settings.target && s.bcu.tier != .disconnect then
      (s.withMdr fun m => { m with rechargeSince := some s.now }).rechargeStarted
    else s
  | some since =>
    if s.mdr.settings.target ≤ s.mdr.vcap then
      (s.withMdr fun m => { m with rechargeSince := none }).rechargeStopped (some ((s.now - since) / ms))
    else s

/-- R86: the LOW_ENERGY alarm with cause CLOSED_LOW, and the occurrence. -/
def State.raiseLowEnergy (s : State) : State :=
  ((s.withMdr fun m => { m with lowWatch := .raised }).alarm .lowEnergy
    (0x02 :: be 4 s.mdr.estimate ++ be 4 s.mdr.settings.eTrip)).raise .energyLow

/-- R86 at a measurement. -/
def State.lowEnergyWatch (s : State) : State :=
  if s.mdr.estimate < s.mdr.settings.eTrip && s.mdr.poles.anyClosed then
    match s.mdr.lowWatch with
    | .stopped => s.withMdr fun m => { m with lowWatch := .running (s.now + lowEnergyTime) }
    | .running d => if d ≤ s.now then s.raiseLowEnergy else s
    | .raised => s
  else s.withMdr fun m => { m with lowWatch := .stopped }

/-- R83. -/
def State.measureCapacitor (vcap : Nat) (s : State) : State :=
  let s := s.withMdr fun m =>
    let energy := energyOf m.settings.capacitance vcap
    { m with vcap := vcap, estimate := energy, measuredEstimate := energy, lastMeasurement := s.now }
  (s.rechargeControl.lowEnergyWatch).askAgain

end Sys2Proof.Machine
end

