-- ==== Sys2Proof/Machine/StartUp.lean ====
section
/-! DEFINITION. Loss of power, and the restore and start of every block at power-on (10.3, 10.4, R15, R39, R63, R88, R91, R111, R133, R158, R169, R182). -/

namespace Sys2Proof.Machine

/-! ### Loss of power (R185) -/

/-- What a write cut off leaves in storage: the record fails its check (R183, R185). R189 has the mark stay set when the write that clears it
is cut off, so that write leaves the store as it was; the two rules conflict there, and R189 speaks of this case alone
(log 50, DEDUCED). -/
def Store.cutOff (c : Content) (st : Store) : Store := if c = .shutdownMark false then st else st.tear c

/-- The write in progress is cut off; the queued entries are lost (R185). -/
def Nvs.lose (n : Nvs) : Nvs where
  store := match n.writing with
    | some w => n.store.cutOff w.content
    | none => n.store
  queue := []
  writing := none

/-- The part without supply: nothing is left but the store, the commands that wait, and the model's own counter (log 10). -/
def State.dark (store : Store) (contactor : Bool) (free : Nat) (pending : List Instr) : State :=
  let r := State.reset
  { r with
    au := { r.au with tags := [], placements := 0 }
    bcu := { r.bcu with contactorClosed := contactor }
    rpu :=
      { r.rpu with
        qAlarm := [], qEvent := [], nextNumber := 0, nextOrder := 0, radio := .off, holdoff := none, measureTimer := none }
    ports := { r.ports with cAlerts := ⟨0, 0⟩, pAlerts := ⟨0, 0⟩ }
    nvs := ⟨store, [], none⟩
    powered := false
    freeIndex := free
    pending := pending }

/-- POWER_LOSS: every running operation and timer ends with the supply. -/
def State.powerLoss (s : State) : State :=
  .dark s.nvs.lose.store s.bcu.contactorClosed s.freeIndex s.pending

/-! ### The tag table (R91) -/

/-- The entries of the passing slots, each with its slot, lowest slot first. -/
def Store.entries (st : Store) : List (Nat × Tag) :=
  (List.range 8).filterMap fun n => match st.slot n with
    | some (some t) => some (n, { t with slot := n })
    | _ => none

/-- Of entries with one crew number and kind, the one in the lowest-numbered slot is kept. -/
def keepFirst : List (Nat × Tag) → List (Nat × Tag)
  | [] => []
  | x :: rest => x :: (keepFirst rest).filter fun y => !(y.2.crew == x.2.crew && y.2.kind == x.2.kind)

/-- The slots whose record fails its check. -/
def Store.failingSlots (st : Store) : List Nat :=
  (List.range 8).filter fun n => (st.slot n).isNone

/-- The slot that receives the fail-safe entry, if one does. -/
def Store.failSafeSlot (st : Store) : Option Nat :=
  if st.entries.any fun e => e.2.kind == .hotLine && e.2.crew == 0 then none else st.failingSlots.head?

def placedBefore (x y : Tag) : Bool := x.number < y.number || (x.number == y.number && x.slot ≤ y.slot)

def insertTag (x : Tag) : List Tag → List Tag
  | [] => [x]
  | y :: rest => if placedBefore x y then x :: y :: rest else y :: insertTag x rest

/-- The restored table, by placement number and then slot. -/
def Store.tags (st : Store) : List Tag :=
  let kept := (keepFirst st.entries).map fun e => e.2
  (kept ++ (st.failSafeSlot.map Tag.failSafe).toList).foldr insertTag []

/-- One past the largest restored placement number, or 0 with no entry. -/
def placementsAfter (tags : List Tag) : Nat :=
  if tags.isEmpty then 0 else satSucc 4294967295 ((tags.map fun t => t.number).foldl max 0)

/-! ### The list of failed records (R186) -/

/-- The slots to report: those that fail, and those freed as duplicates. -/
def Store.lostSlots (st : Store) : List Nat :=
  let kept := (keepFirst st.entries).map fun e => e.1
  (List.range 8).filter fun n =>
    st.failingSlots.contains n || (st.entries.any (fun e => e.1 == n) && !kept.contains n)

def idWhen (id : RecordId) (b : Bool) : List RecordId := if b then [id] else []

/-- The failed records in table order. -/
def Store.failed (st : Store) : List RecordId :=
  idWhen .activeSettings st.activeSettings.isNone ++ idWhen .userCurve1 st.userCurve1.isNone
    ++ idWhen .userCurve2 st.userCurve2.isNone ++ st.lostSlots.map .tagSlot ++ idWhen .authority st.authority.isNone
    ++ idWhen .mechanism st.mechanism.isNone ++ idWhen .counters st.counters.isNone
    ++ idWhen .recordRing st.recordRing.isNone ++ idWhen .battery st.battery.isNone ++ idWhen .link st.link.isNone
    ++ idWhen .tracker st.tracker.isNone ++ idWhen .shutdownMark st.shutdownMark.isNone

/-- The STORE_FAULT payload of R187: the cause, then each record id with its fail-safe mark (log 32). -/
def Store.faultPayload (st : Store) : List Byte :=
  0x01 :: encList (fun id => id.code :: encFlag (match id with
    | .tagSlot n => st.failSafeSlot == some n
    | _ => false)) st.failed

/-! ### Record numbers (R169) -/

/-- One past the newest entry of the ring, or 0 when it is empty. -/
def numberAfter (ring : List OpRecord) : Nat := (ring.getLast?.map fun r => (r.number + 1) % 65536).getD 0

/-- The ring holds one of the 32 numbers that come next. -/
def wouldReuse (next : Nat) (ring : List OpRecord) : Bool :=
  ring.any fun r => (r.number + 65536 - next) % 65536 < 32

def Store.restoredCounters (st : Store) : Counters :=
  let ring := st.recordRing.getD []
  match st.counters with
  | some c => if wouldReuse c.next ring then { c with next := numberAfter ring } else c
  | none => { Counters.zero with next := numberAfter ring }

/-! ### Power-on -/

/-- The reset cause of R189. -/
def Store.cause (st : Store) : ResetCause := if st.shutdownMark = some true then .afterDisconnect else .powerOn

/-- Every block with its restored records and its own start values, before anything is announced. -/
def State.restored (s : State) : State :=
  let st := s.nvs.store
  let tags := st.tags
  let tracker := st.tracker.getD .default
  let mechanism := st.mechanism.getD .substitute
  let battery := st.battery.getD .default
  let link := st.link.getD .default
  let dark := State.dark st true s.freeIndex s.pending
  { dark with
    lmu :=
      { dark.lmu with
        settings := tracker, period := tracker.nominalPeriod, interval := roundDiv tracker.nominalPeriod 8
        measuredPeriod := tracker.nominalPeriod }
    oeb :=
      { dark.oeb with
        hotActive := tags.any Tag.isHotLine, u1 := st.userCurve1.getD curveD1, u2 := st.userCurve2.getD curveD2 }
    sqc := { dark.sqc with active := st.activeSettings.getD .default }
    mdr := { dark.mdr with latch := mechanism.latch, settings := mechanism.settings }
    au := { dark.au with tags := tags, placements := placementsAfter tags, block := st.authority.getD false }
    bcu :=
      { dark.bcu with
        stored := battery, failing := !battery.prefailing.isEmpty
        vFloatSet := battery.settings.vFloat, vAbsSet := battery.settings.vAbs }
    rpu :=
      { dark.rpu with
        settings := link, radio := .warming warmUp, holdoff := some (holdoffLength link.slot)
        measureTimer := if link.measureInterval = 0 then none else some (link.measureInterval * second) }
    oru := { ring := st.recordRing.getD [], counters := st.restoredCounters }
    ports :=
      { dark.ports with
        cAlerts := ⟨Flag.resetSeen.bit, 0xFFFF⟩, pAlerts := ⟨Flag.resetSeen.bit, 0xFFFF⟩, resetCause := st.cause }
    powered := true }

/-- R187. -/
def State.announceFailed (st : Store) (s : State) : State :=
  if st.failed.isEmpty then s
  else st.failed.foldl (fun s id => s.place id) ((s.alarm .storeFault st.faultPayload).raise .storeFault)

/-- R133: a test cut off by the loss of power. -/
def State.announceLostTest (s : State) : State :=
  if s.bcu.stored.pending then
    let mode := Config.lostTestMode s.freeIndex
    let s : State := { s with freeIndex := s.freeIndex + 1 }
    ((s.withStored fun b => { b with pending := false }).announce
        ⟨s.stamp, mode, .aborted, some .powerLoss, none, none, none, none⟩ none id).withBcu fun b =>
      { b with nextAttempt := some ⟨s.now + powerLossRetry, true⟩ }
  else s

/-- R88, R158: a latch restored as set raises MECH_FAULT and asks for a MECHANISM_FAULT alarm; the poles have not been read yet and stand
INVALID in its payload (log 36). -/
def State.announceLatch (s : State) : State :=
  if s.mdr.latch then (s.raise .mechFault).mechanismAlarm .powerOn none else s

/-- R186 to R189, R158 (START first), and what the blocks announce as they start. The write that clears the mark joins the queue after the
substitute writes of R187 (log 50, DEDUCED); the restored latch is announced next, and the lost test last, with its write of BATTERY and its
event (log 59, DESIGN CHOICE). -/
def State.start (s : State) : State :=
  let st := s.nvs.store
  let s := (s.restored.event .start [st.cause.code]).announceFailed st
  let s := if st.shutdownMark = some true then s.place .shutdownMark else s
  s.announceLatch.announceLostTest

/-- POWER_ON, with the pole contacts where they are read at once (R65, R63). A part still powered loses power first. -/
def State.powerOn (contacts : Option Contacts) (s : State) : State :=
  let s := (if s.powered then s.powerLoss else s).start
  match contacts with
  | some c => s.contactsRead c
  | none => s

/-! ### The store and the shutdown (R185, R188, R119 steps 4 and 5) -/

/-- A write is over: the next entry is taken, and a shutdown that waits for it goes on. With the mark written or given up the
contactor opens, and power is lost. The write of an entry placed after the discard has begun by then, so power loss cuts it off
(log 55, DESIGN CHOICE). -/
def State.writeOver (content : Content) (s : State) : State :=
  let s : State := { s with nvs := ({ s.nvs with writing := none } : Nvs).kick }
  if s.bcu.shutdown = .mark && content = .shutdownMark true then
    (s.withBcu fun b => { b with contactorClosed := false }).powerLoss
  else s.drainStore

/-- What a given-up write leaves in storage: the old record, or one that fails its check (R185, log 9). After the write that sets the mark the
next power-on finds the mark failing or clear (R188), so an old mark that is still set does not stay. -/
def Store.giveUp (holdsOld : Bool) (c : Content) (st : Store) : Store :=
  if holdsOld && !(c == .shutdownMark true && st.shutdownMark == some true) then st else st.tear c

/-- R185: the read-back of the write in progress. -/
def State.writeComplete (readBack : ReadBack) (s : State) : State :=
  match s.nvs.writing with
  | none => s
  | some w => match readBack with
    | .passes => State.writeOver w.content { s with nvs := { s.nvs with store := s.nvs.store.put w.content } }
    | .fails holdsOld =>
      if !w.second then { s with nvs := { s.nvs with writing := some { w with second := true } } }
      else
        let s : State := { s with nvs := { s.nvs with store := s.nvs.store.giveUp holdsOld w.content } }
        ((s.alarm .storeFault [0x02, w.content.id.code]).raise .storeFault).writeOver w.content

end Sys2Proof.Machine
end

