-- ==== Sys2Proof/Machine/Operands.lean ====
section
/-! DEFINITION. How a command is taken: the supply, the arrival and permission of a request (R155, R173, R176), its answer (R174), and the checks and readings of request fields (Tables 2-4, 3-1, 6-7, 7-6, R13, R87). -/

namespace Sys2Proof.Machine

/-! ### Taking a command -/

/-- A command's effect, made only with the supply present (log 10); then the RPU re-judges radio power and the channel wait. -/
def act (f : State → State) (s : State) : Host.Outcome State Fault Refusal :=
  .next (if s.powered then (f s).rejudge else s)

/-! ### Taking a request -/

/-- What an owner does with a request: the state after it, and the answer, if one is made at once. -/
structure Taken where
  state : State
  reply : Option (Code × List Byte)

/-- Answered with a code and an empty body. -/
def Taken.code (c : Code) (s : State) : Taken := ⟨s, some (c, [])⟩

/-- Answered DONE with a body. -/
def Taken.done (body : List Byte) (s : State) : Taken := ⟨s, some (.done, body)⟩

/-- Refused INVALID, naming the field by its number (R190). -/
def Taken.invalid (field : Nat) (s : State) : Taken := ⟨s, some (.invalid, be 1 field)⟩

/-- Where and how a frame with a good check arrives (R155, R181, R152, R145). -/
inductive Arrival where
  | lost
  | from (port : Port)
  | group
  deriving DecidableEq, Repr

/-- A frame on the radio channel is lost while the radio supply is off or transmit-enable is asserted. -/
def Rpu.hears (r : Rpu) : Bool := r.supplied && r.tx.isNone

def State.arrival (src : Source) (s : State) : Arrival :=
  match src with
  | .c => if s.ports.resetIn then .lost else .from .c
  | .p => if s.ports.resetIn then .lost else .from .p
  | .l station =>
    if !s.rpu.hears then .lost
    else match s.rpu.settings.judge station with
      | .exact => .from .l
      | .group => .group
      | .other => .lost

/-- A transaction on the C-port that RESET_IN turns away shifts out the empty indication (R181, R193); no other lost frame leaves a trace. -/
def State.turnedAway (src : Source) (s : State) : State :=
  match src with
  | .c => { s with ports := { s.ports with miso := .empty } }
  | .p | .l _ => s

/-- The reference an attended hold of the port carries (R176). -/
def Ports.hold (port : Port) (p : Ports) : Option Byte :=
  match port with
  | .c => p.cHold
  | .p => p.pHold
  | .l => none

/-- R173: the attended hold, the fixed permission, then the owner. -/
def State.judgeRequest (kind : RequestKind) (port : Port) (owner : Port → State → Taken) (s : State) : Taken :=
  if (s.ports.hold port).isSome && !kind.passesHold then .code .busy s
  else if !kind.permitted port then .code .notPermitted s
  else owner port s

/-- Kinds that a group request does not carry (R156). -/
def RequestKind.discardedInGroup : RequestKind → Bool
  | .selectClose | .operateClose => true
  | _ => false

/-- A request frame that passes R172: it is taken by its owner and answered, except that a group request has no answer. -/
def respond (kind : RequestKind) (src : Source) (ref : Byte) (owner : Port → State → Taken) (s : State) : State :=
  match s.arrival src with
  | .lost => s.turnedAway src
  | .from port =>
    let t := s.judgeRequest kind port owner
    match t.reply with
    | some (code, body) => t.state.answer port ⟨kind.code, ref, code, body⟩
    | none => t.state
  | .group => if kind.discardedInGroup then s else (s.judgeRequest kind .l owner).state

/-! ### Field checks -/

/-- The number of the first check that fails, counting from `n`. -/
def firstBad : (n : Nat) → List Bool → Option Nat
  | _, [] => none
  | n, ok :: rest => if ok then firstBad (n + 1) rest else some n

/-- The first bad field of a record carried as numbers; 0 when the body as a whole does not fit. -/
def badField (count : Nat) (checks : (Nat → Nat) → List Bool) (fields : List Nat) : Option Nat :=
  if fields.length = count then firstBad 1 (checks fun k => fields.getD (k - 1) 0) else some 0

/-- Table 3-1; `f k` is field k. -/
def settingsChecks (f : Nat → Nat) : List Bool :=
  let choice (k : Nat) : List Bool := [within 1 6 (f k), within 5 1000 (f (k + 1)), within 0 2000 (f (k + 2))]
  let instant (k : Nat) : List Bool :=
    [f k == 0 || within 200 20000 (f k), within 1 4 (f (k + 1)), within 0 15 (f (k + 2))]
  let interval (k : Nat) : Bool := within 300 180000 (f k)
  [within 10 2000 (f 1), within 5 1000 (f 2)] ++ choice 3 ++ choice 6 ++ choice 9 ++ choice 12
    ++ [within 1 4 (f 15), within 0 (f 15) (f 16), interval 17, interval 18, interval 19, within 5000 180000 (f 20),
        within 1 2 (f 21), within 100 60000 (f 22)]
    ++ instant 23 ++ instant 26
    ++ [within 1 2 (f 29), within 10 2000 (f 30), within 5 1000 (f 31), within 0 500 (f 32), within 5000 120000 (f 33)]

/-- R87. -/
def mechanismChecks (f : Nat → Nat) : List Bool :=
  [within 1000 20000 (f 1), within 150000 250000 (f 2), within 5000 100000 (f 3), within 10000 200000 (f 4)]

/-- Table 6-7. -/
def batteryChecks (f : Nat → Nat) : List Bool :=
  [within 500 5000 (f 1), within 100 1000 (f 2), within 26000 28000 (f 3), within 27000 29600 (f 4) && f 3 ≤ f 4,
   within 0 30 (f 5), within 21000 25000 (f 6), within 5 200 (f 7)] ++ (List.range 8).map fun k => within 0 253 (f (8 + k))

/-- Table 7-6. -/
def linkChecks (f : Nat → Nat) : List Bool :=
  [within 0 0xFFFE (f 1), within 0 0xFFFF (f 2), within 0 15 (f 3), within 1000 10000 (f 4), within 1 8 (f 5), within 1000 60000 (f 6),
   within 8 160 (f 7), within 10 600 (f 8), f 9 == 0 || within 60 3600 (f 9), within 2 60 (f 10), within 0 30 (f 11)]

/-- A curve's points in the order of the request: M_1, T_1, M_2, … (R36). `m` and `t` are the pair before. -/
def pointChecks : (m t : Nat) → List (Nat × Nat) → List Bool
  | _, _, [] => []
  | m, t, (m', t') :: rest => (m < m') :: (within 10 600000 t' && t' ≤ t) :: pointChecks m' t' rest

/-- R36: the identity, then the points; M_1 is at least 101. -/
def curveBad (curve : Nat) (points : List (Nat × Nat)) : Option Nat :=
  if points.length = 8 then firstBad 1 (within 5 6 curve :: pointChecks 100 600000 points) else some 0

/-- R13, for a source list of any length. A frame that carries none or more than four has a body length the kind does not allow (log 49). -/
def trackerBad (sources : List Nat) (freq volts squelch : Nat) : Option Nat :=
  firstBad 1
    [within 1 4 sources.length && sources.Nodup && sources.all (within 1 6), freq == 5000 || freq == 6000,
     within 1000 20000 volts, within 10 50 squelch]

/-! ### Fields as records -/

def curveOf (n : Nat) : Curve :=
  match n with
  | 1 => .f1 | 2 => .d1 | 3 => .d2 | 4 => .d3 | 5 => .u1 | _ => .u2

def channelOf (n : Nat) : Channel :=
  match n with
  | 1 => .vaS | 2 => .vbS | 3 => .vcS | 4 => .vaL | 5 => .vbL | _ => .vcL

def settingsOf (fields : List Nat) : Settings :=
  let f (k : Nat) : Nat := fields.getD (k - 1) 0
  let choice (k : Nat) : CurveChoice := ⟨curveOf (f k), f (k + 1), f (k + 2)⟩
  let instant (k : Nat) : InstantSettings := ⟨f k, f (k + 1), BitVec.ofNat 4 (f (k + 2))⟩
  { phasePickup := f 1, groundPickup := f 2
    phaseFast := choice 3, phaseDelayed := choice 6, groundFast := choice 9, groundDelayed := choice 12
    trips := f 15, fast := f 16, interval1 := f 17, interval2 := f 18, interval3 := f 19, reclaim := f 20
    resetMode := if f 21 = 1 then .instant else .timed, resetTime := f 22
    ip := instant 23, igi := instant 26
    coordination := f 29 == 1, hotPhasePickup := f 30, hotGroundPickup := f 31, hotTime := f 32, energyWait := f 33 }

def mechanismOf (fields : List Nat) : MechanismSettings :=
  ⟨fields.getD 0 0, fields.getD 1 0, fields.getD 2 0, fields.getD 3 0⟩

def batteryOf (fields : List Nat) : BatterySettings where
  bulk := fields.getD 0 0
  taper := fields.getD 1 0
  vFloat := fields.getD 2 0
  vAbs := fields.getD 3 0
  interval := fields.getD 4 0
  floor := fields.getD 5 0
  rated := fields.getD 6 0
  thresholds := fields.drop 7

def linkOf (fields : List Nat) : LinkSettings where
  address := BitVec.ofNat 16 (fields.getD 0 0)
  mask := BitVec.ofNat 16 (fields.getD 1 0)
  slot := fields.getD 2 0
  ackTimeout := fields.getD 3 0
  maxAttempts := fields.getD 4 0
  retryBase := fields.getD 5 0
  warnLevel := fields.getD 6 0
  probeInterval := fields.getD 7 0
  measureInterval := fields.getD 8 0
  selectTimeout := fields.getD 9 0
  panelDelay := fields.getD 10 0

end Sys2Proof.Machine
end

