-- ==== Sys2Proof/Machine/BatteryEvents.lean ====
section
/-! DEFINITION. The meanings of the battery events (06). -/

namespace Sys2Proof.Machine

/-- The AC supply sense input (R113). -/
def acSense : Contact Bool where
  time := 2 * second
  stand s := s.bcu.acStand
  keep x s := s.withBcu fun b => { b with acStand := x }
  inForce s := if s.bcu.acQualified then some s.bcu.acPresent else none
  take := State.acReading

/-- AC_STATE_CHANGE (R113). -/
def execAcStateChange (present : Bool) : State → Host.Outcome State Fault Refusal :=
  act (acSense.hear present)

/-- BATTERY_MEASUREMENT (R112). -/
def execBatteryMeasurement (millivolts : Nat) (milliamps temperature : Int) : State → Host.Outcome State Fault Refusal :=
  act fun s => (s.reach (s.bcu.lastMeasurement + batteryPeriod)).measureBattery millivolts milliamps temperature

/-- ABSORB_TIMEOUT (R116). -/
def execAbsorbTimeout : State → Host.Outcome State Fault Refusal :=
  act fun s => match s.bcu.charger with
    | .absorb since =>
      let s := s.reach (since + absorbTime)
      s.withBcu fun b => { b with charger := .float s.now none }
    | _ => s

/-- FLOAT_DROP_EXPIRY (R116). -/
def execFloatDropExpiry : State → Host.Outcome State Fault Refusal :=
  act fun s => match s.bcu.charger with
    | .float _ (some start) => (s.reach (start + floatDropTime)).withBcu Bcu.toBulk
    | _ => s

/-- DISCONNECT_TIMER_EXPIRY (R117, R119). -/
def execDisconnectTimerExpiry : State → Host.Outcome State Fault Refusal :=
  act fun s => match s.bcu.disconnectSince with
    | some start => (s.reach (start + disconnectTime)).setTier .disconnect
    | none => s

/-- The RPU gives the transmission up when no frame has started; either way the BCU waits no longer (R119 step 2, R154 step 4). -/
def State.radioGivenUp (s : State) : State :=
  match s.bcu.shutdown with
  | .radio d =>
    let s := s.reach d
    ({ s with rpu := { s.rpu with
        lastCall := if s.rpu.lastCall = .waiting then .over else s.rpu.lastCall } } : State).radioDone
  | _ => s

/-- SHUTDOWN_RADIO_TIMEOUT (R154, R119). -/
def execShutdownRadioTimeout : State → Host.Outcome State Fault Refusal := act State.radioGivenUp

/-- SHUTDOWN_STORE_TIMEOUT (R119). -/
def execShutdownStoreTimeout : State → Host.Outcome State Fault Refusal :=
  act fun s => match s.bcu.shutdown with
    | .store d => (s.reach d).writeMark
    | _ => s

/-- DAY_INCREASE (R121). -/
def execDayIncrease : State → Host.Outcome State Fault Refusal := act fun s => (s.reach s.bcu.nextDay).dayPassed

/-- SCHEDULED_TEST_ATTEMPT (R121). -/
def execScheduledTestAttempt : State → Host.Outcome State Fault Refusal :=
  act fun s => match s.bcu.nextAttempt with
    | some a => (s.reach a.time).attempt a.retry
    | none => s

/-- REST_TIMER_EXPIRY with the voltage read (R122). -/
def execRestTimerExpiry (millivolts : Nat) : State → Host.Outcome State Fault Refusal :=
  act fun s => match s.bcu.test.map TestRun.phase with
    | some (.rest d) => (s.reach d).endRest millivolts
    | _ => s

/-- LOAD_TIMER_EXPIRY with the voltage and the current read (R122, R123). -/
def execLoadTimerExpiry (millivolts : Nat) (milliamps : Int) : State → Host.Outcome State Fault Refusal :=
  act fun s => match s.bcu.test.map TestRun.phase with
    | some (.load d) => (s.reach d).endLoad millivolts milliamps
    | _ => s

/-- SUSPENSION_TIMER_EXPIRY (R124). -/
def execSuspensionTimerExpiry : State → Host.Outcome State Fault Refusal :=
  act fun s => match s.bcu.test.map TestRun.phase with
    | some (.suspended d) => (s.reach d).abortTest .suspensionTimeout
    | _ => s

/-- FLOAT_WINDOW_COMPLETE (R128). -/
def execFloatWindowComplete : State → Host.Outcome State Fault Refusal :=
  act fun s => if floatWindow ≤ s.bcu.floatCount then s.closeFloatWindow else s

/-- HOT_HOUR_COMPLETE (R128). -/
def execHotHourComplete : State → Host.Outcome State Fault Refusal :=
  act fun s => if hotHour ≤ s.bcu.hotCount then s.closeHotHour else s

end Sys2Proof.Machine
end

