-- ==== Sys2Proof/Machine/Requests.lean ====
section
/-! DEFINITION. The meanings of the 27 requests of Table 9-1. -/

namespace Sys2Proof.Machine

/-! ### Status and alerts (09) -/

/-- The items of Table 9-4 for every port. -/
def State.statusCommon (s : State) : List Byte :=
  let q := s.sqc.sequence
  let opt (b : Option Byte) : List Byte := encOpt (fun x => [x]) b
  [q.code] ++ opt q.substate ++ be 1 s.sqc.shot ++ opt (q.cause.map LockoutCause.code)
    ++ s.mdr.poles.enc ++ encFlag s.mdr.latch ++ be 4 s.mdr.estimate ++ encFlag s.mdr.rechargeSince.isSome
    ++ [s.bcu.tier.code, s.bcu.charger.code, acCode s.bcu.acPresent]
    ++ be 1 s.au.tags.length
    ++ [controlModeCode s.au.mode, onOffCode s.au.block, supervisorCode s.au.supervisorHeld, handleCode s.au.handlePulled]

/-- The rest of the items for every port, after the panel close record. -/
def State.statusLink (s : State) : List Byte :=
  let r := s.rpu
  [r.standing.code] ++ be 1 r.score ++ be 1 (48 - r.used.length) ++ be 1 r.qAlarm.length ++ be 1 r.qEvent.length
    ++ be 1 r.qMeasure.length ++ be 1 r.inFlight.toList.length ++ be 1 r.held.length
    ++ [s.lmu.tracker.code, s.ports.resetCause.code] ++ s.stamp.enc

/-- A port's alert set: the sticky set and the mask set, and then one byte for each live status in the order of Table 9-3; a flag without a
live status has no byte (R180, R191; log 47, DESIGN CHOICE). -/
def State.statusAlerts (a : AlertSet) (s : State) : List Byte :=
  be 2 a.sticky.toNat ++ be 2 a.mask.toNat ++ Flag.withLive.flatMap fun f => encFlag (s.live f)

/-- The answer body of STATUS READ on a port; items for other ports are left out (R191). -/
def State.statusBody (port : Port) (s : State) : List Byte :=
  match port with
  | .c => s.statusCommon ++ s.statusLink ++ s.statusAlerts s.ports.cAlerts
  | .p => s.statusCommon ++ s.au.panel.enc (fun t => s.stampAt t) ++ s.statusLink ++ s.statusAlerts s.ports.pAlerts
  | .l => s.statusCommon ++ s.statusLink

/-- STATUS READ (R180). -/
def execStatusRead (src : Source) (ref : Byte) : State → Host.Outcome State Fault Refusal :=
  act (respond .statusRead src ref fun port s => .done (s.statusBody port) s)

/-- R179 on one set. -/
def AlertSet.clear (flags : Word16) (mask : Option Word16) (a : AlertSet) : AlertSet :=
  ⟨a.sticky &&& ~~~flags, mask.getD a.mask⟩

def AlertSet.enc (a : AlertSet) : List Byte := be 2 a.sticky.toNat ++ be 2 a.mask.toNat

/-- CLEAR ALERTS (R179). -/
def execClearAlerts (src : Source) (ref : Byte) (flags : Word16) (mask : Option Word16) :
    State → Host.Outcome State Fault Refusal :=
  act (respond .clearAlerts src ref fun port s =>
    if port = .p then
      let set := s.ports.pAlerts.clear flags mask
      .done set.enc { s with ports := { s.ports with pAlerts := set } }
    else
      let set := s.ports.cAlerts.clear flags mask
      .done set.enc { s with ports := { s.ports with cAlerts := set } })

/-! ### Switching (05) -/

/-- TRIP (R109). -/
def execTrip (src : Source) (ref : Byte) : State → Host.Outcome State Fault Refusal :=
  act (respond .trip src ref fun port s => .code .accepted (s.requestTrip (portOrigin port)))

/-- R107: the panel close delay is over, and a close of origin P is placed. -/
def State.placePanelClose (s : State) : State :=
  let asked := s.requestClose .p
  asked.1.withAu fun a =>
    { a with panel := if asked.2.isEmpty then .fired else .refused (refusalCode asked.2) }

/-- R106, checks 1 to 4. -/
def Au.closeRefusal (a : Au) : Option Code :=
  if a.mode = .remoteMode then some .mode
  else if !a.tags.isEmpty then some .tag
  else if a.handlePulled then some .handleLock
  else match a.panel with
    | .running _ => some .busy
    | _ => none

/-- CLOSE (R106). With a delay of 0 the answer is made first and the delay is over at once. -/
def execClose (src : Source) (ref : Byte) : State → Host.Outcome State Fault Refusal :=
  act (respond .close src ref fun port s =>
    match s.au.closeRefusal with
    | some c => .code c s
    | none =>
      let delay := s.rpu.settings.panelDelay
      let s := s.withAu fun a => { a with panel := .running (s.now + delay * second) }
      if delay = 0 then
        ⟨(s.answer port ⟨RequestKind.close.code, ref, .accepted, []⟩).placePanelClose, none⟩
      else .code .accepted s)

/-- R102, checks 1 to 6. -/
def State.selectRefusal (port : Port) (s : State) : Option Code :=
  if s.au.mode = .localMode then some .mode
  else if !s.au.tags.isEmpty then some .tag
  else if s.au.handlePulled then some .handleLock
  else if s.mdr.latch then some .mechFault
  else if !(match s.sqc.sequence with
      | .opened | .lockout _ => true
      | _ => false) then some .busy
  else if s.au.selection.any fun x => x.owner != port then some .selectedElsewhere
  else none

/-- SELECT CLOSE (R102). -/
def execSelectClose (src : Source) (ref : Byte) : State → Host.Outcome State Fault Refusal :=
  act (respond .selectClose src ref fun port s =>
    match s.selectRefusal port with
    | some c => .code c s
    | none =>
      let expiry := s.now + s.rpu.settings.selectTimeout * second
      .done (s.stampAt expiry).enc
        (s.withAu fun a => { a with selection := some ⟨port, ref, s.now, expiry⟩ }))

/-- The selection an OPERATE CLOSE from the port with the reference finds valid (R103). -/
def Au.selectedBy (port : Port) (ref : Byte) (a : Au) : Bool :=
  a.selection.any fun x => x.owner == port && x.ref == ref

/-- OPERATE CLOSE (R103). -/
def execOperateClose (src : Source) (ref selectRef : Byte) : State → Host.Outcome State Fault Refusal :=
  act (respond .operateClose src ref fun port s =>
    if s.au.selectedBy port selectRef then
      let asked := s.clearSelection.requestClose (portOrigin port)
      .code (refusalCode asked.2) asked.1
    else .code .notSelected s)

/-- CANCEL (R104). -/
def execCancel (src : Source) (ref : Byte) : State → Host.Outcome State Fault Refusal :=
  act (respond .cancel src ref fun port s =>
    if port = .p then
      match s.au.panel with
      | .running _ => .code .done (s.cancelPanel .cancel)
      | _ => .code .empty s
    else
      match s.au.selection with
      | some x => if x.owner = port then .code .done s.clearSelection else .code .selectedElsewhere s
      | none => .code .empty s)

/-! ### Tags and reclose block (05) -/

/-- A printable character (R92). -/
def printable (b : Byte) : Bool := within 0x20 0x7E b.toNat

/-- R92 step 1, for a note of any length. A frame that carries more than 24 bytes has a body length the kind does not allow (log 49). -/
def tagBad (kind crew : Nat) (note : List Byte) : Option Nat :=
  firstBad 1 [within 1 2 kind, crew != 0, within 0 24 note.length && note.all printable]

def tagKindOf (n : Nat) : TagKind := if n = 1 then .hotLine else .doNotClose

/-- R93. -/
def State.placeTag (slot : Nat) (kind : TagKind) (origin : Port) (crew : Nat) (note : List Byte) (s : State) : State :=
  let s := s.withAu fun a => a.addTag slot kind origin crew s.stamp note
  (((((s.dropCloses .tag).tagToMechanism).tagToSequence).tagsToOeb).place (.tagSlot slot)).announceTags

/-- TAG PLACE (R92, R93). -/
def execTagPlace (src : Source) (ref : Byte) (kind crew : Nat) (note : List Byte) :
    State → Host.Outcome State Fault Refusal :=
  act (respond .tagPlace src ref fun port s =>
    match tagBad kind crew note with
    | some n => .invalid n s
    | none =>
      if s.au.tags.any fun t => t.crew == crew && t.kind == tagKindOf kind then .code .duplicate s
      else match s.au.freeSlot with
        | some slot => .done (be 1 slot) (s.placeTag slot (tagKindOf kind) port crew note)
        | none => .code .full s)

/-- R96. -/
def State.removeTag (slot : Nat) (s : State) : State :=
  let s := s.withAu fun a => { a with tags := a.tags.filter fun t => t.slot != slot }
  ((s.tagsToOeb).place (.tagSlot slot)).announceTags

/-- Step 4 of R95: the crew number matches the entry's, or the override of the P-port with the SUPERVISOR key HELD applies. Only the
override removes a fail-safe entry, of crew 0 (log 53, DEDUCED). -/
def State.crewMayRemove (port : Port) (crew : Nat) (t : Tag) (s : State) : Bool :=
  (t.crew == crew && t.crew != 0) || (port == .p && s.au.supervisorHeld)

/-- TAG REMOVE (R95, R96). -/
def execTagRemove (src : Source) (ref : Byte) (slot crew : Nat) : State → Host.Outcome State Fault Refusal :=
  act (respond .tagRemove src ref fun port s =>
    if 8 ≤ slot then .invalid 1 s
    else match s.au.tags.find? fun t => t.slot == slot with
      | none => .code .empty s
      | some t =>
        if !mayRemove port t.origin then .code .authority s
        else if !s.crewMayRemove port crew t then .code .authority s
        else .code .done (s.removeTag slot))

/-- TAG LIST (R97). -/
def execTagList (src : Source) (ref : Byte) : State → Host.Outcome State Fault Refusal :=
  act (respond .tagList src ref fun _ s => .done (encList Tag.enc s.au.tags) s)

/-- RECLOSE BLOCK (R98). -/
def execRecloseBlock (src : Source) (ref : Byte) (value : Nat) : State → Host.Outcome State Fault Refusal :=
  act (respond .recloseBlock src ref fun port s =>
    if (port == .l && s.au.mode == .localMode) || (port == .p && s.au.mode == .remoteMode) then .code .mode s
    else if !within 1 2 value then .invalid 1 s
    else if s.au.block = (value == 1) then .code .done s
    else .code .done ((s.withAu fun a => { a with block := value == 1 }).place .authority))

/-! ### Protection settings and curves (02, 03) -/

/-- SETTINGS WRITE (R41); the body says STAGED, 1, or ACTIVE, 2, in the order R41 names them (log 20). -/
def execSettingsWrite (src : Source) (ref : Byte) (fields : List Nat) : State → Host.Outcome State Fault Refusal :=
  act (respond .settingsWrite src ref fun port s =>
    if port = .l && s.au.mode = .localMode then .code .mode s
    else match badField 33 settingsChecks fields with
      | some n => .invalid n s
      | none =>
        let s := State.activationTest { s with sqc := { s.sqc with staged := some (settingsOf fields) } }
        .done (if s.sqc.staged.isSome then [1] else [2]) s)

/-- SETTINGS READ (R44): 1 names ACTIVE and 2 STAGED, in the order R44 names them (log 20). -/
def execSettingsRead (src : Source) (ref : Byte) (which : Nat) : State → Host.Outcome State Fault Refusal :=
  act (respond .settingsRead src ref fun _ s =>
    if which = 1 then .done s.sqc.active.enc s
    else if which = 2 then
      match s.sqc.staged with
      | some r => .done r.enc s
      | none => .code .empty s
    else .invalid 1 s)

/-- CURVE LOAD (R36, R37). -/
def execCurveLoad (src : Source) (ref : Byte) (curve : Nat) (points : List (Nat × Nat)) :
    State → Host.Outcome State Fault Refusal :=
  act (respond .curveLoad src ref fun _ s =>
    match curveBad curve points with
    | some n => .invalid n s
    | none =>
      if curve = 5 then .code .done (State.place .userCurve1 { s with oeb := { s.oeb with u1 := points } })
      else .code .done (State.place .userCurve2 { s with oeb := { s.oeb with u2 := points } }))

/-! ### Mechanism (04) -/

/-- MECHANISM SETTINGS (R87). -/
def execMechanismSettings (src : Source) (ref : Byte) (fields : List Nat) : State → Host.Outcome State Fault Refusal :=
  act (respond .mechanismSettings src ref fun _ s =>
    match badField 4 mechanismChecks fields with
    | some n => .invalid n s
    | none => .code .done ((s.withMdr fun m => { m with settings := mechanismOf fields }).place .mechanism))

/-- MECHANISM FAULT RESET (R82): the watches start afresh from the moment of clearing. -/
def execMechanismFaultReset (src : Source) (ref : Byte) : State → Host.Outcome State Fault Refusal :=
  act (respond .mechanismFaultReset src ref fun _ s =>
    if !s.au.supervisorHeld then .code .authority s
    else if s.mdr.latch then
      let s := (s.withMdr fun m => { m with latch := false }).place .mechanism
      .code .done (if s.sqc.reported then s.withMdr (·.watch s.now) else s)
    else .code .done s)

/-! ### Battery (06) -/

/-- BATTERY SETTINGS (R131): the verdict and the schedule judge the new record at once. -/
def execBatterySettings (src : Source) (ref : Byte) (fields : List Nat) : State → Host.Outcome State Fault Refusal :=
  act (respond .batterySettings src ref fun _ s =>
    match badField 15 batteryChecks fields with
    | some n => .invalid n s
    | none =>
      let s := ((s.withStored fun b => { b with settings := batteryOf fields }).place .battery).judgeVerdict
      .code .done
        (if s.bcu.stored.settings.interval = 0 then
          s.withBcu fun b => { b with nextAttempt := b.nextAttempt.filter fun a => a.retry }
        else if s.bcu.scheduleDue then s.attempt false
        else s))

/-- The answer of a refused BATTERY TEST (Table 6-5). -/
def Taken.precondition (p : Precondition) (s : State) : Taken :=
  if p = .busy then .code .busy s else ⟨s, some (.conditions, [p.code])⟩

/-- The hold of the requesting port begins, carrying the request's reference (R176). -/
def State.beginHold (port : Port) (ref : Byte) (s : State) : State :=
  match port with
  | .c => { s with ports := { s.ports with cHold := some ref } }
  | .p => { s with ports := { s.ports with pHold := some ref } }
  | .l => s

/-- BATTERY TEST (R120): 1 is ATTENDED, whose answer is withheld, and 2 BACKGROUND. -/
def execBatteryTest (src : Source) (ref : Byte) (mode : Nat) : State → Host.Outcome State Fault Refusal :=
  act (respond .batteryTest src ref fun port s =>
    if mode = 1 && port = .l then .code .notPermitted s
    else if !within 1 2 mode then .invalid 1 s
    else match s.precondition with
      | some p => .precondition p s
      | none =>
        if mode = 1 then ⟨(s.startTest .attended (some port)).beginHold port ref, none⟩
        else .code .accepted (s.startTest .background none))

/-- ABORT TEST (R125); under an attended hold the withheld answer comes first (R126). -/
def execAbortTest (src : Source) (ref : Byte) : State → Host.Outcome State Fault Refusal :=
  act (respond .abortTest src ref fun _ s =>
    if s.bcu.test.isSome then .code .done (s.abortTest .request) else .code .empty s)

/-- R130. The schedule counts days from 0, so the first test comes one whole test interval later. -/
def State.replaceBattery (s : State) : State :=
  let s := s.withBcu fun b =>
    { b.restartDays s.now with
      stored :=
        { b.stored with attributes := .fresh, history := [], fails := 0, deep := 0, hot := 0, days := 0 }
      floatSum := 0, floatCount := 0, hotCount := 0, nextAttempt := none }
  s.judgeVerdict.place .battery

/-- BATTERY REPLACED (R130). -/
def execBatteryReplaced (src : Source) (ref : Byte) : State → Host.Outcome State Fault Refusal :=
  act (respond .batteryReplaced src ref fun port s =>
    if port = .p && !s.au.supervisorHeld then .code .authority s
    else if s.bcu.test.isSome then .code .busy s
    else .code .done s.replaceBattery)

/-- One attribute of a READ ATTRIBUTES answer: id, class (1 PREFAIL, 2 ADVISORY), raw, normalized, worst, threshold. -/
def BatteryRecord.attributeEnc (id : Nat) (a : HealthAttribute) (b : BatteryRecord) : List Byte :=
  be 1 id ++ [if id ≤ 3 then 1 else 2] ++ a.enc id ++ be 1 (b.settings.thresholds.getD (id - 1) 0)

def BatteryRecord.attributesEnc (b : BatteryRecord) : List Byte :=
  let a := b.attributes
  b.attributeEnc 1 a.resistance ++ b.attributeEnc 2 a.loadMargin ++ b.attributeEnc 3 a.failures
    ++ b.attributeEnc 4 a.floatCurrent ++ b.attributeEnc 5 a.deepDischarges ++ b.attributeEnc 6 a.days
    ++ b.attributeEnc 7 a.hotHours ++ b.attributeEnc 8 a.rechargeTime

/-- READ ATTRIBUTES (R132). -/
def execReadAttributes (src : Source) (ref : Byte) : State → Host.Outcome State Fault Refusal :=
  act (respond .readAttributes src ref fun _ s =>
    .done (verdictCode s.bcu.failing :: s.bcu.stored.attributesEnc) s)

/-- The answer of READ TEST HISTORY (R132). With no test running its mode and its suspension count are two absent optional fields, each
with its presence byte (log 62, DEDUCED). -/
def State.historyBody (s : State) : List Byte :=
  let b := s.bcu
  [testStateCode b.test] ++ encOpt (fun r => [TestMode.code (TestRun.mode r)]) b.test
    ++ encOpt (fun r => be 1 (TestRun.suspensions r)) b.test ++ be 2 b.stored.days
    ++ encOpt (fun a => (s.stampAt (Attempt.time a)).enc) b.nextAttempt
    ++ encOpt (fun p => [Precondition.code p]) b.lastReason ++ encList TestEntry.enc b.stored.history

/-- READ TEST HISTORY (R132). -/
def execReadTestHistory (src : Source) (ref : Byte) : State → Host.Outcome State Fault Refusal :=
  act (respond .readTestHistory src ref fun _ s => .done s.historyBody s)

/-! ### Records, counters, time (08) -/

/-- What both answers to READ RECORD carry: oldest, newest, next (R162). -/
def Oru.bounds (o : Oru) : List Byte :=
  encOpt (fun r => be 2 (OpRecord.number r)) o.ring.head? ++ encOpt (fun r => be 2 (OpRecord.number r)) o.ring.getLast?
    ++ be 2 o.counters.next

/-- READ RECORD (R162). -/
def execReadRecord (src : Source) (ref : Byte) (number : Nat) : State → Host.Outcome State Fault Refusal :=
  act (respond .readRecord src ref fun _ s =>
    match s.oru.ring.find? fun r => r.number == number with
    | some r => .done (r.enc ++ s.oru.bounds) s
    | none => ⟨s, some (.gone, s.oru.bounds)⟩)

/-- R166: a pole not above the new limit has its mark cleared. -/
def Counters.relimit (limit : Nat) (c : Counters) : Counters :=
  let above (wear : Nat) : Bool := limit != 0 && limit < wear
  { c with
    limit := limit
    marks := ⟨c.marks.a && above c.wear.a, c.marks.b && above c.wear.b, c.marks.c && above c.wear.c⟩ }

/-- R166: a new limit is taken and every pole re-judged. -/
def State.setWearLimit (limit : Nat) (s : State) : State :=
  (State.judgeWear { s with oru := { s.oru with counters := s.oru.counters.relimit limit } }).place .counters

/-- READ COUNTERS (R166). -/
def execReadCounters (src : Source) (ref : Byte) (limit : Option Nat) : State → Host.Outcome State Fault Refusal :=
  act (respond .readCounters src ref fun port s =>
    match limit with
    | none => .done s.oru.counters.enc s
    | some n =>
      if port != .c then .code .notPermitted s
      else if 4000000000 < n then .invalid 1 s
      else
        let s := s.setWearLimit n
        .done s.oru.counters.enc s)

/-- TIME SET (R168). -/
def execTimeSet (src : Source) (ref : Byte) (seconds millis : Nat) : State → Host.Outcome State Fault Refusal :=
  act (respond .timeSet src ref fun _ s =>
    if 999 < millis then .invalid 2 s
    else .code .done { s with clock :=
      { s.clock with seconds := BitVec.ofNat 32 seconds, millis := millis, unset := false } })

/-! ### Tracker and link settings (01, 07) -/

/-- R14: the new settings act on the tracker. -/
def State.newSources (t : TrackerSettings) (s : State) : State :=
  let period := if s.lmu.tracker = .nominal then t.nominalPeriod else s.lmu.period
  (State.keepLock { s with lmu := { s.lmu.replaceSettings t with period := period } }).tryLock

/-- TRACKER SOURCES (R13, R14). -/
def execTrackerSources (src : Source) (ref : Byte) (sources : List Nat) (nominalFreq nominalVolts squelch : Nat) :
    State → Host.Outcome State Fault Refusal :=
  act (respond .trackerSources src ref fun _ s =>
    match trackerBad sources nominalFreq nominalVolts squelch with
    | some n => .invalid n s
    | none =>
      .code .done ((s.newSources ⟨sources.map channelOf, nominalFreq, nominalVolts, squelch⟩).place .tracker))

/-- R157: what a new link settings record does at once. -/
def State.newLink (l : LinkSettings) (s : State) : State :=
  let timer :=
    if l.measureInterval = s.rpu.settings.measureInterval then s.rpu.measureTimer
    else if l.measureInterval = 0 then none
    else some (s.now + l.measureInterval * second)
  (State.place .link { s with rpu := { s.rpu with settings := l, measureTimer := timer } }).restand

/-- LINK SETTINGS (R157). -/
def execLinkSettings (src : Source) (ref : Byte) (fields : List Nat) : State → Host.Outcome State Fault Refusal :=
  act (respond .linkSettings src ref fun _ s =>
    match badField 11 linkChecks fields with
    | some n => .invalid n s
    | none => .code .done (s.newLink (linkOf fields)))

end Sys2Proof.Machine
end

