-- ==== Sys2Proof/Machine/DoorEvents.lean ====
section
/-! DEFINITION. The meanings of the door and authority events (05). -/

namespace Sys2Proof.Machine

/-- R89: the first stable reading after power-on is taken silently, a later change is announced. A first reading of REMOTE ends a
panel close delay started before it, which never runs in REMOTE (R106, log 15). -/
def State.keyReading (mode : ControlMode) (s : State) : State :=
  if mode = s.au.mode then s.withAu fun a => { a with modeTaken := true }
  else if s.au.modeTaken then s.changeMode mode
  else (s.withAu fun a => { a with mode := mode, modeTaken := true }).dropCloses .mode

/-- The CONTROL key (Table 5-1, R89). -/
def controlKey : Contact ControlMode where
  time := 100 * ms
  stand s := s.au.keyStand
  keep x s := s.withAu fun a => { a with keyStand := x }
  inForce s := if s.au.modeTaken then some s.au.mode else none
  take := State.keyReading

/-- CONTROL_KEY_CHANGE (R89). -/
def execControlKeyChange (reading : ControlMode) : State → Host.Outcome State Fault Refusal :=
  act (controlKey.hear reading)

/-- The SUPERVISOR key (Table 5-1, R90). -/
def supervisorKey : Contact Bool where
  time := 100 * ms
  stand s := s.au.supervisorStand
  keep x s := s.withAu fun a => { a with supervisorStand := x }
  inForce s := some s.au.supervisorHeld
  take held s := s.withAu fun a => { a with supervisorHeld := held }

/-- SUPERVISOR_KEY_CHANGE (R90). -/
def execSupervisorKeyChange (held : Bool) : State → Host.Outcome State Fault Refusal :=
  act (supervisorKey.hear held)

/-- The HANDLE LOCK switch (Table 5-1, R90). -/
def handleLock : Contact Bool where
  time := 20 * ms
  stand s := s.au.handleStand
  keep x s := s.withAu fun a => { a with handleStand := x }
  inForce s := some s.au.handlePulled
  take pulled s := s.withAu fun a => { a with handlePulled := pulled }

/-- HANDLE_LOCK_CHANGE (R90). -/
def execHandleLockChange (pulled : Bool) : State → Host.Outcome State Fault Refusal :=
  act (handleLock.hear pulled)

/-- R110: the debounced state changes from RELEASED to PRESSED or back; a press places a trip request. -/
def State.buttonReading (pressed : Bool) (s : State) : State :=
  let before := s.au.buttonPressed
  let s := s.withAu fun a => { a with buttonPressed := pressed }
  if pressed && !before then s.requestTrip .button else s

/-- The TRIP pushbutton (Table 5-1, R110). -/
def pushbutton : Contact Bool where
  time := 20 * ms
  stand s := s.au.buttonStand
  keep x s := s.withAu fun a => { a with buttonStand := x }
  inForce s := some s.au.buttonPressed
  take := State.buttonReading

/-- TRIP_PUSHBUTTON (R110). -/
def execTripPushbutton : State → Host.Outcome State Fault Refusal :=
  act (pushbutton.hear true)

/-- TRIP_PUSHBUTTON_RELEASE (R110). -/
def execTripPushbuttonRelease : State → Host.Outcome State Fault Refusal :=
  act (pushbutton.hear false)

/-- SELECTION_EXPIRY (R105). -/
def execSelectionExpiry : State → Host.Outcome State Fault Refusal :=
  act fun s => match s.au.selection with
    | some x => (s.reach x.expiry).clearSelection
    | none => s

/-- PANEL_CLOSE_DELAY_EXPIRY (R107). -/
def execPanelCloseDelayExpiry : State → Host.Outcome State Fault Refusal :=
  act fun s => match s.au.panel with
    | .running t => (s.reach t).placePanelClose
    | _ => s

end Sys2Proof.Machine
end

