-- ==== Sys2Proof/Machine/LineEvents.lean ====
section
/-! DEFINITION. The meanings of the line measurement and tracker events (01, 02). -/

namespace Sys2Proof.Machine

/-- The OEB evaluates the update's currents and hands the results to the SQC (R1, R19, R33 to R35). -/
def State.evaluate (dt : Nat) (s : State) : State :=
  let o := s.oeb.update s.sqc.active s.sqc.shot dt s.lmu.currents
  State.takeUpdate o.2 { s with oeb := o.1 }

/-- A measurement update: readings, presence and tracker, then the elements with the Δt of the interval that ends (R1). -/
def State.updateLine (r : Readings) (s : State) : State :=
  let dt := s.lmu.interval
  ((s.reach (s.lmu.lastUpdate + dt)).measureLine r).evaluate dt

/-- MEASUREMENT_UPDATE (R1). -/
def execMeasurementUpdate (r : Readings) : State → Host.Outcome State Fault Refusal := act (·.updateLine r)

/-- R7: a cycle of a channel completes; the tracker is judged at that moment (R8). -/
def State.cycleComplete (c : Channel) (length : Nat) (s : State) : State :=
  let s := s.reach ((s.lmu.channel c).lastCrossing + length)
  let v := ((s.lmu.channel c).complete length s.now).refresh s.now
  ((({ s with lmu := s.lmu.setChannel c v } : State).followSource c).keepLock)

/-- SOURCE_CYCLE_COMPLETE (R7). -/
def execSourceCycleComplete (c : Channel) (length : Nat) : State → Host.Outcome State Fault Refusal :=
  act (·.cycleComplete c length)

/-- R7: 30,000 µs without a crossing; the measured period becomes absent. -/
def State.crossingLost (c : Channel) (s : State) : State :=
  if (s.lmu.channel c).cycles.isEmpty then s
  else
    let s := s.reach ((s.lmu.channel c).lastCrossing + crossingTimeout)
    let v := ({ s.lmu.channel c with cycles := [] } : VoltageChannel).refresh s.now
    ({ s with lmu := s.lmu.setChannel c v } : State).keepLock

/-- NO_CROSSING_TIMEOUT (R7). -/
def execNoCrossingTimeout (c : Channel) : State → Host.Outcome State Fault Refusal := act (·.crossingLost c)

/-- R9: the first moment at which a listed source has been good for 500 ms is reached, and the tracker locks to the source that completes
its 500 ms then; of several, to the first in list order. -/
def State.lockQualified (s : State) : State :=
  match s.lmu.tracker, s.lmu.firstLock with
  | .locked _, _ => s
  | _, some t =>
    match s.lmu.settings.sources.find? fun c => s.lmu.lockTime c == some t with
    | some c => (s.reach t).lockTo c
    | none => s
  | _, none => s

/-- SOURCE_LOCK_QUALIFIED (R9). -/
def execSourceLockQualified : State → Host.Outcome State Fault Refusal := act State.lockQualified

/-- R10. -/
def State.holdoverOver (s : State) : State :=
  match s.lmu.tracker with
  | .holdover d => (s.reach d).setTracker .nominal s.lmu.settings.nominalPeriod
  | _ => s

/-- HOLDOVER_TIMER_EXPIRY (R10). -/
def execHoldoverTimerExpiry : State → Host.Outcome State Fault Refusal := act State.holdoverOver

end Sys2Proof.Machine
end

