-- ==== Sys2Proof/Machine/MechanismEvents.lean ====
section
/-! DEFINITION. The meanings of the mechanism and sequence events (03, 04). -/

namespace Sys2Proof.Machine

/-- CAPACITOR_MEASUREMENT (R83). -/
def execCapacitorMeasurement (millivolts : Nat) : State → Host.Outcome State Fault Refusal :=
  act fun s => (s.reach (s.mdr.lastMeasurement + capacitorPeriod)).measureCapacitor millivolts

/-- LOW_ENERGY_WATCH_EXPIRY (R86). -/
def execLowEnergyWatchExpiry : State → Host.Outcome State Fault Refusal :=
  act fun s => match s.mdr.lowWatch with
    | .running d => (s.reach d).raiseLowEnergy
    | _ => s

/-- POLE_INDICATION_CHANGE (R65). -/
def execPoleIndicationChange (c : Contacts) : State → Host.Outcome State Fault Refusal := act (·.contactsRead c)

/-- TRIP_PULSE_END (R70). -/
def execTripPulseEnd : State → Host.Outcome State Fault Refusal := act State.tripPulseOver

/-- TRIP_SETTLE_EXPIRY (R71). -/
def execTripSettleExpiry : State → Host.Outcome State Fault Refusal := act State.tripWindowOver

/-- RETRIP_SETTLE_EXPIRY (R72). -/
def execRetripSettleExpiry : State → Host.Outcome State Fault Refusal := act State.retripWindowOver

/-- CLOSE_PULSE_END (R73). -/
def execClosePulseEnd : State → Host.Outcome State Fault Refusal := act State.closePulseOver

/-- CLOSE_SETTLE_EXPIRY (R73). -/
def execCloseSettleExpiry : State → Host.Outcome State Fault Refusal := act State.closeWindowOver

/-- INVALID_WATCH_EXPIRY (R79). -/
def execInvalidWatchExpiry : State → Host.Outcome State Fault Refusal := act State.invalidWatchOver

/-- MIXED_WATCH_EXPIRY (R79). -/
def execMixedWatchExpiry : State → Host.Outcome State Fault Refusal := act State.mixedWatchOver

/-- R51: the interval is over, and the SQC asks for a close; refused for energy alone, it waits from then on. -/
def State.intervalOver (s : State) : State :=
  match s.sqc.sequence with
  | .interval d =>
    let s := s.reach d
    s.reclose (.energyWait (s.now + s.sqc.active.energyWait * ms))
  | _ => s

/-- RECLOSE_INTERVAL_EXPIRY (R51). -/
def execRecloseIntervalExpiry : State → Host.Outcome State Fault Refusal := act State.intervalOver

/-- R53: the wait limit; LOCKOUT with cause ENERGY and a LOW_ENERGY alarm with cause ENERGY_WAIT. -/
def State.energyWaitOver (s : State) : State :=
  match s.sqc.sequence with
  | .energyWait d =>
    ((s.reach d).enterLockout .energy .protection).alarm .lowEnergy
      (0x01 :: be 4 s.mdr.estimate ++ be 4 s.mdr.settings.closeEnergy)
  | _ => s

/-- ENERGY_WAIT_EXPIRY (R53). -/
def execEnergyWaitExpiry : State → Host.Outcome State Fault Refusal := act State.energyWaitOver

/-- R56: the reclaim timer, when it runs, is over. -/
def State.reclaimOver (s : State) : State :=
  match s.sqc.sequence with
  | .reclaim (.running d) => (s.reach d).enterReady
  | _ => s

/-- RECLAIM_EXPIRY (R56). -/
def execReclaimExpiry : State → Host.Outcome State Fault Refusal := act State.reclaimOver

end Sys2Proof.Machine
end

