-- ==== Sys2Proof/Machine/PortEvents.lean ====
section
/-! DEFINITION. The meanings of the port events: bad frames, answer collection, parser timeouts, ACK frames and the interface reset (09, 07, 11). -/

namespace Sys2Proof.Machine

/-! ### Answer reads (R175, R193) -/

/-- The first `n` bytes shifted out, 0xFF beyond the end of the answer (R193). -/
def shifted (n : Nat) (bytes : List Byte) : List Byte := bytes.take n ++ List.replicate (n - bytes.length) 0xFF

/-- The bytes under the `n` clocked bytes of a transaction, as far as they carry something (R193). -/
def Miso.line (n : Nat) : Miso → List Byte
  | .bytes l => l.take n
  | .empty => (0xFF :: List.replicate (n - 1) 0x00).take n

/-- ANSWER_READ with `clocked` bytes after the 0x5A (R193, R175). -/
def State.readAnswer (clocked : Nat) (s : State) : State :=
  match s.ports.resetIn, s.ports.cAnswers with
  | false, a :: rest =>
    { s with ports := { s.ports with
        miso := .bytes (0xFF :: shifted clocked a.frame)
        cAnswers := if a.frame.length ≤ clocked then rest else a :: rest } }
  | _, _ => { s with ports := { s.ports with miso := .empty } }

/-- ANSWER_READ (R193). -/
def execAnswerRead (clocked : Nat) : State → Host.Outcome State Fault Refusal := act (·.readAnswer clocked)

/-! ### ACK frames (R146, R155) -/

/-- ACK: passed to the RPU only when its address equals the own address exactly. -/
def execAck (station : Word16) (number : Nat) : State → Host.Outcome State Fault Refusal :=
  act fun s => if s.rpu.hears && station = s.rpu.settings.address then s.acknowledge number else s

/-! ### Received frames (R170 to R172) -/

/-- The next state of an outcome. -/
def settle (o : Host.Outcome State Fault Refusal) (s : State) : State :=
  match o with
  | .next t => t
  | _ => s

/-- A good frame is taken as the command it carries: one of the 27 requests, or an ACK. -/
def State.takeCommand (c : Instr) (s : State) : State :=
  match c with
  | .statusRead src ref => settle (execStatusRead src ref s) s
  | .clearAlerts src ref clear mask => settle (execClearAlerts src ref clear mask s) s
  | .trip src ref => settle (execTrip src ref s) s
  | .close src ref => settle (execClose src ref s) s
  | .selectClose src ref => settle (execSelectClose src ref s) s
  | .operateClose src ref selectRef => settle (execOperateClose src ref selectRef s) s
  | .cancel src ref => settle (execCancel src ref s) s
  | .tagPlace src ref kind crew note => settle (execTagPlace src ref kind crew note s) s
  | .tagRemove src ref slot crew => settle (execTagRemove src ref slot crew s) s
  | .tagList src ref => settle (execTagList src ref s) s
  | .recloseBlock src ref value => settle (execRecloseBlock src ref value s) s
  | .settingsWrite src ref fields => settle (execSettingsWrite src ref fields s) s
  | .settingsRead src ref which => settle (execSettingsRead src ref which s) s
  | .curveLoad src ref curve points => settle (execCurveLoad src ref curve points s) s
  | .mechanismSettings src ref fields => settle (execMechanismSettings src ref fields s) s
  | .mechanismFaultReset src ref => settle (execMechanismFaultReset src ref s) s
  | .batterySettings src ref fields => settle (execBatterySettings src ref fields s) s
  | .batteryTest src ref mode => settle (execBatteryTest src ref mode s) s
  | .abortTest src ref => settle (execAbortTest src ref s) s
  | .batteryReplaced src ref => settle (execBatteryReplaced src ref s) s
  | .readAttributes src ref => settle (execReadAttributes src ref s) s
  | .readTestHistory src ref => settle (execReadTestHistory src ref s) s
  | .readRecord src ref number => settle (execReadRecord src ref number s) s
  | .readCounters src ref limit => settle (execReadCounters src ref limit s) s
  | .timeSet src ref seconds millis => settle (execTimeSet src ref seconds millis s) s
  | .trackerSources src ref sources freq volts squelch => settle (execTrackerSources src ref sources freq volts squelch s) s
  | .linkSettings src ref fields => settle (execLinkSettings src ref fields s) s
  | .ack station number => settle (execAck station number s) s
  | _ => s

/-- What the checks of a complete frame lead to on its port: an answer, a command taken, or nothing (R172). -/
def State.found (port : Port) (c : Checked) (s : State) : State :=
  match c with
  | .lengthOrCrc => if port = .l then s else s.answer port .frameError
  | .unknown kind ref => s.answer port ⟨kind, ref, .unknown, []⟩
  | .badLength kind ref => s.answer port ⟨kind, ref, .invalid, [0]⟩
  | .dropped => s
  | .good c => s.takeCommand c

/-- The bytes from the first 0xA5 on (R171). -/
def seekStart (bytes : List Byte) : List Byte := bytes.dropWhile (· != startByte)

/-- The length of the frame the bytes begin, once its length field is there (R171). -/
def frameLength (bytes : List Byte) : Option Nat :=
  if 3 ≤ bytes.length then some (ofBytes ((bytes.drop 1).take 2) + 5) else none

/-- The complete frames of a stream in order, and the partial frame the parser keeps (R171). Each frame takes at least five bytes, so a count of
the bytes suffices for `fuel`. -/
def frames : (fuel : Nat) → List Byte → List (List Byte) × List Byte
  | 0, bytes => ([], bytes)
  | fuel + 1, bytes =>
    let g := seekStart bytes
    match frameLength g with
    | some n =>
      if n ≤ g.length then
        let rest := frames fuel (g.drop n)
        (g.take n :: rest.1, rest.2)
      else ([], g)
    | none => ([], g)

def parse (bytes : List Byte) : List (List Byte) × List Byte := frames (bytes.length + 1) bytes

/-! The parsers of the P-port and the L-port. -/

def Ports.partialOf (port : UartPort) (p : Ports) : List Byte :=
  match port with
  | .p => p.pPartial
  | .l => p.lPartial

def Ports.lastByte (port : UartPort) (p : Ports) : Nat :=
  match port with
  | .p => p.pLast
  | .l => p.lLast

def State.setParser (port : UartPort) (kept : List Byte) (last : Nat) (s : State) : State :=
  match port with
  | .p => { s with ports := { s.ports with pPartial := kept, pLast := last } }
  | .l => { s with ports := { s.ports with lPartial := kept, lLast := last } }

/-- The partial frame is discarded (R171). -/
def State.discardPartial (port : UartPort) (s : State) : State := s.setParser port [] (s.ports.lastByte port)

/-- A partial frame fails its check: FRAME_ERROR on the P-port, nothing on the L-port (R171, R172). -/
def State.failPartial (port : UartPort) (s : State) : State :=
  if (s.ports.partialOf port).isEmpty then s
  else match port with
    | .p => (s.discardPartial .p).answer .p .frameError
    | .l => s.discardPartial .l

/-- More than 20 ms have passed since the last byte of a partial frame (R171). -/
def State.gapPassed (port : UartPort) (s : State) : Bool :=
  !(s.ports.partialOf port).isEmpty && s.ports.lastByte port + frameGap ≤ s.now

/-- The port takes no byte: the P-port under RESET_IN, the L-port with the supply off or transmit-enable asserted (R181, R152, R145). -/
def State.deaf (port : UartPort) (s : State) : Bool :=
  match port with
  | .p => s.ports.resetIn
  | .l => !s.rpu.hears

/-- A complete frame of a byte stream is checked (R172). -/
def State.takeFrame (port : UartPort) (f : List Byte) (s : State) : State :=
  match port with
  | .p => s.found .p (checkPortFrame .p f)
  | .l => if s.rpu.hears then s.found .l (checkRadioFrame s.rpu.settings f) else s

/-- The bytes arrive on the port: a partial frame whose gap has passed fails, every complete frame is checked in its order, and what is left
stays partial, its last byte taken now (R171, log 16). -/
def State.receive (port : UartPort) (bytes : List Byte) (s : State) : State :=
  if s.deaf port || bytes.isEmpty then s
  else
    let s := if s.gapPassed port then s.failPartial port else s
    let parsed := parse (s.ports.partialOf port ++ bytes)
    parsed.1.foldl (fun s f => s.takeFrame port f) (s.setParser port parsed.2 s.now)

/-- The C-port's part of R170 and R172: under RESET_IN the transaction is not taken (R181); without bytes it changes nothing; 0x5A begins an
answer read. -/
def State.transactOnC (bytes : List Byte) (s : State) : State :=
  match bytes with
  | [] => s
  | first :: rest =>
    if s.ports.resetIn then s.turnedAway .c
    else if first = 0x5A then s.readAnswer rest.length
    else s.found .c (checkPortFrame .c bytes)

/-- BAD_FRAME (R172): the bytes of a transaction, or of a stretch of a byte stream, are checked as R170 to R172 say. A good frame among them is
taken (log 33). -/
def execBadFrame (port : Port) (bytes : List Byte) : State → Host.Outcome State Fault Refusal :=
  act fun s => match port with
    | .c => s.transactOnC bytes
    | .p => s.receive .p bytes
    | .l => s.receive .l bytes

/-- The partial frame of the port fails when its gap has passed, once the bytes received since the last event are taken (R171). -/
def State.gapOver (port : UartPort) (bytes : List Byte) (s : State) : State :=
  let s := s.receive port bytes
  if (s.ports.partialOf port).isEmpty then s
  else (s.reach (s.ports.lastByte port + frameGap)).failPartial port

/-- FRAME_GAP_TIMEOUT (R171). -/
def execFrameGapTimeout (port : UartPort) (bytes : List Byte) : State → Host.Outcome State Fault Refusal :=
  act (·.gapOver port bytes)

/-- UART_FRAMING_ERROR (R171): a byte without its stop bit follows the bytes. On the L-port it ends a partial frame gathered before while the
part transmits, too (log 61, DESIGN CHOICE). -/
def execUartFramingError (port : UartPort) (bytes : List Byte) : State → Host.Outcome State Fault Refusal :=
  act fun s => (s.receive port bytes).failPartial port

/-- LINE_BREAK (R171): the partial frame is discarded with no answer, on the L-port while the part transmits, too (log 61, DESIGN CHOICE). -/
def execLineBreak (port : UartPort) (bytes : List Byte) : State → Host.Outcome State Fault Refusal :=
  act fun s => (s.receive port bytes).discardPartial port

/-! ### The P-port's answers (R175) -/

/-- The oldest answer's frame starts on the P-port (R175). -/
def State.sendAnswer (s : State) : State :=
  match s.ports.resetIn, s.ports.pAnswers with
  | false, a :: rest =>
    let s := s.reach s.ports.pFree
    { s with ports := { s.ports with
        pAnswers := rest, pFrame := a.frame, pFree := s.now + frameTime a.frame.length panelBaud } }
  | _, _ => s

/-- P_ANSWER_SEND (R175). -/
def execPAnswerSend : State → Host.Outcome State Fault Refusal := act State.sendAnswer

/-! ### What the pins show (R197; log 52) -/

/-- MISO through a transaction of `n` bytes. -/
def State.misoWave (n : Nat) (s : State) : List SpiHalf := spiWave (s.ports.miso.line n)

/-- The P-port's transmit line over the answer frame last sent, and the radio's over the frame being sent, one level for each bit time. -/
def State.pWave (s : State) : List Bool := uartWave s.ports.pFrame
def State.lWave (s : State) : List Bool := uartWave ((s.rpu.tx.map Transmission.bytes).getD [])

/-! ### Interface reset (R181) -/

/-- Step 3 of R181: the test of a discarded hold goes on as BACKGROUND (R126). -/
def TestRun.detach (r : TestRun) : TestRun :=
  if r.mode = .attended then { r with mode := .background, port := none } else r

/-- R181, steps 1 to 6. -/
def State.interfaceReset (s : State) : State :=
  let seen (a : AlertSet) : AlertSet := { a with sticky := Flag.resetSeen.bit }
  let p := s.ports
  ({ s with
      ports :=
        { p with
          pPartial := [], lPartial := [], cAnswers := [], pAnswers := [], cHold := none, pHold := none
          cAlerts := seen p.cAlerts, pAlerts := seen p.pAlerts, resetCause := .interfaceReset, resetIn := true
          pFrame := [], pFree := s.now }
      rpu := { s.rpu with answers := [] }
      bcu := { s.bcu with test := s.bcu.test.map TestRun.detach } } : State).dropCloses .reset

/-- RESET_IN_ASSERTED (R181). -/
def execResetInAsserted : State → Host.Outcome State Fault Refusal :=
  act fun s => if s.ports.resetIn then s else s.interfaceReset

/-- RESET_IN_RELEASED (R181). -/
def execResetInReleased : State → Host.Outcome State Fault Refusal :=
  act fun s => { s with ports := { s.ports with resetIn := false } }

end Sys2Proof.Machine
end

