-- ==== Sys2Proof/Machine/PowerEvents.lean ====
section
/-! DEFINITION. The meanings of the store and supply events (10). -/

namespace Sys2Proof.Machine

/-- POWER_ON (R186). -/
def execPowerOn (contacts : Option Contacts) (s : State) : Host.Outcome State Fault Refusal :=
  .next (s.powerOn contacts).rejudge

/-- STORE_WRITE_COMPLETE (R185). -/
def execStoreWriteComplete (readBack : ReadBack) (s : State) : Host.Outcome State Fault Refusal :=
  .next (if s.powered then
    let s := s.writeComplete readBack
    if s.powered then s.rejudge else s
  else s)

/-- POWER_LOSS (R185). -/
def execPowerLoss (s : State) : Host.Outcome State Fault Refusal :=
  .next (if s.powered then s.powerLoss else s)

end Sys2Proof.Machine
end

