-- ==== Sys2Proof/Machine/RadioEvents.lean ====
section
/-! DEFINITION. The meanings of the Report Unit's own events (07). -/

namespace Sys2Proof.Machine

/-- MEASUREMENT_TIMER_EXPIRY (R139, R140). -/
def execMeasurementTimerExpiry : State → Host.Outcome State Fault Refusal :=
  act fun s => match s.rpu.measureTimer with
    | some d =>
      let s := (s.reach d).takeSnapshots
      { s with rpu := { s.rpu with measureTimer := some (s.now + s.rpu.settings.measureInterval * second) } }
    | none => s

/-- R141, R143: at the first moment a frame may start, the first item there is to send is taken. The warm-up is then over. -/
def State.frameMayStart (s : State) : State :=
  match s.rpu.mayStartAt with
  | some t =>
    let s' := s.reach t
    match s'.nextItem with
    | some item => State.startFrame item { s' with rpu := { s'.rpu with radio := .on } }
    | none => s
  | none => s

/-- TRANSMIT_FRAME_START (R141). -/
def execTransmitFrameStart : State → Host.Outcome State Fault Refusal := act State.frameMayStart

/-- R145: the frame being sent ends; a report's ack timer starts. After the transmission of R154 the radio is no longer wanted
and the shutdown goes on. -/
def State.frameOver (tx : Transmission) (s : State) : State :=
  let s : State := s.reach tx.ends
  let s : State := { s with rpu := { s.rpu with tx := none } }
  match tx.item with
  | .answer => s
  | .report object disconnect =>
    let s : State :=
      if s.rpu.inFlight.any fun x => x.object == object then
        { s with rpu := { s.rpu with ackTimer := some (s.now + s.rpu.settings.ackTimeout * ms) } }
      else s
    if disconnect then State.radioDone { s with rpu := { s.rpu with lastCall := .over } } else s

/-- FRAME_END (R145). -/
def execFrameEnd : State → Host.Outcome State Fault Refusal :=
  act fun s => match s.rpu.tx with
    | some tx => s.frameOver tx
    | none => s

/-- ACK_TIMEOUT (R147). -/
def execAckTimeout : State → Host.Outcome State Fault Refusal :=
  act fun s => match s.rpu.ackTimer with
    | some d => (s.reach d).chargeInFlight
    | none => s

/-- CHANNEL_WAIT_TIMEOUT (R144). -/
def execChannelWaitTimeout : State → Host.Outcome State Fault Refusal :=
  act fun s => match s.rpu.channelWait with
    | some d => (s.reach d).channelWaitOver
    | none => s

/-- PROBE_TIMER_EXPIRY (R151). -/
def execProbeTimerExpiry : State → Host.Outcome State Fault Refusal :=
  act fun s => match s.rpu.probe with
    | .running d =>
      let s := s.reach d
      { s with rpu := { s.rpu with probe := .expired } }
    | _ => s

/-- RADIO_WARMUP_END (R152). -/
def execRadioWarmupEnd : State → Host.Outcome State Fault Refusal :=
  act fun s => match s.rpu.radio with
    | .warming e =>
      let s := s.reach e
      { s with rpu := { s.rpu with radio := .on } }
    | _ => s

/-- R143: the holdoff starts from its beginning once carrier-detect goes inactive; it is counted with the supply on. -/
def Rpu.carrierTo (active : Bool) (now : Nat) (r : Rpu) : Rpu :=
  if active = r.carrier then r
  else
    let r := { r with carrier := active }
    { r with holdoff := if r.supplied then r.holdoffFrom now else none }

/-- CARRIER_DETECT_CHANGE (R143). -/
def execCarrierDetectChange (active : Bool) : State → Host.Outcome State Fault Refusal :=
  act fun s => { s with rpu := s.rpu.carrierTo active s.now }

/-- LISTEN_WINDOW_OPEN (R153). -/
def execListenWindowOpen : State → Host.Outcome State Fault Refusal :=
  act fun s => match s.rpu.listen with
    | .waiting t =>
      let s := s.reach t
      { s with rpu := { s.rpu with listen := .opened (t + listenLength) (t + listenPeriod) } }
    | _ => s

/-- LISTEN_WINDOW_CLOSE (R153). -/
def execListenWindowClose : State → Host.Outcome State Fault Refusal :=
  act fun s => match s.rpu.listen with
    | .opened closes next =>
      let s := s.reach closes
      { s with rpu := { s.rpu with listen := .waiting next } }
    | _ => s

/-- NOT_BEFORE_TIME_REACHED (R147): the report becomes eligible as its time passes; radio power and the channel wait are re-judged. -/
def execNotBeforeTimeReached (number : Nat) : State → Host.Outcome State Fault Refusal :=
  act fun s => match s.rpu.notBeforeOf number with
    | some t => s.reach t
    | none => s

end Sys2Proof.Machine
end

