-- ==== Sys2Proof/Machine/Dispatch.lean ====
section
/-! DEFINITION. What each command does: one arm for each row of spec/opcode_table.json. -/

namespace Sys2Proof.Machine

def exec (i : Instr) (s : State) : Host.Outcome State Fault Refusal :=
  match i with
  | .statusRead src ref => Sys2Proof.Machine.execStatusRead src ref s
  | .clearAlerts src ref clear mask => Sys2Proof.Machine.execClearAlerts src ref clear mask s
  | .trip src ref => Sys2Proof.Machine.execTrip src ref s
  | .close src ref => Sys2Proof.Machine.execClose src ref s
  | .selectClose src ref => Sys2Proof.Machine.execSelectClose src ref s
  | .operateClose src ref selectRef => Sys2Proof.Machine.execOperateClose src ref selectRef s
  | .cancel src ref => Sys2Proof.Machine.execCancel src ref s
  | .tagPlace src ref kind crew note => Sys2Proof.Machine.execTagPlace src ref kind crew note s
  | .tagRemove src ref slot crew => Sys2Proof.Machine.execTagRemove src ref slot crew s
  | .tagList src ref => Sys2Proof.Machine.execTagList src ref s
  | .recloseBlock src ref value => Sys2Proof.Machine.execRecloseBlock src ref value s
  | .settingsWrite src ref fields => Sys2Proof.Machine.execSettingsWrite src ref fields s
  | .settingsRead src ref which => Sys2Proof.Machine.execSettingsRead src ref which s
  | .curveLoad src ref curve points => Sys2Proof.Machine.execCurveLoad src ref curve points s
  | .mechanismSettings src ref fields => Sys2Proof.Machine.execMechanismSettings src ref fields s
  | .mechanismFaultReset src ref => Sys2Proof.Machine.execMechanismFaultReset src ref s
  | .batterySettings src ref fields => Sys2Proof.Machine.execBatterySettings src ref fields s
  | .batteryTest src ref mode => Sys2Proof.Machine.execBatteryTest src ref mode s
  | .abortTest src ref => Sys2Proof.Machine.execAbortTest src ref s
  | .batteryReplaced src ref => Sys2Proof.Machine.execBatteryReplaced src ref s
  | .readAttributes src ref => Sys2Proof.Machine.execReadAttributes src ref s
  | .readTestHistory src ref => Sys2Proof.Machine.execReadTestHistory src ref s
  | .readRecord src ref number => Sys2Proof.Machine.execReadRecord src ref number s
  | .readCounters src ref limit => Sys2Proof.Machine.execReadCounters src ref limit s
  | .timeSet src ref seconds millis => Sys2Proof.Machine.execTimeSet src ref seconds millis s
  | .trackerSources src ref sources nominalFreq nominalVolts squelch => Sys2Proof.Machine.execTrackerSources src ref sources nominalFreq nominalVolts squelch s
  | .linkSettings src ref fields => Sys2Proof.Machine.execLinkSettings src ref fields s
  | .badFrame port bytes => Sys2Proof.Machine.execBadFrame port bytes s
  | .answerRead clocked => Sys2Proof.Machine.execAnswerRead clocked s
  | .pAnswerSend => Sys2Proof.Machine.execPAnswerSend s
  | .frameGapTimeout port bytes => Sys2Proof.Machine.execFrameGapTimeout port bytes s
  | .lineBreak port bytes => Sys2Proof.Machine.execLineBreak port bytes s
  | .uartFramingError port bytes => Sys2Proof.Machine.execUartFramingError port bytes s
  | .ack station number => Sys2Proof.Machine.execAck station number s
  | .powerOn contacts => Sys2Proof.Machine.execPowerOn contacts s
  | .resetInAsserted => Sys2Proof.Machine.execResetInAsserted s
  | .resetInReleased => Sys2Proof.Machine.execResetInReleased s
  | .measurementUpdate readings => Sys2Proof.Machine.execMeasurementUpdate readings s
  | .sourceCycleComplete channel length => Sys2Proof.Machine.execSourceCycleComplete channel length s
  | .noCrossingTimeout channel => Sys2Proof.Machine.execNoCrossingTimeout channel s
  | .sourceLockQualified => Sys2Proof.Machine.execSourceLockQualified s
  | .holdoverTimerExpiry => Sys2Proof.Machine.execHoldoverTimerExpiry s
  | .capacitorMeasurement millivolts => Sys2Proof.Machine.execCapacitorMeasurement millivolts s
  | .lowEnergyWatchExpiry => Sys2Proof.Machine.execLowEnergyWatchExpiry s
  | .poleIndicationChange contacts => Sys2Proof.Machine.execPoleIndicationChange contacts s
  | .tripPulseEnd => Sys2Proof.Machine.execTripPulseEnd s
  | .tripSettleExpiry => Sys2Proof.Machine.execTripSettleExpiry s
  | .retripSettleExpiry => Sys2Proof.Machine.execRetripSettleExpiry s
  | .closePulseEnd => Sys2Proof.Machine.execClosePulseEnd s
  | .closeSettleExpiry => Sys2Proof.Machine.execCloseSettleExpiry s
  | .invalidWatchExpiry => Sys2Proof.Machine.execInvalidWatchExpiry s
  | .mixedWatchExpiry => Sys2Proof.Machine.execMixedWatchExpiry s
  | .recloseIntervalExpiry => Sys2Proof.Machine.execRecloseIntervalExpiry s
  | .energyWaitExpiry => Sys2Proof.Machine.execEnergyWaitExpiry s
  | .reclaimExpiry => Sys2Proof.Machine.execReclaimExpiry s
  | .controlKeyChange reading => Sys2Proof.Machine.execControlKeyChange reading s
  | .supervisorKeyChange held => Sys2Proof.Machine.execSupervisorKeyChange held s
  | .handleLockChange pulled => Sys2Proof.Machine.execHandleLockChange pulled s
  | .tripPushbutton => Sys2Proof.Machine.execTripPushbutton s
  | .selectionExpiry => Sys2Proof.Machine.execSelectionExpiry s
  | .panelCloseDelayExpiry => Sys2Proof.Machine.execPanelCloseDelayExpiry s
  | .acStateChange present => Sys2Proof.Machine.execAcStateChange present s
  | .batteryMeasurement millivolts milliamps temperature => Sys2Proof.Machine.execBatteryMeasurement millivolts milliamps temperature s
  | .absorbTimeout => Sys2Proof.Machine.execAbsorbTimeout s
  | .floatDropExpiry => Sys2Proof.Machine.execFloatDropExpiry s
  | .disconnectTimerExpiry => Sys2Proof.Machine.execDisconnectTimerExpiry s
  | .shutdownRadioTimeout => Sys2Proof.Machine.execShutdownRadioTimeout s
  | .shutdownStoreTimeout => Sys2Proof.Machine.execShutdownStoreTimeout s
  | .dayIncrease => Sys2Proof.Machine.execDayIncrease s
  | .scheduledTestAttempt => Sys2Proof.Machine.execScheduledTestAttempt s
  | .restTimerExpiry millivolts => Sys2Proof.Machine.execRestTimerExpiry millivolts s
  | .loadTimerExpiry millivolts milliamps => Sys2Proof.Machine.execLoadTimerExpiry millivolts milliamps s
  | .suspensionTimerExpiry => Sys2Proof.Machine.execSuspensionTimerExpiry s
  | .floatWindowComplete => Sys2Proof.Machine.execFloatWindowComplete s
  | .hotHourComplete => Sys2Proof.Machine.execHotHourComplete s
  | .measurementTimerExpiry => Sys2Proof.Machine.execMeasurementTimerExpiry s
  | .transmitFrameStart => Sys2Proof.Machine.execTransmitFrameStart s
  | .frameEnd => Sys2Proof.Machine.execFrameEnd s
  | .ackTimeout => Sys2Proof.Machine.execAckTimeout s
  | .channelWaitTimeout => Sys2Proof.Machine.execChannelWaitTimeout s
  | .probeTimerExpiry => Sys2Proof.Machine.execProbeTimerExpiry s
  | .radioWarmupEnd => Sys2Proof.Machine.execRadioWarmupEnd s
  | .carrierDetectChange active => Sys2Proof.Machine.execCarrierDetectChange active s
  | .listenWindowOpen => Sys2Proof.Machine.execListenWindowOpen s
  | .listenWindowClose => Sys2Proof.Machine.execListenWindowClose s
  | .storeWriteComplete readBack => Sys2Proof.Machine.execStoreWriteComplete readBack s
  | .tripPushbuttonRelease => Sys2Proof.Machine.execTripPushbuttonRelease s
  | .notBeforeTimeReached number => Sys2Proof.Machine.execNotBeforeTimeReached number s
  | .powerLoss => Sys2Proof.Machine.execPowerLoss s

end Sys2Proof.Machine
end

