-- ==== Sys2Proof/Machine/Timers.lean ====
section
/-! DEFINITION. The passing of time while no command waits: which of the part's own timers are due, and the tick (log 1). -/

namespace Sys2Proof.Machine

/-- The command, when its time has come. -/
def dueAt (now : Nat) (c : Instr) (deadline : Option Nat) : List Instr :=
  match deadline with
  | some d => if d ≤ now then [c] else []
  | none => []

def dueWhen (c : Instr) (b : Bool) : List Instr := if b then [c] else []

/-- The moment a channel's run of cycles ends for want of a crossing (R7). -/
def VoltageChannel.silentAt (v : VoltageChannel) : Option Nat :=
  if v.cycles.isEmpty then none else some (v.lastCrossing + crossingTimeout)

def State.dueLine (s : State) : List Instr :=
  let crossing (c : Channel) : List Instr := dueAt s.now (.noCrossingTimeout c) (s.lmu.channel c).silentAt
  crossing .vaS ++ crossing .vbS ++ crossing .vcS ++ crossing .vaL ++ crossing .vbL ++ crossing .vcL
    ++ (match s.lmu.tracker with
        | .locked _ => []
        | .holdover d => dueAt s.now .sourceLockQualified s.lmu.firstLock ++ dueAt s.now .holdoverTimerExpiry (some d)
        | .nominal => dueAt s.now .sourceLockQualified s.lmu.firstLock)

/-- The next end of a pulse or a settle window of the operation in flight. -/
def Operation.due (now : Nat) (op : Operation) : List Instr :=
  match op.kind, op.phase with
  | .trip, .pulse => dueAt now .tripPulseEnd (some (op.pulseStart + tripPulse))
  | .trip, .settle => dueAt now .tripSettleExpiry (some (op.pulseStart + tripWindow))
  | .trip, .retripPulse => dueAt now .tripPulseEnd (some (op.pulseStart + tripPulse))
  | .trip, .retripSettle => dueAt now .retripSettleExpiry (some (op.pulseStart + tripWindow))
  | .close, .pulse => dueAt now .closePulseEnd (some (op.pulseStart + closePulse))
  | .close, _ => dueAt now .closeSettleExpiry (some (op.pulseStart + closeWindow))

def State.dueMechanism (s : State) : List Instr :=
  (match s.mdr.lowWatch with
   | .running d => dueAt s.now .lowEnergyWatchExpiry (some d)
   | _ => [])
    ++ (s.mdr.op.map (·.due s.now)).getD [] ++ dueAt s.now .invalidWatchExpiry s.mdr.invalidWatch
    ++ dueAt s.now .mixedWatchExpiry s.mdr.mixedWatch

def State.dueSequence (s : State) : List Instr :=
  match s.sqc.sequence with
  | .interval d => dueAt s.now .recloseIntervalExpiry (some d)
  | .energyWait d => dueAt s.now .energyWaitExpiry (some d)
  | .reclaim (.running d) => dueAt s.now .reclaimExpiry (some d)
  | _ => []

/-- The command of a reading that has stood its time. -/
def standDue {α : Type} (now : Nat) (c : α → Instr) (stand : Option (Stand α)) : List Instr :=
  match stand with
  | some x => dueAt now (c x.reading) (some x.ends)
  | none => []

def buttonCommand (pressed : Bool) : Instr := if pressed then .tripPushbutton else .tripPushbuttonRelease

def State.dueDoor (s : State) : List Instr :=
  dueAt s.now .selectionExpiry (s.au.selection.map Selection.expiry)
    ++ (match s.au.panel with
        | .running t => dueAt s.now .panelCloseDelayExpiry (some t)
        | _ => [])
    ++ standDue s.now .controlKeyChange s.au.keyStand ++ standDue s.now .supervisorKeyChange s.au.supervisorStand
    ++ standDue s.now .handleLockChange s.au.handleStand ++ standDue s.now buttonCommand s.au.buttonStand

def State.dueBattery (s : State) : List Instr :=
  (match s.bcu.shutdown with
   | .radio d => dueAt s.now .shutdownRadioTimeout (some d)
   | .store d => dueAt s.now .shutdownStoreTimeout (some d)
   | _ => [])
    ++ standDue s.now .acStateChange s.bcu.acStand ++ dueAt s.now .dayIncrease (some s.bcu.nextDay)
    ++ dueAt s.now .scheduledTestAttempt (s.bcu.nextAttempt.map Attempt.time)
    ++ (match s.bcu.test.map TestRun.phase with
        | some (.suspended d) => dueAt s.now .suspensionTimerExpiry (some d)
        | _ => [])
    ++ dueWhen .floatWindowComplete (floatWindow ≤ s.bcu.floatCount)
    ++ dueWhen .hotHourComplete (hotHour ≤ s.bcu.hotCount)

def State.dueRadio (s : State) : List Instr :=
  dueAt s.now .measurementTimerExpiry s.rpu.measureTimer
    ++ (match s.rpu.radio with
        | .warming e => dueAt s.now .radioWarmupEnd (some e)
        | _ => [])
    ++ (if s.nextItem.isSome then dueAt s.now .transmitFrameStart s.rpu.mayStartAt else [])
    ++ dueAt s.now .frameEnd (s.rpu.tx.map Transmission.ends) ++ dueAt s.now .ackTimeout s.rpu.ackTimer
    ++ dueAt s.now .channelWaitTimeout s.rpu.channelWait
    ++ (match s.rpu.probe with
        | .running d => dueAt s.now .probeTimerExpiry (some d)
        | _ => [])
    ++ (match s.rpu.listen with
        | .waiting t => dueAt s.now .listenWindowOpen (some t)
        | .opened t _ => dueAt s.now .listenWindowClose (some t)
        | .stopped => [])

/-- R171: the gap of a partial frame has passed. -/
def State.duePorts (s : State) : List Instr :=
  dueWhen (.frameGapTimeout .p []) (s.gapPassed .p) ++ dueWhen (.frameGapTimeout .l []) (s.gapPassed .l)
    ++ dueWhen .pAnswerSend (!s.ports.resetIn && !s.ports.pAnswers.isEmpty && s.ports.pFree ≤ s.now)

/-- Every timer command that is due, in a fixed order. The commands that carry a reading, the end of a store write, and the battery
timers judged at a measurement come from outside (log 1, log 13). -/
def State.due (s : State) : List Instr :=
  s.dueLine ++ s.dueMechanism ++ s.dueSequence ++ s.dueDoor ++ s.dueBattery ++ s.dueRadio ++ s.duePorts

/-- The reports whose not-before time falls after `since` and has come (R147). -/
def State.dueReports (since : Nat) (s : State) : List Instr :=
  (s.rpu.qAlarm ++ s.rpu.qEvent).filterMap fun x =>
    match x.notBefore with
    | some t => if since < t && t ≤ s.now then some (.notBeforeTimeReached x.number) else none
    | none => none

/-- One tick of running time, with the reports that become eligible in it. -/
def State.tick (s : State) : State :=
  let s' := s.reach (s.now + Config.tick)
  { s' with pending := s'.dueReports s.now }

/-- No command waits: the first timer command due joins the queue; with none due, a tick passes. Without supply nothing happens
(log 1, log 10). -/
def State.idle (s : State) : State :=
  if s.powered then
    match s.due with
    | c :: _ => { s with pending := [c] }
    | [] => s.tick
  else s

end Sys2Proof.Machine
end

