-- ==== Sys2Proof/Safety.lean ====
section
/-! DEFINITION. The terms the statements use: what it is for a request to be taken and answered, how two states are compared, and the invariants of the rules (R45, R63, R79, R91, R101, R106, R122, R134, R136, R137, R150, R159, R175, R184). -/

namespace Sys2Proof

/-! ### Requests as commands -/

/-- The kind, the source and the reference of a request; the events of the table are no requests. -/
def Instr.request : Instr → Option (Machine.RequestKind × Source × Byte)
  | .statusRead src ref => some (.statusRead, src, ref)
  | .clearAlerts src ref _ _ => some (.clearAlerts, src, ref)
  | .trip src ref => some (.trip, src, ref)
  | .close src ref => some (.close, src, ref)
  | .selectClose src ref => some (.selectClose, src, ref)
  | .operateClose src ref _ => some (.operateClose, src, ref)
  | .cancel src ref => some (.cancel, src, ref)
  | .tagPlace src ref _ _ _ => some (.tagPlace, src, ref)
  | .tagRemove src ref _ _ => some (.tagRemove, src, ref)
  | .tagList src ref => some (.tagList, src, ref)
  | .recloseBlock src ref _ => some (.recloseBlock, src, ref)
  | .settingsWrite src ref _ => some (.settingsWrite, src, ref)
  | .settingsRead src ref _ => some (.settingsRead, src, ref)
  | .curveLoad src ref _ _ => some (.curveLoad, src, ref)
  | .mechanismSettings src ref _ => some (.mechanismSettings, src, ref)
  | .mechanismFaultReset src ref => some (.mechanismFaultReset, src, ref)
  | .batterySettings src ref _ => some (.batterySettings, src, ref)
  | .batteryTest src ref _ => some (.batteryTest, src, ref)
  | .abortTest src ref => some (.abortTest, src, ref)
  | .batteryReplaced src ref => some (.batteryReplaced, src, ref)
  | .readAttributes src ref => some (.readAttributes, src, ref)
  | .readTestHistory src ref => some (.readTestHistory, src, ref)
  | .readRecord src ref _ => some (.readRecord, src, ref)
  | .readCounters src ref _ => some (.readCounters, src, ref)
  | .timeSet src ref _ _ => some (.timeSet, src, ref)
  | .trackerSources src ref _ _ _ _ => some (.trackerSources, src, ref)
  | .linkSettings src ref _ => some (.linkSettings, src, ref)
  | _ => none

/-- The same request from another source; an event is left as it is. -/
def Instr.sentFrom (src : Source) : Instr → Instr
  | .statusRead _ ref => .statusRead src ref
  | .clearAlerts _ ref clear mask => .clearAlerts src ref clear mask
  | .trip _ ref => .trip src ref
  | .close _ ref => .close src ref
  | .selectClose _ ref => .selectClose src ref
  | .operateClose _ ref selectRef => .operateClose src ref selectRef
  | .cancel _ ref => .cancel src ref
  | .tagPlace _ ref kind crew note => .tagPlace src ref kind crew note
  | .tagRemove _ ref slot crew => .tagRemove src ref slot crew
  | .tagList _ ref => .tagList src ref
  | .recloseBlock _ ref value => .recloseBlock src ref value
  | .settingsWrite _ ref fields => .settingsWrite src ref fields
  | .settingsRead _ ref which => .settingsRead src ref which
  | .curveLoad _ ref curve points => .curveLoad src ref curve points
  | .mechanismSettings _ ref fields => .mechanismSettings src ref fields
  | .mechanismFaultReset _ ref => .mechanismFaultReset src ref
  | .batterySettings _ ref fields => .batterySettings src ref fields
  | .batteryTest _ ref mode => .batteryTest src ref mode
  | .abortTest _ ref => .abortTest src ref
  | .batteryReplaced _ ref => .batteryReplaced src ref
  | .readAttributes _ ref => .readAttributes src ref
  | .readTestHistory _ ref => .readTestHistory src ref
  | .readRecord _ ref number => .readRecord src ref number
  | .readCounters _ ref limit => .readCounters src ref limit
  | .timeSet _ ref seconds millis => .timeSet src ref seconds millis
  | .trackerSources _ ref sources freq volts squelch => .trackerSources src ref sources freq volts squelch
  | .linkSettings _ ref fields => .linkSettings src ref fields
  | event => event

end Sys2Proof

namespace Sys2Proof.Machine

/-! ### Taking a request -/

/-- A request of the kind that arrives from `src` is taken on `port`: the part is powered, the frame is not lost, no attended hold
turns it away, and the port may make it (R155, R173). -/
def State.takes (kind : RequestKind) (src : Source) (port : Port) (s : State) : Prop :=
  s.powered = true ∧ s.arrival src = .from port ∧ ((s.ports.hold port).isSome = true → kind.passesHold = true)
    ∧ kind.permitted port = true

/-- The answers waiting at a port (R142, R175). -/
def State.answersAt (port : Port) (s : State) : List Answer :=
  match port with
  | .c => s.ports.cAnswers
  | .p => s.ports.pAnswers
  | .l => s.rpu.answers

/-! ### Comparing states -/

/-- `t` with the radio supply, the holdoff, the channel wait and the radio frame being received of `s`: what the RPU re-judges after every
command. -/
def State.supplyAs (t s : State) : State :=
  { t with
    rpu := { t.rpu with radio := s.rpu.radio, holdoff := s.rpu.holdoff, channelWait := s.rpu.channelWait }
    ports := { t.ports with lPartial := s.ports.lPartial } }

/-- `t` with the answer lists of `s` as well. -/
def State.answersAs (t s : State) : State :=
  let t := t.supplyAs s
  { t with
    ports := { t.ports with cAnswers := s.ports.cAnswers, pAnswers := s.ports.pAnswers }
    rpu := { t.rpu with answers := s.rpu.answers } }

/-- The request is answered with the code and the body: the port's list gains that answer, the other ports' lists keep theirs. -/
def State.answered (port : Port) (kind : RequestKind) (ref : Byte) (code : Code) (body : List Byte) (s t : State) : Prop :=
  t.answersAt port = pushAnswer ⟨kind.code, ref, code, body⟩ (s.answersAt port)
    ∧ ∀ other, other ≠ port → t.answersAt other = s.answersAt other

/-- The request command is taken on the port. -/
def State.taken (c : Instr) (port : Port) (s : State) : Prop :=
  ∃ kind src ref, c.request = some (kind, src, ref) ∧ s.takes kind src port

/-- The request completes: `exec` answers a next state, which is `u` but for the answer lists and the radio supply, and in which the
request is answered with the code and the body. -/
def State.completes (c : Instr) (port : Port) (code : Code) (body : List Byte) (s u : State) : Prop :=
  ∃ kind src ref t, c.request = some (kind, src, ref) ∧ exec c s = .next t ∧ t.answersAs s = u ∧ s.answered port kind ref code body t

/-- The request is refused: it is answered with the code and the body, and nothing else changes. -/
def State.refuses (c : Instr) (port : Port) (code : Code) (body : List Byte) (s : State) : Prop :=
  s.completes c port code body s

/-- The event completes: `exec` answers a next state, which is `u` but for the radio supply. -/
def State.leads (c : Instr) (s u : State) : Prop :=
  ∃ t, exec c s = .next t ∧ t.supplyAs s = u

/-- The newest answer at a port. -/
def State.newestAnswer (port : Port) (s : State) : Option Answer := (s.answersAt port).getLast?

/-- The first of the listed conditions to hold decides. -/
def firstOf {α : Type} : List (Bool × α) → Option α
  | [] => none
  | (holds, a) :: rest => if holds then some a else firstOf rest

/-- The number of the first check that fails, counting from 1. -/
def firstFailing (checks : List Bool) : Option Nat := (checks.findIdx? fun ok => !ok).map (· + 1)

/-! ### Closes (R67 to R69, R99, R100) -/

/-- R67, R68, R69, R84, R52: the state after a close of origin `o` has fired. The estimate is debited, a record number is reserved, the
coil is driven, and a command close puts the sequence in CLOSING from OPEN, LOCKOUT or RECLOSE_WAIT. -/
def State.closeFired (o : Origin) (s t : State) : Prop :=
  t.mdr = { s.mdr with
      op := some ⟨.close, [o], .pulse, false, s.now, s.mdr.estimate, false, none, s.lmu.currents, s.oru.counters.next⟩
      estimate := s.mdr.estimate - s.mdr.settings.eClose, closeDrive := true, invalidWatch := none, mixedWatch := none }
    ∧ t.oru = { s.oru with counters := { s.oru.counters with next := (s.oru.counters.next + 1) % 65536 } }
    ∧ t.oeb = s.oeb ∧ t.lmu = s.lmu ∧ t.clock = s.clock ∧ t.powered = true ∧ t.pending = s.pending
    ∧ t.bcu.opInFlight = true ∧ (s.bcu.testHolds = true → t.bcu.loadOn = false)
    ∧ (s.bcu.testHolds = false → t.bcu = { s.bcu with opInFlight := true })
    ∧ (s.sqc.reported = true → o.isCommand = true → (match s.sqc.sequence with
        | .opened | .lockout _ | .interval _ | .energyWait _ => t.sqc = { s.sqc with sequence := .closing .command }
        | _ => t.sqc = s.sqc))

/-- R99, R100: the code a port is answered when its close is refused: the first of these that holds. -/
def State.closeRefusal (o : Origin) (s : State) : Option Code :=
  firstOf
    [(!s.au.tags.isEmpty, Code.tag), (s.au.handlePulled, .handleLock),
     (if o = .p then s.au.mode == .remoteMode else s.au.mode == .localMode, .mode),
     (s.mdr.op.isSome, .busy), (s.mdr.latch, .mechFault), (!s.mdr.poles.allOpen, .busy),
     (s.mdr.estimate < s.mdr.settings.eClose + s.mdr.settings.eTrip, .energy)]

/-! ### Records in range, and bounded lists (Tables 3-1, 5-2, 6-6, 6-7, 7-6, R13, R36, R87, R91, R127, R128, R142, R159, R160, R163 to R165,
R175, R183, R184) -/

/-- Every field lies in its range of Table 3-1. -/
def Settings.ok (s : Settings) : Bool := (badField 33 settingsChecks s.fields).isNone

/-- Every field lies in its range of R87. -/
def MechanismSettings.ok (m : MechanismSettings) : Bool := (badField 4 mechanismChecks m.fields).isNone

/-- Every field lies in its range of Table 6-7. -/
def BatterySettings.ok (b : BatterySettings) : Bool := (badField 15 batteryChecks b.fields).isNone

/-- Every field lies in its range of Table 7-6. -/
def LinkSettings.ok (l : LinkSettings) : Bool := (badField 11 linkChecks l.fields).isNone

/-- Eight points that the checks of R36 accept. -/
def CurveTable.ok (t : CurveTable) : Bool := (curveBad 5 t).isNone

/-- The four settings are ones that R13 accepts. -/
def TrackerSettings.ok (t : TrackerSettings) : Bool :=
  (trackerBad (t.sources.map fun c => (channelCode c).toNat) t.nominalFreq t.nominalVolts t.squelch).isNone

/-- The slot, the placement number and the note of an entry (R91, Table 5-2). -/
def Tag.ok (t : Tag) : Bool :=
  within 0 7 t.slot && within 0 4294967295 t.number && within 0 24 t.note.length && t.note.all printable

/-- Table 6-6: the normalized value, and with it the worst value, is clamped to 1 to 253. -/
def HealthAttribute.ok (a : HealthAttribute) : Bool := within 1 253 a.normalized && within 1 253 a.worst

def Attributes.ok (a : Attributes) : Bool :=
  a.resistance.ok && a.loadMargin.ok && a.failures.ok && a.floatCurrent.ok && a.deepDischarges.ok && a.days.ok && a.hotHours.ok
    && a.rechargeTime.ok

/-- The settings, the attributes, the length of the history and the saturating counts (Table 6-7, R127, R128). -/
def BatteryRecord.ok (b : BatteryRecord) : Bool :=
  b.settings.ok && b.attributes.ok && within 0 8 b.history.length && within 0 65535 b.deep && within 0 65535 b.hot
    && within 0 65535 b.days && within 0 255 b.fails

/-- R160, R163 to R165. -/
def Counters.ok (c : Counters) : Bool :=
  within 0 9999999 c.total && within 0 9999999 c.protTrips && within 0 9999999 c.lockouts
    && within 0 4294967295 c.wear.a && within 0 4294967295 c.wear.b && within 0 4294967295 c.wear.c
    && within 0 4000000000 c.limit && within 0 65535 c.next

/-- The content of a record lies in the ranges of its rules. -/
def Content.ok : Content → Bool
  | .activeSettings s => s.ok
  | .userCurve1 t | .userCurve2 t => t.ok
  | .tagSlot slot entry => within 0 7 slot && entry.all Tag.ok
  | .authority _ => true
  | .mechanism m => m.settings.ok
  | .counters c => c.ok
  | .recordRing ring => within 0 32 ring.length
  | .battery b => b.ok
  | .link l => l.ok
  | .tracker t => t.ok
  | .shutdownMark _ => true

/-- One copy of each record is kept, under its own id (R183). -/
def Store.keyed (st : Store) : Bool := st.records.all (fun r => r.content.id == r.id) && (st.records.map StoredRecord.id).Nodup

/-- Every stored content is in range, one copy of each under its own id. -/
def Store.ok (st : Store) : Bool := st.keyed && st.records.all fun r => r.content.ok

/-- What the store holds, what is being written and what waits to be written is all in range. -/
def Nvs.ok (n : Nvs) : Bool :=
  n.store.ok && n.queue.all Content.ok && n.writing.all (fun w => w.content.ok)

/-- The records in force, queued, being written and stored are in range, no record id is queued twice, and the bounded lists keep their
bounds. -/
def State.recordsInv (s : State) : Prop :=
  s.nvs.ok = true ∧ (s.nvs.queue.map Content.id).Nodup ∧ s.sqc.active.ok = true ∧ s.sqc.staged.all Settings.ok = true
    ∧ s.oeb.u1.ok = true ∧ s.oeb.u2.ok = true ∧ s.au.tags.all Tag.ok = true ∧ s.au.placements ≤ 4294967295
    ∧ s.mdr.settings.ok = true ∧ s.oru.counters.ok = true ∧ s.oru.ring.length ≤ 32 ∧ s.bcu.stored.ok = true
    ∧ s.rpu.settings.ok = true ∧ s.lmu.settings.ok = true
    ∧ s.ports.cAnswers.length ≤ 4 ∧ s.ports.pAnswers.length ≤ 4 ∧ s.rpu.answers.length ≤ 4

/-! ### The sequence (R45, R63) -/

/-- The shot counter each sequence state allows. -/
def Sqc.shotOk (q : Sqc) : Prop :=
  match q.sequence with
  | .ready => q.shot = 0
  | .interval _ | .energyWait _ | .reclaim _ | .closing .reclose => q.shot < q.active.trips
  | _ => q.shot ≤ q.active.trips

/-- The shot counter stays within N, is 0 in READY, and the SQC stands in OPEN with it at 0 until the first pole report. -/
def State.sequenceInv (s : State) : Prop :=
  s.sqc.shotOk ∧ s.sqc.shot ≤ s.sqc.active.trips ∧ (s.sqc.reported = false → s.sqc.sequence = .opened ∧ s.sqc.shot = 0)

/-! ### Authority (R91, R101, R106) -/

def Panel.isRunning : Panel → Bool
  | .running _ => true
  | _ => false

/-- Eight slots at most, each used once, no crew number and kind twice; no selection with a tag present or in LOCAL; no panel close
delay running with a tag present or in REMOTE. -/
def State.authorityInv (s : State) : Prop :=
  s.au.tags.length ≤ 8 ∧ (∀ t ∈ s.au.tags, t.slot < 8) ∧ (s.au.tags.map Tag.slot).Nodup ∧ (s.au.tags.map fun t => (t.crew, t.kind)).Nodup
    ∧ (s.au.tags ≠ [] ∨ s.au.mode = .localMode → s.au.selection = none)
    ∧ (s.au.tags ≠ [] ∨ s.au.mode = .remoteMode → s.au.panel.isRunning = false)

/-! ### The test load (R122) -/

/-- The load is connected exactly in the LOAD phase, and then with nothing in flight, the recharge flag clear and AC present; the BCU's
notes of the MDR agree with the MDR. -/
def State.loadInv (s : State) : Prop :=
  s.bcu.loadOn = s.bcu.inLoad ∧ (s.bcu.test.isSome = true → s.bcu.acPresent = true)
    ∧ (s.bcu.inLoad = true → s.bcu.opInFlight = false ∧ s.bcu.recharging = false)
    ∧ s.bcu.opInFlight = s.mdr.op.isSome ∧ s.bcu.recharging = s.mdr.rechargeSince.isSome

/-! ### The report pool (R134, R136, R137) -/

/-- Each object is in use at most once and there are 48, each list holds its own classes, at most 24 objects are events or snapshots, and
an alarm identity stands at most once in Q_ALARM and HELD together. -/
def State.poolInv (s : State) : Prop :=
  (∀ x ∈ s.rpu.qAlarm, x.kind.isAlarm = true) ∧ (∀ x ∈ s.rpu.qEvent, x.kind.isEvent = true)
    ∧ (∀ x ∈ s.rpu.qMeasure, x.kind.isMeasure = true) ∧ (∀ x ∈ s.rpu.held, x.kind.isMeasure = false)
    ∧ s.rpu.eventOrMeasureCount ≤ 24
    ∧ (s.rpu.used.map Report.object).Nodup ∧ (∀ x ∈ s.rpu.used, x.object < 48)
    ∧ (((s.rpu.qAlarm ++ s.rpu.held).filter fun x => x.kind.isAlarm).map Report.kind).Nodup

/-! ### The mechanism (R69, R70, R73, R79) -/

/-- The operation drives the trip coil in its pulse phases. -/
def Operation.drivesTrip (op : Operation) : Bool := op.kind == .trip && (op.phase == .pulse || op.phase == .retripPulse)

/-- The operation drives the close coil in its pulse phase. -/
def Operation.drivesClose (op : Operation) : Bool := op.kind == .close && op.phase == .pulse

/-- The coils are driven exactly as the operation in flight asks, so never both; the retrip flag is set exactly in the RETRIP phases,
which only a trip has; no position watch runs with an operation in flight or with the latch set. -/
def State.mechanismInv (s : State) : Prop :=
  s.mdr.tripDrive = s.mdr.op.any Operation.drivesTrip ∧ s.mdr.closeDrive = s.mdr.op.any Operation.drivesClose
    ∧ (∀ op, s.mdr.op = some op → op.retrip = (op.phase == .retripPulse || op.phase == .retripSettle)
        ∧ (op.kind = .close → op.retrip = false))
    ∧ (s.mdr.latch = true ∨ s.mdr.op.isSome = true → s.mdr.invalidWatch = none ∧ s.mdr.mixedWatch = none)

/-! ### The link (R150) -/

/-- The score stays in its range and the standing follows it. -/
def State.linkInv (s : State) : Prop :=
  s.rpu.score ≤ 255 ∧ s.rpu.standing = standingOf s.rpu.settings.warnLevel s.rpu.score

end Sys2Proof.Machine
end

