-- ==== Sys2Proof/Certificates/Slice0/Obligations.lean ====
section
/-! DEFINITION. The statements for the provers. Each docstring names the rules a statement formalises; where one rests on a choice of the model, it names the log entry. -/

section
open Sys2Proof Sys2Proof.Machine

/-! ### Steps and time -/

/-- The front command of the queue runs on the state with the queue's rest. -/
def Obligations.FrontCommandRuns : Prop :=
  ∀ (c : Instr) (s : State), step { s with pending := c :: s.pending } = exec c s

/-- An empty queue (log 1, a model's choice): without supply nothing happens; a timer command that is due joins the queue; with none due, one
millisecond of running time passes, and the queue gets the commands of the reports that become eligible in it (R147). -/
def Obligations.EmptyQueueLetsTimePass : Prop :=
  ∀ s : State, s.pending = [] →
    (s.powered = false → step s = .next s)
    ∧ (∀ c rest, s.powered = true → s.due = c :: rest → step s = .next { s with pending := [c] })
    ∧ (s.powered = true → s.due = [] → ∃ t, step s = .next t
        ∧ { t with pending := [], clock := s.clock } = s
        ∧ t.clock = s.clock.reach (s.clock.running + 1000)
        ∧ ∀ n, Instr.notBeforeTimeReached n ∈ t.pending ↔
            ∃ x ∈ s.rpu.qAlarm ++ s.rpu.qEvent, x.number = n ∧ ∃ d, x.notBefore = some d ∧ s.now < d ∧ d ≤ s.now + 1000)

/-- R167: the milliseconds advance with the running time, each wrap adds 1 to the seconds, and the seconds wrap with the mark left as it is.
That a millisecond of the day begins where one of the running time does, after a TIME SET too, is the model's (log 54, DESIGN CHOICE). -/
def Obligations.TimeOfDayFollowsRunningTime : Prop :=
  ∀ (c : Clock) (t : Nat), c.millis < 1000 →
    (c.reach t).running = max t c.running ∧ (c.reach t).millis < 1000 ∧ (c.reach t).unset = c.unset
    ∧ (c.reach t).seconds.toNat * 1000 + (c.reach t).millis
        = (c.seconds.toNat * 1000 + c.millis + (max t c.running / 1000 - c.running / 1000)) % (4294967296 * 1000)

/-! ### Requests at the ports -/

/-- R173, R181, R155: what turns a request away before its owner sees it. Without supply (log 10), and where its frame is lost, it changes
nothing, but that a transaction on the C-port under RESET_IN shifts out the empty indication (R193); under an attended hold it is answered
BUSY, and on a port its kind is not permitted on, NOT_PERMITTED. -/
def Obligations.RequestsTurnedAway : Prop :=
  ∀ (c : Instr) (kind : RequestKind) (src : Source) (ref : Byte) (s : State), c.request = some (kind, src, ref) →
    (s.powered = false → exec c s = .next s)
    ∧ (s.powered = true → s.arrival src = .lost →
        s.leads c (if src = .c then { s with ports := { s.ports with miso := .empty } } else s))
    ∧ (∀ port, s.powered = true → s.arrival src = .from port → (s.ports.hold port).isSome = true → kind.passesHold = false →
        s.refuses c port .busy [])
    ∧ (∀ port, s.powered = true → s.arrival src = .from port →
        ((s.ports.hold port).isSome = true → kind.passesHold = true) → kind.permitted port = false →
        s.refuses c port .notPermitted [])

/-- R156: a group request has the effect of the same request on the own address, with its answer dropped; SELECT CLOSE and OPERATE CLOSE are
discarded. A group BATTERY TEST of mode ATTENDED is then refused unanswered, as an exact one is; R120 can be read to have it carried out as
BACKGROUND, so this form rests on log 27 (DEDUCED). -/
def Obligations.GroupRequestsActUnanswered : Prop :=
  ∀ (c : Instr) (kind : RequestKind) (src : Source) (ref : Byte) (s : State), c.request = some (kind, src, ref) →
    s.powered = true → s.arrival src = .group →
    (kind = .selectClose ∨ kind = .operateClose → s.leads c s)
    ∧ (kind ≠ .selectClose → kind ≠ .operateClose →
        ∃ t u, exec c s = .next t ∧ exec (c.sentFrom (.l s.rpu.settings.address)) s = .next u
          ∧ t.supplyAs s = { u.supplyAs s with rpu := { (u.supplyAs s).rpu with answers := s.rpu.answers } })

/-- R180, R132, R166: STATUS READ, READ ATTRIBUTES, READ TEST HISTORY and READ COUNTERS without a limit are answered DONE with what they
read, on every port, and change nothing. The layout of what they read is read from R190 and R191 (log 18, log 19, log 20): of the mode and the
suspension count with no test running (log 62, DEDUCED), and of the raw values, one byte for attribute 3, two for 5 to 7 and four for the
others (log 56, DEDUCED). The bytes of the alert set are the model's (log 47, DESIGN CHOICE). -/
def Obligations.ReadsAnswerAndChangeNothing : Prop :=
  (∀ port, RequestKind.statusRead.permitted port = true ∧ RequestKind.readAttributes.permitted port = true
    ∧ RequestKind.readTestHistory.permitted port = true ∧ RequestKind.readCounters.permitted port = true)
  ∧ ∀ (src : Source) (ref : Byte) (port : Port) (s : State),
    let b := s.bcu.stored
    let entry (id classCode width : Nat) (a : HealthAttribute) : List Byte :=
      be 1 id ++ be 1 classCode ++ encOpt (beInt width) a.raw ++ be 1 a.normalized ++ be 1 a.worst
        ++ be 1 (b.settings.thresholds.getD (id - 1) 0)
    let a := b.attributes
    let entries := entry 1 1 4 a.resistance ++ entry 2 1 4 a.loadMargin ++ entry 3 1 1 a.failures ++ entry 4 2 4 a.floatCurrent
      ++ entry 5 2 2 a.deepDischarges ++ entry 6 2 2 a.days ++ entry 7 2 2 a.hotHours ++ entry 8 2 4 a.rechargeTime
    let running : List Byte := match s.bcu.test with
      | none => [1, 0, 0]
      | some r => [testStateCode (some r), 1, r.mode.code, 1] ++ be 1 r.suspensions
    let history := running ++ be 2 b.days ++ encOpt (fun x => (s.stampAt (Attempt.time x)).enc) s.bcu.nextAttempt
      ++ encOpt (fun p => [Precondition.code p]) s.bcu.lastReason ++ be 1 b.history.length ++ b.history.flatMap TestEntry.enc
    (s.taken (.statusRead src ref) port → s.completes (.statusRead src ref) port .done (s.statusBody port) s)
    ∧ (s.taken (.readAttributes src ref) port →
        s.completes (.readAttributes src ref) port .done (verdictCode s.bcu.failing :: entries) s)
    ∧ (s.taken (.readTestHistory src ref) port → s.completes (.readTestHistory src ref) port .done history s)
    ∧ (s.taken (.readCounters src ref none) port →
        s.completes (.readCounters src ref none) port .done s.oru.counters.enc s)

/-- R97: TAG LIST is answered DONE with the number of entries and every entry in placement order, and changes nothing. -/
def Obligations.TagListGivesTheWholeTable : Prop :=
  (∀ port, RequestKind.tagList.permitted port = true)
  ∧ ∀ (src : Source) (ref : Byte) (port : Port) (s : State), s.taken (.tagList src ref) port →
      s.completes (.tagList src ref) port .done
        (BitVec.ofNat 8 s.au.tags.length :: s.au.tags.flatMap fun t =>
          [BitVec.ofNat 8 t.slot, t.kind.code, portCode t.origin] ++ be 2 t.crew ++ t.placed.enc
            ++ BitVec.ofNat 8 t.note.length :: t.note) s

/-- R44, R190: SETTINGS READ for ACTIVE, for STAGED with a copy, and for STAGED without one, from all three ports in either control mode.
Reading changes nothing. That the operand is 1 for ACTIVE and 2 for STAGED, R44's order, is the model's reading (log 20, DEDUCED). -/
def Obligations.SettingsReadGivesTheCopyNamed : Prop :=
  (∀ port, RequestKind.settingsRead.permitted port = true)
  ∧ ∀ (src : Source) (ref : Byte) (port : Port) (s : State),
    (s.taken (.settingsRead src ref 1) port → s.completes (.settingsRead src ref 1) port .done s.sqc.active.enc s)
    ∧ (∀ r, s.taken (.settingsRead src ref 2) port → s.sqc.staged = some r →
        s.completes (.settingsRead src ref 2) port .done r.enc s)
    ∧ (s.taken (.settingsRead src ref 2) port → s.sqc.staged = none → s.completes (.settingsRead src ref 2) port .empty [] s)

/-- R162: READ RECORD gives the record the ring holds under the number, or GONE, and both answers carry the numbers of the oldest and the
newest record and the next one; a group READ RECORD has no effect that can be seen. The layout of the answer is read from R190 (log 18). -/
def Obligations.ReadRecordFindsTheNumber : Prop :=
  (∀ port, RequestKind.readRecord.permitted port = true)
  ∧ ∀ (src : Source) (ref : Byte) (n : Nat) (port : Port) (s : State),
    let bounds := encOpt (fun r => be 2 (OpRecord.number r)) s.oru.ring.head?
      ++ encOpt (fun r => be 2 (OpRecord.number r)) s.oru.ring.getLast? ++ be 2 s.oru.counters.next
    (∀ r ∈ s.oru.ring, (s.oru.ring.map OpRecord.number).Nodup → r.number = n → s.taken (.readRecord src ref n) port →
        s.completes (.readRecord src ref n) port .done (r.enc ++ bounds) s)
    ∧ ((∀ r ∈ s.oru.ring, r.number ≠ n) → s.taken (.readRecord src ref n) port →
        s.completes (.readRecord src ref n) port .gone bounds s)
    ∧ (s.powered = true → s.arrival src = .group → s.leads (.readRecord src ref n) s)

/-- R179, R178: CLEAR ALERTS clears the named sticky bits of the requesting port's set and replaces its mask when it carries one; the
attention output follows, and the other set stays.
R177: an occurrence sets its flag's sticky bit in both sets and changes nothing else. -/
def Obligations.ClearAlertsActsOnItsOwnSet : Prop :=
  RequestKind.clearAlerts.permitted .c = true ∧ RequestKind.clearAlerts.permitted .p = true
  ∧ RequestKind.clearAlerts.permitted .l = false
  ∧ ∀ (src : Source) (ref : Byte) (flags : Word16) (mask : Option Word16) (s : State),
    let after (a : AlertSet) : AlertSet := ⟨a.sticky &&& ~~~flags, mask.getD a.mask⟩
    let body (a : AlertSet) : List Byte := be 2 a.sticky.toNat ++ be 2 a.mask.toNat
    let c := Instr.clearAlerts src ref flags mask
    (s.taken c .c → s.completes c .c .done (body (after s.ports.cAlerts))
        { s with ports := { s.ports with cAlerts := after s.ports.cAlerts } })
    ∧ (s.taken c .p → s.completes c .p .done (body (after s.ports.pAlerts))
        { s with ports := { s.ports with pAlerts := after s.ports.pAlerts } })
    ∧ (s.attnC = true ↔ ∃ f, s.ports.cAlerts.sticky &&& s.ports.cAlerts.mask &&& Flag.bit f ≠ 0)
    ∧ (s.attnP = true ↔ ∃ f, s.ports.pAlerts.sticky &&& s.ports.pAlerts.mask &&& Flag.bit f ≠ 0)
    ∧ (∀ f, s.raise f = { s with ports := { s.ports with
        cAlerts := ⟨s.ports.cAlerts.sticky ||| f.bit, s.ports.cAlerts.mask⟩
        pAlerts := ⟨s.ports.pAlerts.sticky ||| f.bit, s.ports.pAlerts.mask⟩ } })

/-! ### Trips -/

/-- R66, R69, R84, R29, R47, R105, R108, R110: with nothing in flight, TRIP from any port and a press of the pushbutton that has stood for its
20 ms (log 14) start a trip pulse.
The estimate is debited and the low-energy mark set from it, a record number is reserved, every element's progress becomes 0, the
selection and a running panel close delay end, the coil is driven, and the sequence moves as Table 3-4 gives. The line measurement, the
settings and the clock stay as they were, but for the end of the press's stand. -/
def Obligations.TripFiresWithNothingInFlight : Prop :=
  ∀ (c : Instr) (o : Origin) (stand : Option (Stand Bool)) (s base : State), s.powered = true → s.mdr.op = none →
    ((∃ src ref port, c = .trip src ref ∧ s.taken c port ∧ o = portOrigin port ∧ stand = s.au.buttonStand ∧ base = s)
      ∨ (c = .tripPushbutton ∧ s.au.buttonPressed = false ∧ o = .button ∧ stand = none
        ∧ ∃ d, s.au.buttonStand = some ⟨true, d⟩ ∧ base = s.reach d)) →
    let low : Bool := s.mdr.estimate < s.mdr.settings.eTrip
    ∃ t, exec c s = .next t
      ∧ t.mdr = { s.mdr with
          op := some ⟨.trip, [o], .pulse, false, base.now, s.mdr.estimate, low, none, s.lmu.currents, s.oru.counters.next⟩
          estimate := s.mdr.estimate - s.mdr.settings.eTrip
          tripDrive := true, closeDrive := false, invalidWatch := none, mixedWatch := none }
      ∧ t.oeb = s.oeb.pulseStart
      ∧ t.au = { s.au with
          selection := none, panel := s.au.panel.cancel .trip
          buttonPressed := s.au.buttonPressed || c == .tripPushbutton, buttonStand := stand }
      ∧ t.lmu = s.lmu ∧ t.clock = base.clock ∧ t.powered = true ∧ t.pending = s.pending ∧ t.rpu.settings = s.rpu.settings
      ∧ t.bcu.opInFlight = true ∧ (s.bcu.testHolds = true → t.bcu.loadOn = false)
      ∧ (s.bcu.testHolds = false → t.bcu = { s.bcu with opInFlight := true })
      ∧ (t.ports.cAlerts.sticky &&& Flag.energyLow.bit ≠ 0 ↔ low = true ∨ s.ports.cAlerts.sticky &&& Flag.energyLow.bit ≠ 0)
      ∧ (match s.sqc.sequence with
          | .ready | .reclaim _ | .closing _ =>
            t.oru = { s.oru with counters := { s.oru.counters with next := (s.oru.counters.next + 1) % 65536 } }
              ∧ t.sqc = (if s.sqc.reported then { s.sqc with sequence := .tripping .command false } else s.sqc)
          | .interval _ | .energyWait _ => s.sqc.reported = true →
            t.sqc.sequence = .lockout .command ∧ t.oru.counters.next = ((s.oru.counters.next + 1) % 65536 + 1) % 65536
              ∧ t.oru.counters.lockouts = min 9999999 (s.oru.counters.lockouts + 1)
          | .tripping _ _ | .opened | .lockout _ =>
            t.oru = { s.oru with counters := { s.oru.counters with next := (s.oru.counters.next + 1) % 65536 } }
              ∧ t.sqc = s.sqc)

/-- R66, R74, R109: TRIP is never refused. It is answered ACCEPTED, and there is a trip in flight that holds the port's origin; joined to a
trip already in flight it changes nothing else, and a close in flight is cut: its record, with outcome CUT, is the newest of the ring. -/
def Obligations.TripIsNeverRefused : Prop :=
  ∀ (src : Source) (ref : Byte) (port : Port) (s : State), s.taken (.trip src ref) port →
    (∃ t op, exec (.trip src ref) s = .next t ∧ t.newestAnswer port = some ⟨0x02, ref, .accepted, []⟩
      ∧ t.mdr.op = some op ∧ op.kind = .trip ∧ portOrigin port ∈ op.origins)
    ∧ (∀ op, s.mdr.op = some op → op.kind = .trip →
        s.completes (.trip src ref) port .accepted []
          (if portOrigin port ∈ op.origins then s
            else { s with mdr := { s.mdr with op := some { op with origins := op.origins ++ [portOrigin port] } } }))
    ∧ (∀ op, s.mdr.op = some op → op.kind = .close →
        ∃ t cut new, exec (.trip src ref) s = .next t
          ∧ t.mdr.op = some new ∧ new.kind = .trip ∧ new.origins = [portOrigin port] ∧ new.phase = .pulse ∧ new.pulseStart = s.now
          ∧ new.energyBefore = s.mdr.estimate ∧ t.mdr.estimate = s.mdr.estimate - s.mdr.settings.eTrip
          ∧ t.mdr.tripDrive = true ∧ t.mdr.closeDrive = false ∧ t.mdr.latch = s.mdr.latch
          ∧ t.oru.ring.getLast? = some cut ∧ cut.number = op.number ∧ cut.outcome = some .cut
          ∧ (cut.kind = .reclose ∨ cut.kind = .cmdClose)
          ∧ (s.sqc.reported = true → (∃ k, s.sqc.sequence = .closing k) → t.sqc = { s.sqc with sequence := .tripping .command false }))

/-! ### Closes -/

/-- R102, R101: SELECT CLOSE is refused with the code of the first check that fails, and otherwise makes a selection of the port, with its
reference and its expiry, which the answer carries as a time of day. -/
def Obligations.SelectCloseMakesASelection : Prop :=
  ∀ (src : Source) (ref : Byte) (port : Port) (s : State), s.taken (.selectClose src ref) port →
    let closedOff : Bool := match s.sqc.sequence with
      | .opened | .lockout _ => false
      | _ => true
    let refusal := firstOf
      [(s.au.mode == .localMode, Code.mode), (!s.au.tags.isEmpty, .tag), (s.au.handlePulled, .handleLock), (s.mdr.latch, .mechFault),
       (closedOff, .busy), (s.au.selection.any fun x => x.owner != port, .selectedElsewhere)]
    let expiry := s.now + s.rpu.settings.selectTimeout * 1000000
    (∀ code, refusal = some code → s.refuses (.selectClose src ref) port code [])
    ∧ (refusal = none → s.completes (.selectClose src ref) port .done (s.stampAt expiry).enc
        { s with au := { s.au with selection := some ⟨port, ref, s.now, expiry⟩ } })

/-- R103, R100: OPERATE CLOSE without the port's own selection of that reference is answered NOT_SELECTED and changes nothing; with it the
selection is spent, and the close fires and is answered ACCEPTED, or is refused with the code of R100 and nothing else changes. -/
def Obligations.OperateCloseSpendsTheSelection : Prop :=
  ∀ (src : Source) (ref selectRef : Byte) (port : Port) (s : State), s.taken (.operateClose src ref selectRef) port →
    let c := Instr.operateClose src ref selectRef
    let spent : State := { s with au := { s.au with selection := none } }
    let valid : Prop := ∃ x, s.au.selection = some x ∧ x.owner = port ∧ x.ref = selectRef
    (¬ valid → s.refuses c port .notSelected [])
    ∧ (∀ code, valid → s.closeRefusal (portOrigin port) = some code → s.completes c port code [] spent)
    ∧ (valid → s.closeRefusal (portOrigin port) = none →
        ∃ t, exec c s = .next t ∧ t.newestAnswer port = some ⟨0x05, ref, .accepted, []⟩
          ∧ State.closeFired (portOrigin port) s t ∧ t.au = spent.au)

/-- R106, R107, R108: a CLOSE from the panel is refused with the code of the first check that fails. One that passes starts the delay and is
answered ACCEPTED; with a delay of 0 the close is placed at once, as at the expiry of the delay. There it fires, or is refused with the
code of R100, and the panel close record says which. -/
def Obligations.PanelCloseRunsItsDelay : Prop :=
  ∀ (src : Source) (ref : Byte) (s : State),
    let running : Bool := match s.au.panel with
      | .running _ => true
      | _ => false
    let refusal := firstOf
      [(s.au.mode == .remoteMode, Code.mode), (!s.au.tags.isEmpty, .tag), (s.au.handlePulled, .handleLock), (running, .busy)]
    let expiry := s.now + s.rpu.settings.panelDelay * 1000000
    (∀ code, s.taken (.close src ref) .p → refusal = some code → s.refuses (.close src ref) .p code [])
    ∧ (s.taken (.close src ref) .p → refusal = none → s.rpu.settings.panelDelay ≠ 0 →
        s.completes (.close src ref) .p .accepted [] { s with au := { s.au with panel := .running expiry } })
    ∧ (s.taken (.close src ref) .p → refusal = none → s.rpu.settings.panelDelay = 0 →
        (∀ code, s.closeRefusal .p = some code →
          s.completes (.close src ref) .p .accepted [] { s with au := { s.au with panel := .refused code } })
        ∧ (s.closeRefusal .p = none → ∃ t, exec (.close src ref) s = .next t
            ∧ t.answersAt .p = pushAnswer ⟨0x03, ref, .accepted, []⟩ (s.answersAt .p)
            ∧ State.closeFired .p s t ∧ t.au = { s.au with panel := .fired }))
    ∧ (∀ d, s.powered = true → s.au.panel = .running d →
        let at_ := s.reach d
        (∀ code, s.closeRefusal .p = some code →
          s.leads .panelCloseDelayExpiry { at_ with au := { s.au with panel := .refused code } })
        ∧ (s.closeRefusal .p = none → ∃ t, exec .panelCloseDelayExpiry s = .next t
            ∧ State.closeFired .p at_ t ∧ t.au = { s.au with panel := .fired }))

/-- R104, R105: CANCEL ends the port's own pending close, and nothing else; and a selection ends when its expiry time is reached. -/
def Obligations.CancelAndExpiryEndPendingCloses : Prop :=
  ∀ (src : Source) (ref : Byte) (port : Port) (s : State),
    let c := Instr.cancel src ref
    (s.taken c port → port ≠ .p →
      (s.au.selection = none → s.refuses c port .empty [])
      ∧ (∀ x, s.au.selection = some x → x.owner ≠ port → s.refuses c port .selectedElsewhere [])
      ∧ (∀ x, s.au.selection = some x → x.owner = port →
          s.completes c port .done [] { s with au := { s.au with selection := none } }))
    ∧ (s.taken c .p →
      (∀ d, s.au.panel = .running d →
        s.completes c .p .done [] { s with au := { s.au with panel := .cancelled .cancel } })
      ∧ ((∀ d, s.au.panel ≠ .running d) → s.refuses c .p .empty []))
    ∧ (∀ x, s.powered = true → s.au.selection = some x →
        s.leads .selectionExpiry { s.reach x.expiry with au := { s.au with selection := none } })

/-! ### Tags -/

/-- R92, R93, R91, R61, R18, R74: TAG PLACE is refused INVALID (naming the field), DUPLICATE or FULL in that order, and then changes nothing. One
that passes takes the lowest-numbered free slot, which the answer names; the entry joins the end of the order, the selection and a running panel close
delay end, the elements' set follows the HOT_LINE entries, the slot's record is queued or being written, the TAG_TABLE alarm with the whole
table is queued or held, and TAG_CHANGED is raised. A close in flight is cut by a trip of origin TAG and its record written with outcome CUT;
the sequence then takes that trip's start (CLOSING becomes TRIPPING of kind TAG). Without one it moves by its state: READY and RECLAIM to
READY with the counter at 0, RECLOSE_WAIT to LOCKOUT with cause TAG. -/
def Obligations.TagPlaceActsThroughout : Prop :=
  ∀ (src : Source) (ref : Byte) (kind crew : Nat) (note : List Byte) (port : Port) (s : State),
    let c := Instr.tagPlace src ref kind crew note
    let bad := firstFailing
      [kind == 1 || kind == 2, crew != 0, note.length ≤ 24 && note.all fun b => 0x20 ≤ b.toNat && b.toNat ≤ 0x7E]
    let k : TagKind := if kind = 1 then .hotLine else .doNotClose
    let duplicate : Prop := ∃ x ∈ s.au.tags, x.crew = crew ∧ x.kind = k
    s.taken c port →
    (∀ n, bad = some n → s.refuses c port .invalid [BitVec.ofNat 8 n])
    ∧ (bad = none → duplicate → s.refuses c port .duplicate [])
    ∧ (bad = none → ¬ duplicate → (∀ n < 8, ∃ x ∈ s.au.tags, x.slot = n) → s.refuses c port .full [])
    ∧ (∀ slot, bad = none → ¬ duplicate → slot < 8 → (∀ x ∈ s.au.tags, x.slot ≠ slot) →
        (∀ n < slot, ∃ x ∈ s.au.tags, x.slot = n) →
        let entry : Tag := ⟨slot, k, port, crew, s.stamp, note, s.au.placements⟩
        ∃ t, exec c s = .next t ∧ t.newestAnswer port = some ⟨0x07, ref, .done, [BitVec.ofNat 8 slot]⟩
          ∧ t.au = { s.au with
              tags := s.au.tags ++ [entry]
              placements := min 4294967295 (s.au.placements + 1), selection := none, panel := s.au.panel.cancel .tag }
          ∧ t.lmu = s.lmu ∧ t.clock = s.clock ∧ t.powered = true ∧ t.pending = s.pending
          ∧ t.oeb.hotActive = t.au.tags.any (fun x => x.kind == .hotLine)
          ∧ t.ports.cAlerts.sticky &&& Flag.tagChanged.bit ≠ 0 ∧ t.ports.pAlerts.sticky &&& Flag.tagChanged.bit ≠ 0
          ∧ (.tagSlot slot (some entry) ∈ t.nvs.queue ∨ t.nvs.writing = some ⟨.tagSlot slot (some entry), false⟩)
          ∧ (∃ x ∈ t.rpu.qAlarm ++ t.rpu.held, x.kind = .alarm .tagTable
              ∧ x.payload = BitVec.ofNat 8 t.au.tags.length :: t.au.tags.flatMap Tag.brief)
          ∧ ((∀ op, s.mdr.op = some op → op.kind = .trip) → t.mdr = s.mdr ∧
              (t.oeb = if t.oeb.hotActive = s.oeb.hotActive then s.oeb else s.oeb.select t.oeb.hotActive))
          ∧ (∀ op, s.mdr.op = some op → op.kind = .close → ∃ new cut, t.mdr.op = some new ∧ new.kind = .trip ∧ new.origins = [.tag]
              ∧ t.oru.ring.getLast? = some cut ∧ cut.number = op.number ∧ cut.outcome = some .cut
              ∧ (s.sqc.reported = true → (match s.sqc.sequence with
                | .ready | .reclaim _ | .closing _ => t.sqc.sequence = .tripping .tag false ∧ t.sqc.shot = s.sqc.shot
                | .interval _ | .energyWait _ => t.sqc.sequence = .lockout .tag
                | .tripping _ _ | .opened | .lockout _ =>
                  t.sqc = (if t.oeb.hotActive = s.oeb.hotActive then s.sqc else { s.sqc with picked := false }))))
          ∧ ((∀ op, s.mdr.op = some op → op.kind = .trip) → s.sqc.reported = true → (match s.sqc.sequence with
              | .ready | .reclaim _ => t.sqc.sequence = .ready ∧ t.sqc.shot = 0 ∧ t.sqc.afterCommand = false
              | .interval _ | .energyWait _ => t.sqc.sequence = .lockout .tag ∧ t.sqc.afterCommand = s.sqc.afterCommand
              | .tripping _ _ | .closing _ | .opened | .lockout _ =>
                t.sqc = (if t.oeb.hotActive = s.oeb.hotActive then s.sqc else { s.sqc with picked := false }))))

/-- R95, R96, R62, Table 5-3: TAG REMOVE is refused INVALID, EMPTY or AUTHORITY in that order. One that passes takes the entry out and keeps
the others in their order and slots, lets the elements' set follow, queues the slot's record, asks for the TAG_TABLE alarm with the table
as it now stands and raises TAG_CHANGED; the sequence, its counter and its timer stay. A fail-safe entry, of crew 0, leaves by the override
alone, whatever crew number the request names (log 53, DEDUCED). -/
def Obligations.TagRemoveChecksAuthority : Prop :=
  ∀ (src : Source) (ref : Byte) (slot crew : Nat) (port : Port) (s : State),
    let c := Instr.tagRemove src ref slot crew
    s.taken c port →
    (8 ≤ slot → s.refuses c port .invalid [1])
    ∧ (slot < 8 → (∀ x ∈ s.au.tags, x.slot ≠ slot) → s.refuses c port .empty [])
    ∧ (∀ x, slot < 8 → s.au.tags.find? (fun y => y.slot == slot) = some x →
        let mayRemove : Prop := port = .p ∨ (x.origin = port ∧ x.origin ≠ .p)
        let override : Prop := port = .p ∧ s.au.supervisorHeld = true
        (¬ mayRemove ∨ ((x.crew ≠ crew ∨ x.crew = 0) ∧ ¬ override) → s.refuses c port .authority [])
        ∧ (mayRemove → (x.crew = crew ∧ x.crew ≠ 0) ∨ override →
            let left := s.au.tags.filter fun y => y.slot != slot
            let hot := left.any fun y => y.kind == .hotLine
            let u : State := { s with
              au := { s.au with tags := left }
              oeb := if hot = s.oeb.hotActive then s.oeb else s.oeb.select hot
              sqc := if hot = s.oeb.hotActive then s.sqc else { s.sqc with picked := false } }
            s.completes c port .done []
              (((u.place (.tagSlot slot)).alarm .tagTable (BitVec.ofNat 8 left.length :: left.flatMap Tag.brief)).raise .tagChanged)))

/-! ### Settings and small requests -/

/-- R98, R168, R166: RECLOSE BLOCK, TIME SET and READ COUNTERS with a limit, each with its refusals in order. A block of the value held
writes nothing; a new time clears TIME_UNSET, and the millisecond in progress ends where it would have (log 54, DESIGN CHOICE); a new limit
re-judges every pole, and the answer shows the counters after it. The order of the
WEAR_LIMIT payload, limit, three counts and three marks, is the model's (log 45, DESIGN CHOICE). A SETTINGS READ of a copy that is neither
ACTIVE nor STAGED is refused INVALID (read from R173 and R190, log 17, DEDUCED). -/
def Obligations.BlockTimeAndLimitRequests : Prop :=
  ∀ (src : Source) (ref : Byte) (port : Port) (s : State),
    (∀ n, s.taken (.settingsRead src ref n) port → n ≠ 1 → n ≠ 2 → s.refuses (.settingsRead src ref n) port .invalid [1])
    ∧ (∀ value, s.taken (.recloseBlock src ref value) port →
      let c := Instr.recloseBlock src ref value
      let wrongMode : Prop := (port = .l ∧ s.au.mode = .localMode) ∨ (port = .p ∧ s.au.mode = .remoteMode)
      (wrongMode → s.refuses c port .mode [])
      ∧ (¬ wrongMode → value ≠ 1 → value ≠ 2 → s.refuses c port .invalid [1])
      ∧ (∀ on : Bool, ¬ wrongMode → value = (if on then 1 else 2) →
          s.completes c port .done []
            (if s.au.block = on then s else State.place .authority { s with au := { s.au with block := on } })))
    ∧ (∀ seconds millis, s.taken (.timeSet src ref seconds millis) port →
      let c := Instr.timeSet src ref seconds millis
      (1000 ≤ millis → s.refuses c port .invalid [2])
      ∧ (millis < 1000 → seconds < 4294967296 → s.completes c port .done []
          { s with clock := ⟨s.clock.running, BitVec.ofNat 32 seconds, millis, false⟩ }))
    ∧ (∀ limit, s.taken (.readCounters src ref (some limit)) port →
      let c := Instr.readCounters src ref (some limit)
      let k := s.oru.counters
      let above (wear : Nat) : Bool := limit ≠ 0 ∧ limit < wear
      let k' : Counters := { k with limit := limit, marks := ⟨above k.wear.a, above k.wear.b, above k.wear.c⟩ }
      let payload := be 4 limit ++ be 4 k.wear.a ++ be 4 k.wear.b ++ be 4 k.wear.c
        ++ encFlag k'.marks.a ++ encFlag k'.marks.b ++ encFlag k'.marks.c
      let ask (new : Bool) (u : State) : State := if new then u.alarm .wearLimit payload else u
      (port ≠ .c → s.refuses c port .notPermitted [])
      ∧ (port = .c → 4000000000 < limit → s.refuses c port .invalid [1])
      ∧ (port = .c → limit ≤ 4000000000 → s.completes c port .done k'.enc
          (State.place .counters (ask (k'.marks.c && !k.marks.c) (ask (k'.marks.b && !k.marks.b) (ask (k'.marks.a && !k.marks.a)
            { s with oru := { s.oru with counters := k' } }))))))

/-- R41, R42, R43, Table 3-1: SETTINGS WRITE from the L-port in LOCAL is refused MODE, and a field out of its range INVALID, naming the first.
A record that passes becomes the staged copy; in OPEN, in LOCKOUT and in a READY without pickup it becomes active at once, the counter is lowered to the new
N, the record is queued for the store, SETTINGS_ACTIVE raised and the event created. The answer says 1 for STAGED and 2 for ACTIVE, in the
order in which R41 names the two (log 20, DEDUCED). -/
def Obligations.SettingsWriteStagesOrActivates : Prop :=
  ∀ (src : Source) (ref : Byte) (fields : List Nat) (port : Port) (s : State), s.taken (.settingsWrite src ref fields) port →
    let c := Instr.settingsWrite src ref fields
    let f (k : Nat) : Nat := fields.getD (k - 1) 0
    let range (k lo hi : Nat) : Bool := lo ≤ f k ∧ f k ≤ hi
    let bad := firstFailing
      [range 1 10 2000, range 2 5 1000, range 3 1 6, range 4 5 1000, range 5 0 2000, range 6 1 6, range 7 5 1000, range 8 0 2000,
       range 9 1 6, range 10 5 1000, range 11 0 2000, range 12 1 6, range 13 5 1000, range 14 0 2000, range 15 1 4, f 16 ≤ f 15,
       range 17 300 180000, range 18 300 180000, range 19 300 180000, range 20 5000 180000, range 21 1 2, range 22 100 60000,
       f 23 = 0 ∨ range 23 200 20000, range 24 1 4, range 25 0 15, f 26 = 0 ∨ range 26 200 20000, range 27 1 4, range 28 0 15,
       range 29 1 2, range 30 10 2000, range 31 5 1000, range 32 0 500, range 33 5000 120000]
    let curve (k : Nat) : Curve :=
      if f k = 1 then .f1 else if f k = 2 then .d1 else if f k = 3 then .d2 else if f k = 4 then .d3 else if f k = 5 then .u1 else .u2
    let r : Settings :=
      { phasePickup := f 1, groundPickup := f 2
        phaseFast := ⟨curve 3, f 4, f 5⟩, phaseDelayed := ⟨curve 6, f 7, f 8⟩
        groundFast := ⟨curve 9, f 10, f 11⟩, groundDelayed := ⟨curve 12, f 13, f 14⟩
        trips := f 15, fast := f 16, interval1 := f 17, interval2 := f 18, interval3 := f 19, reclaim := f 20
        resetMode := if f 21 = 1 then .instant else .timed, resetTime := f 22
        ip := ⟨f 23, f 24, BitVec.ofNat 4 (f 25)⟩, igi := ⟨f 26, f 27, BitVec.ofNat 4 (f 28)⟩
        coordination := f 29 = 1, hotPhasePickup := f 30, hotGroundPickup := f 31, hotTime := f 32, energyWait := f 33 }
    let quiet : Prop := s.sqc.sequence = .opened ∨ (∃ cause, s.sqc.sequence = .lockout cause)
      ∨ (s.sqc.sequence = .ready ∧ s.sqc.picked = false)
    (port = .l → s.au.mode = .localMode → s.refuses c port .mode [])
    ∧ (¬ (port = .l ∧ s.au.mode = .localMode) →
      (fields.length ≠ 33 → s.refuses c port .invalid [0])
      ∧ (∀ n, fields.length = 33 → bad = some n → s.refuses c port .invalid [BitVec.ofNat 8 n])
      ∧ (fields.length = 33 → bad = none → ¬ quiet →
          s.completes c port .done [1] { s with sqc := { s.sqc with staged := some r } })
      ∧ (fields.length = 33 → bad = none → quiet →
          let shot := min s.sqc.shot r.trips
          let u : State := { s with sqc := { s.sqc with active := r, staged := none, shot := shot } }
          s.completes c port .done [2]
            (((u.place .activeSettings).raise .settingsActive).event .settingsActivated (be 1 r.trips ++ be 1 r.fast ++ be 1 shot))))

/-- R36, R37, R87: CURVE LOAD and MECHANISM SETTINGS name the first field out of its range and change nothing, or replace the curve or the
four settings as a whole and queue the record. -/
def Obligations.CurveAndMechanismRecords : Prop :=
  ∀ (src : Source) (ref : Byte) (port : Port) (s : State),
    (∀ curve points, s.taken (.curveLoad src ref curve points) port →
      let c := Instr.curveLoad src ref curve points
      let m (k : Nat) : Nat := (points.getD k (0, 0)).1
      let t (k : Nat) : Nat := (points.getD k (0, 0)).2
      let point (k : Nat) : List Bool :=
        [if k = 0 then 101 ≤ m 0 else m (k - 1) < m k, 10 ≤ t k && t k ≤ 600000 && (k = 0 || t k ≤ t (k - 1))]
      let bad := firstFailing ((curve == 5 || curve == 6) :: (List.range 8).flatMap point)
      (points.length ≠ 8 → s.refuses c port .invalid [0])
      ∧ (∀ n, points.length = 8 → bad = some n → s.refuses c port .invalid [BitVec.ofNat 8 n])
      ∧ (points.length = 8 → bad = none → curve = 5 →
          s.completes c port .done [] (State.place .userCurve1 { s with oeb := { s.oeb with u1 := points } }))
      ∧ (points.length = 8 → bad = none → curve = 6 →
          s.completes c port .done [] (State.place .userCurve2 { s with oeb := { s.oeb with u2 := points } })))
    ∧ (∀ cap target eTrip eClose, s.taken (.mechanismSettings src ref [cap, target, eTrip, eClose]) port →
      let c := Instr.mechanismSettings src ref [cap, target, eTrip, eClose]
      let bad := firstFailing
        [1000 ≤ cap && cap ≤ 20000, 150000 ≤ target && target ≤ 250000, 5000 ≤ eTrip && eTrip ≤ 100000,
         10000 ≤ eClose && eClose ≤ 200000]
      (∀ n, bad = some n → s.refuses c port .invalid [BitVec.ofNat 8 n])
      ∧ (bad = none → s.completes c port .done []
          (State.place .mechanism { s with mdr := { s.mdr with settings := ⟨cap, target, eTrip, eClose⟩ } })))

/-- R82: MECHANISM FAULT RESET is refused AUTHORITY with the key released. With it held, a set latch is cleared and the record queued, and
the position watches start afresh for poles that read INVALID or mixed with nothing in flight; a latch already clear leaves everything.
The watches wait for the first pole report (R63, R65), as everything at the poles does. -/
def Obligations.FaultResetNeedsTheKey : Prop :=
  ∀ (src : Source) (ref : Byte) (port : Port) (s : State), s.mechanismInv → s.taken (.mechanismFaultReset src ref) port →
    let c := Instr.mechanismFaultReset src ref
    let watching : Bool := s.sqc.reported && s.mdr.op.isNone
    let from_ (b : Bool) : Option Nat := if watching && b then some (s.now + 200000) else none
    port = .p
    ∧ (s.au.supervisorHeld = false → s.refuses c port .authority [])
    ∧ (s.au.supervisorHeld = true → s.mdr.latch = false → s.completes c port .done [] s)
    ∧ (s.au.supervisorHeld = true → s.mdr.latch = true →
        let u : State := State.place .mechanism { s with mdr := { s.mdr with latch := false } }
        s.completes c port .done []
          { u with mdr := { u.mdr with invalidWatch := from_ s.mdr.poles.anyInvalid, mixedWatch := from_ s.mdr.poles.mixed } })

/-- R131, R129, R121: BATTERY SETTINGS names the first bad field, V_abs25 when it is below V_float25. A record that passes replaces the old one
and is queued, the verdict is judged anew, an interval of 0 removes a next attempt that is no power-loss retry, and an interval the days
have reached makes an attempt.
R130: BATTERY REPLACED from the panel needs the key, and waits for a running test. One that passes gives every attribute a fresh start
with its threshold kept, clears the counts, the accumulators, the history and the next attempt, judges the verdict and queues the record.
R129: judging the verdict, as these and every other attribute update do: it is FAILING when a PREFAIL attribute, 1 to 3, is at or below its threshold. GOOD to
FAILING asks for the BATTERY_FAILING alarm with those attributes and raises BATTERY_VERDICT, FAILING to GOOD creates VERDICT_GOOD, and nothing
else changes or is raised.
The attempt that the days already counted make in place of a next one, a power-loss retry among them, is log 28 (DEDUCED), and counting the
next day from BATTERY REPLACED on is log 42 (DEDUCED). -/
def Obligations.BatteryRequestsActAtOnce : Prop :=
  (∀ (src : Source) (ref : Byte) (bulk taper vFloat vAbs interval floor rated t1 t2 t3 t4 t5 t6 t7 t8 : Nat) (port : Port) (s : State),
    let fields := [bulk, taper, vFloat, vAbs, interval, floor, rated, t1, t2, t3, t4, t5, t6, t7, t8]
    let c := Instr.batterySettings src ref fields
    s.taken c port →
    let range (lo hi n : Nat) : Bool := lo ≤ n ∧ n ≤ hi
    let bad := firstFailing
      [range 500 5000 bulk, range 100 1000 taper, range 26000 28000 vFloat, range 27000 29600 vAbs ∧ vFloat ≤ vAbs, range 0 30 interval,
       range 21000 25000 floor, range 5 200 rated, range 0 253 t1, range 0 253 t2, range 0 253 t3, range 0 253 t4, range 0 253 t5,
       range 0 253 t6, range 0 253 t7, range 0 253 t8]
    (∀ n, bad = some n → s.refuses c port .invalid [BitVec.ofNat 8 n])
    ∧ (bad = none →
      let r : BatterySettings := ⟨bulk, taper, vFloat, vAbs, interval, floor, rated, [t1, t2, t3, t4, t5, t6, t7, t8]⟩
      let u := (State.place .battery
        { s with bcu := { s.bcu with stored := { s.bcu.stored with settings := r } } }).judgeVerdict
      s.completes c port .done []
        (if interval = 0 then
          { u with bcu := { u.bcu with nextAttempt :=
              match s.bcu.nextAttempt with
              | some a => if a.retry then some a else none
              | none => none } }
        else if interval ≤ s.bcu.stored.days then u.attempt false
        else u)))
  ∧ (∀ (src : Source) (ref : Byte) (port : Port) (s : State), s.taken (.batteryReplaced src ref) port →
    let c := Instr.batteryReplaced src ref
    let fresh : HealthAttribute := ⟨none, 100, 100⟩
    let noKey : Prop := port = .p ∧ s.au.supervisorHeld = false
    (noKey → s.refuses c port .authority [])
    ∧ (¬ noKey → s.bcu.test ≠ none → s.refuses c port .busy [])
    ∧ (¬ noKey → s.bcu.test = none → s.completes c port .done []
        (State.place .battery (State.judgeVerdict { s with bcu := { s.bcu with
          stored := ⟨s.bcu.stored.settings, ⟨fresh, fresh, fresh, fresh, fresh, fresh, fresh, fresh⟩, [], s.bcu.stored.pending, 0, 0, 0, 0⟩
          floatSum := 0, floatCount := 0, hotCount := 0, nextAttempt := none, nextDay := s.now + 86400000000 } }))))
  ∧ (∀ u : State,
    let below (id : Nat) (a : HealthAttribute) : List (Nat × Nat) :=
      if a.normalized ≤ u.bcu.stored.settings.thresholds.getD (id - 1) 0 then [(id, a.normalized)] else []
    let bad := below 1 u.bcu.stored.attributes.resistance ++ below 2 u.bcu.stored.attributes.loadMargin
      ++ below 3 u.bcu.stored.attributes.failures
    let becomes (failing : Bool) : State := { u with bcu := { u.bcu with failing := failing } }
    ((bad ≠ [] ↔ u.bcu.failing = true) → u.judgeVerdict = u)
    ∧ (bad ≠ [] → u.bcu.failing = false → u.judgeVerdict = ((becomes true).alarm .batteryFailing
        (BitVec.ofNat 8 bad.length :: bad.flatMap fun p => [BitVec.ofNat 8 p.1, BitVec.ofNat 8 p.2])).raise .batteryVerdict)
    ∧ (bad = [] → u.bcu.failing = true → u.judgeVerdict = (becomes false).event .verdictGood []))

/-- R157, R150: LINK SETTINGS names the first field out of its range. A record that passes replaces the old one and is queued, a changed
measurement interval starts or stops the timer, and the standing follows the new warn level. -/
def Obligations.LinkSettingsActAtOnce : Prop :=
  ∀ (src : Source) (ref : Byte) (address mask slot ack most base warn probe interval select delay : Nat) (port : Port) (s : State),
    let c := Instr.linkSettings src ref [address, mask, slot, ack, most, base, warn, probe, interval, select, delay]
    s.taken c port →
    let range (lo hi n : Nat) : Bool := lo ≤ n ∧ n ≤ hi
    let bad := firstFailing
      [range 0 0xFFFE address, range 0 0xFFFF mask, range 0 15 slot, range 1000 10000 ack, range 1 8 most, range 1000 60000 base,
       range 8 160 warn, range 10 600 probe, interval = 0 ∨ range 60 3600 interval, range 2 60 select, range 0 30 delay]
    (∀ n, bad = some n → s.refuses c port .invalid [BitVec.ofNat 8 n])
    ∧ (bad = none →
      let l : LinkSettings :=
        ⟨BitVec.ofNat 16 address, BitVec.ofNat 16 mask, slot, ack, most, base, warn, probe, interval, select, delay⟩
      let timer : Option Nat :=
        if interval = s.rpu.settings.measureInterval then s.rpu.measureTimer
        else if interval = 0 then none else some (s.now + interval * 1000000)
      let u : State := State.place .link { s with rpu := { s.rpu with settings := l, measureTimer := timer } }
      let standing := standingOf warn s.rpu.score
      (standing = s.rpu.standing → s.completes c port .done [] u)
      ∧ (standing ≠ s.rpu.standing → s.completes c port .done [] (State.raise .linkStanding { u with rpu := { u.rpu with
          standing := standing
          qMeasure := if s.rpu.standing = .good then [] else u.rpu.qMeasure
          probe :=
            if standing = .silent then .running (s.now + probe * 1000000)
            else if s.rpu.standing = .silent then .stopped else u.rpu.probe } })))

/-! ### Battery tests -/

/-- R120, R122, R126, R176, Table 6-5: BATTERY TEST is refused NOT_PERMITTED, INVALID, BUSY or CONDITIONS with the first failing condition's
number. One that passes starts the test in REST with the load off, the charger held and the pending mark queued; BACKGROUND is answered ACCEPTED, and an ATTENDED answer is
withheld, with a hold that carries the request's reference. That the reasons of CONDITIONS are numbered by their rows in Table 6-5, so 2 to 7,
is read from R190 (log 19, DEDUCED). -/
def Obligations.BatteryTestStartsOnItsConditions : Prop :=
  ∀ (src : Source) (ref : Byte) (mode : Nat) (port : Port) (s : State), s.taken (.batteryTest src ref mode) port →
    let c := Instr.batteryTest src ref mode
    let floated : Bool := match s.bcu.charger with
      | .float since _ => since + 3600000000 ≤ s.now
      | _ => false
    let resting : Bool := match s.sqc.sequence with
      | .ready | .opened | .lockout _ => true
      | _ => false
    let refusal := firstOf
      [(s.bcu.test.isSome, (Code.busy, ([] : List Byte))), (!s.bcu.acPresent, (.conditions, [2])), (!floated, (.conditions, [3])),
       (s.bcu.tier != .normal, (.conditions, [4])), (s.mdr.rechargeSince.isSome, (.conditions, [5])),
       (s.mdr.estimate < s.mdr.settings.eClose + s.mdr.settings.eTrip, (.conditions, [6])), (!resting, (.conditions, [7]))]
    let started (m : TestMode) (p : Option Port) : State := State.place .battery { s with bcu := { s.bcu with
      test := some ⟨m, p, .rest (s.now + 10000000), 0, none⟩, charger := .testHold, loadOn := false, nextAttempt := none
      stored := { s.bcu.stored with pending := true } } }
    (mode = 1 → port = .l → s.refuses c port .notPermitted [])
    ∧ (mode ≠ 1 → mode ≠ 2 → s.refuses c port .invalid [1])
    ∧ (∀ code body, (mode = 1 ∧ port ≠ .l) ∨ mode = 2 → refusal = some (code, body) → s.refuses c port code body)
    ∧ (mode = 2 → refusal = none → s.completes c port .accepted [] (started .background none))
    ∧ (mode = 1 → port ≠ .l → refusal = none → ∃ t, exec c s = .next t ∧ (∀ q, t.answersAt q = s.answersAt q)
        ∧ (port = .c → t.answersAs s =
            { started .attended (some .c) with ports := { s.ports with cHold := some ref } })
        ∧ (port = .p → t.answersAs s =
            { started .attended (some .p) with ports := { s.ports with pHold := some ref } }))

/-- R125, R127, R126: the announcement of an aborted test: the load off, the test IDLE, the mark clear, the charger in BULK where R114 allows and
in OFF otherwise, the history entry, the write, the event, TEST_DONE, and the withheld answer of an ATTENDED test, whose body is read from
R190 (log 18, DEDUCED). ABORT TEST on any port and the expiry of the suspension timer end a test so; with no test running, ABORT TEST is
answered EMPTY and changes nothing.
R124: a recharge or an operation that starts in REST or LOAD, or that the end of REST finds, suspends the test, for at most 120 s, and
the fourth time ends it with cause INTERRUPTED. A suspended test starts again in REST at the end of the recharge or of the operation that leaves neither. -/
def Obligations.AbortsAndSuspensionsEndTests : Prop :=
  (∀ (s : State) (r : TestRun), s.bcu.test = some r →
    let entryOf (cause : TestCause) (rest : Option Nat) (u : State) : TestEntry :=
      ⟨u.stamp, r.mode, .aborted, some cause, rest, none, none, none⟩
    let mayCharge : Bool := s.bcu.acPresent ∧ s.bcu.thermalHold = false ∧ s.bcu.tier ≠ .disconnect
    let free : Charger := if mayCharge then .bulk else .off
    let ended (cause : TestCause) (rest : Option Nat) (u : State) : State :=
      let idle : State := { u with bcu := { u.bcu with
        test := none, loadOn := false, charger := free
        stored := { u.bcu.stored with pending := false, history := pushRing 8 (entryOf cause rest u) u.bcu.stored.history } } }
      let told := ((idle.place .battery).event .batteryTestResult (entryOf cause rest u).enc).raise .testDone
      let withheld (hold : Byte) : Answer := ⟨0x11, hold, .done, [3, 1, cause.code] ++ encOpt (be 2) rest ++ [0, 0, 0]⟩
      match r.port, u.ports.cHold, u.ports.pHold with
      | some .c, some hold, _ => { told with ports := { told.ports with
          cHold := none, cAnswers := pushAnswer (withheld hold) u.ports.cAnswers } }
      | some .p, _, some hold => { told with ports := { told.ports with
          pHold := none, pAnswers := pushAnswer (withheld hold) u.ports.pAnswers } }
      | _, _, _ => told
    let interrupted (rest : Option Nat) (t : State) : Prop := t.bcu.test = none ∧ t.bcu.loadOn = false ∧ t.bcu.charger = free
      ∧ t.bcu.stored.pending = false ∧ t.bcu.stored.history.getLast? = some (entryOf .interrupted rest t)
      ∧ (∃ x ∈ t.rpu.qEvent, x.kind = .event .batteryTestResult ∧ x.payload = (entryOf .interrupted rest t).enc)
      ∧ t.ports.cAlerts.sticky &&& Flag.testDone.bit ≠ 0 ∧ t.ports.pAlerts.sticky &&& Flag.testDone.bit ≠ 0
    let suspended (t : State) : Prop := t.bcu.loadOn = false ∧ t.bcu.charger = free
      ∧ t.bcu.test = some ⟨r.mode, r.port, .suspended (t.now + 120000000), r.suspensions + 1, none⟩
    let restarts (t : State) : Prop := t.bcu.charger = .testHold ∧ t.bcu.loadOn = s.bcu.loadOn
      ∧ t.bcu.test = some { r with phase := .rest (t.now + 10000000) }
    let holds : Prop := (∃ d, r.phase = .rest d) ∨ ∃ d, r.phase = .load d
    let noWait : Prop := ∀ d, s.sqc.sequence ≠ .energyWait d
    (∀ src ref port, s.taken (.abortTest src ref) port → ∃ t, exec (.abortTest src ref) s = .next t
      ∧ t.answersAs s = (ended .request r.vRest s).answersAs s
      ∧ t.answersAt port = pushAnswer ⟨0x12, ref, .done, []⟩ ((ended .request r.vRest s).answersAt port)
      ∧ ∀ other, other ≠ port → t.answersAt other = (ended .request r.vRest s).answersAt other)
    ∧ (∀ d, s.powered = true → r.phase = .suspended d →
      s.leads .suspensionTimerExpiry (ended .suspensionTimeout r.vRest (s.reach d)))
    ∧ (∀ d v, s.powered = true → r.phase = .rest d → (s.bcu.opInFlight = true ∨ s.bcu.recharging = true) → r.suspensions = 3 →
      s.leads (.restTimerExpiry v) (ended .interrupted (some v) (s.reach d)))
    ∧ (∀ v, s.powered = true → holds → noWait → s.mdr.rechargeSince = none → v + 5000 < s.mdr.settings.target →
      s.bcu.tier ≠ .disconnect → ∃ t, exec (.capacitorMeasurement v) s = .next t
        ∧ (r.suspensions < 3 → suspended t) ∧ (r.suspensions = 3 → interrupted r.vRest t))
    ∧ (∀ d, s.powered = true → holds → s.mdr.op = none → s.au.buttonPressed = false → s.au.buttonStand = some ⟨true, d⟩ →
      ∃ t, exec .tripPushbutton s = .next t
        ∧ (r.suspensions < 3 → suspended t) ∧ (r.suspensions = 3 → interrupted r.vRest t))
    ∧ (∀ v d since, s.powered = true → r.phase = .suspended d → noWait → s.mdr.rechargeSince = some since → s.mdr.settings.target ≤ v →
      ∃ t, exec (.capacitorMeasurement v) s = .next t ∧ (s.bcu.opInFlight = false → restarts t)
        ∧ (s.bcu.opInFlight = true → t.bcu.test = some r ∧ t.bcu.charger = s.bcu.charger))
    ∧ (∀ c d op, s.powered = true → r.phase = .suspended d → s.sqc.reported = true → s.mdr.op = some op → op.kind = .trip →
      (polesOf c).allOpen = true → s.mdr.poles ≠ polesOf c →
      ∃ t, exec (.poleIndicationChange c) s = .next t ∧ (s.bcu.recharging = false → restarts t)
        ∧ (s.bcu.recharging = true → t.bcu.test = some r ∧ t.bcu.charger = s.bcu.charger)))
  ∧ (∀ (src : Source) (ref : Byte) (port : Port) (s : State), s.taken (.abortTest src ref) port → s.bcu.test = none →
    s.refuses (.abortTest src ref) port .empty [])

/-- R122, R123, R124: at the end of REST with nothing in flight and no recharge, V_rest is read and the load connected for 20 s; with either, the test is
suspended. At the end of LOAD the load is off, the test IDLE, the charger in BULK where R114 allows, and the newest history entry carries the
outcome of R123, as the event does.
R128: a PASS sets the count of consecutive FAILs, attribute 3, to 0 and a FAIL adds 1; attribute 6 is updated with 0, and attributes 1 and 2 with
R_int and V_load less the floor, but not when the load did not draw. The normalized values are those of Table 6-6. The verdict follows (R129).
R126: a withheld answer is sent with the result and its hold ends; its body is read from R190 (log 18, DEDUCED). That the day in
progress starts again with the outcome is read from Table 6-4 (log 42, DEDUCED). -/
def Obligations.TestPhasesEndAsTimed : Prop :=
  ∀ (s : State) (r : TestRun) (d v : Nat) (i : Int), s.powered = true → s.bcu.test = some r →
    let setAttribute (raw normalized : Int) (a : HealthAttribute) : HealthAttribute :=
      let n := (max 1 (min 253 normalized)).toNat
      ⟨some raw, n, min a.worst n⟩
    let old := s.bcu.stored.attributes
    let set := s.bcu.stored.settings
    let margin : Int := (v : Int) - set.floor
    let withheld (e : TestEntry) : List Byte :=
      e.outcome.code :: encOpt (fun c => [TestCause.code c]) e.cause ++ encOpt (be 2) e.vRest ++ encOpt (be 2) e.vLoad
        ++ encOpt (be 2) e.iLoad ++ encOpt (be 4) e.rInt
    let mayCharge : Bool := s.bcu.acPresent ∧ s.bcu.thermalHold = false ∧ s.bcu.tier ≠ .disconnect
    (r.phase = .rest d → s.bcu.opInFlight = false → s.bcu.recharging = false →
      s.leads (.restTimerExpiry v) { s.reach d with bcu := { s.bcu with
        test := some { r with vRest := some v, phase := .load ((s.reach d).now + 20000000) }, loadOn := true } })
    ∧ (r.phase = .rest d → (s.bcu.opInFlight = true ∨ s.bcu.recharging = true) → r.suspensions < 3 →
      ∃ t, exec (.restTimerExpiry v) s = .next t ∧ t.bcu.loadOn = false ∧ t.clock = (s.reach d).clock
        ∧ t.bcu.test = some ⟨r.mode, r.port, .suspended ((s.reach d).now + 120000000), r.suspensions + 1, none⟩)
    ∧ (r.phase = .load d → ∃ t entry, exec (.loadTimerExpiry v i) s = .next t ∧ t.bcu.test = none ∧ t.bcu.loadOn = false
        ∧ t.bcu.charger = (if mayCharge then .bulk else .off)
        ∧ t.bcu.stored.pending = false ∧ t.bcu.stored.days = 0 ∧ t.bcu.nextDay = t.now + 86400000000 ∧ t.clock = (s.reach d).clock ∧ t.mdr = s.mdr ∧ t.sqc = s.sqc
        ∧ t.au = s.au ∧ t.lmu = s.lmu ∧ t.oeb = s.oeb ∧ t.oru = s.oru
        ∧ t.ports.cAlerts.sticky &&& Flag.testDone.bit ≠ 0 ∧ t.ports.pAlerts.sticky &&& Flag.testDone.bit ≠ 0
        ∧ t.bcu.stored.history.getLast? = some entry ∧ entry.time = t.stamp ∧ entry.mode = r.mode ∧ entry.vRest = r.vRest
        ∧ entry.vLoad = some v ∧ entry.iLoad = some i.natAbs
        ∧ (∃ x, t.rpu.qEvent.getLast? = some x ∧ x.kind = .event .batteryTestResult ∧ x.payload = entry.enc)
        ∧ (i.natAbs < 1000 → entry.outcome = .fail ∧ entry.cause = some .loadOpen ∧ entry.rInt = none)
        ∧ (1000 ≤ i.natAbs → entry.cause = none ∧ (entry.outcome = .pass ↔ set.floor ≤ v)
            ∧ (entry.outcome = .fail ↔ v < set.floor)
            ∧ (∀ rest, r.vRest = some rest → entry.rInt = some ((rest - v) * 1000 / i.natAbs)))
        ∧ t.bcu.stored.fails = (if entry.outcome = .pass then 0 else min 255 (s.bcu.stored.fails + 1))
        ∧ t.bcu.stored.attributes.failures = setAttribute t.bcu.stored.fails (100 - 30 * t.bcu.stored.fails) old.failures
        ∧ t.bcu.stored.attributes.days = setAttribute 0 100 old.days
        ∧ (∀ rInt, entry.rInt = some rInt →
            t.bcu.stored.attributes.resistance =
              setAttribute rInt (if rInt = 0 then 253 else (100 * set.rated / rInt : Nat)) old.resistance
            ∧ t.bcu.stored.attributes.loadMargin = setAttribute margin (100 + margin / 20) old.loadMargin)
        ∧ (entry.rInt = none → t.bcu.stored.attributes.resistance = old.resistance ∧ t.bcu.stored.attributes.loadMargin = old.loadMargin)
        ∧ t.bcu.stored.attributes.floatCurrent = old.floatCurrent ∧ t.bcu.stored.attributes.deepDischarges = old.deepDischarges
        ∧ t.bcu.stored.attributes.hotHours = old.hotHours ∧ t.bcu.stored.attributes.rechargeTime = old.rechargeTime
        ∧ (t.bcu.failing = true ↔ t.bcu.stored.prefailing ≠ [])
        ∧ (∀ hold, r.port = some .c → s.ports.cHold = some hold → t.ports.cHold = none
            ∧ t.answersAt .c = pushAnswer ⟨0x11, hold, .done, withheld entry⟩ (s.answersAt .c))
        ∧ (∀ hold, r.port = some .p → s.ports.pHold = some hold → t.ports.pHold = none
            ∧ t.answersAt .p = pushAnswer ⟨0x11, hold, .done, withheld entry⟩ (s.answersAt .p)))

/-- R121, R128, R129: a day more is counted and stored, attribute 6 follows, and the interval reached makes an attempt; a due attempt starts
a SCHEDULED test, or keeps the reason and comes again an hour later; a full float window or hot hour updates its attribute and starts again.
That every day increase at or beyond the interval makes an attempt, in place of a pending power-loss retry, is log 28 (DEDUCED), and that a
full window or hour is closed by its own command is log 12 (DEDUCED). What judging the verdict does stands in BatteryRequestsActAtOnce. -/
def Obligations.BatteryCountsAndSchedule : Prop :=
  ∀ s : State, s.powered = true →
    let write (f : BatteryRecord → BatteryRecord) (u : State) : State :=
      State.place .battery (State.judgeVerdict { u with bcu := { u.bcu with stored := f u.bcu.stored } })
    let days := min 65535 (s.bcu.stored.days + 1)
    let hours := min 65535 (s.bcu.stored.hot + 1)
    let mean := s.bcu.floatSum / 86400
    let setAttribute (raw : Nat) (normalized : Int) (a : HealthAttribute) : HealthAttribute :=
      let n := (max 1 (min 253 normalized)).toNat
      ⟨some raw, n, min a.worst n⟩
    let later := write
      (fun b => { b with days := days, attributes := { b.attributes with
        days := setAttribute days (100 - days) b.attributes.days } })
      { s.reach s.bcu.nextDay with bcu := { s.bcu with nextDay := s.bcu.nextDay + 86400000000 } }
    s.leads .dayIncrease
      (if s.bcu.stored.settings.interval ≠ 0 ∧ s.bcu.stored.settings.interval ≤ days then later.attempt false else later)
    ∧ (∀ a, s.bcu.nextAttempt = some a →
      let u := s.reach a.time
      (∀ reason, u.precondition = some reason → s.leads .scheduledTestAttempt { u with bcu := { s.bcu with
        lastReason := some reason, nextAttempt := some ⟨u.now + 3600000000, a.retry⟩ } })
      ∧ (u.precondition = none → s.leads .scheduledTestAttempt (State.place .battery { u with bcu := { s.bcu with
        test := some ⟨.scheduled, none, .rest (u.now + 10000000), 0, none⟩, charger := .testHold, loadOn := false, nextAttempt := none
        stored := { s.bcu.stored with pending := true } } })))
    ∧ (86400 ≤ s.bcu.floatCount → s.leads .floatWindowComplete (write
        (fun b => { b with attributes := { b.attributes with
          floatCurrent := setAttribute mean (253 - (mean / 2 : Nat)) b.attributes.floatCurrent } })
        { s with bcu := { s.bcu with floatSum := 0, floatCount := 0 } }))
    ∧ (3600 ≤ s.bcu.hotCount → s.leads .hotHourComplete (write
        (fun b => { b with hot := hours, attributes := { b.attributes with
          hotHours := setAttribute hours (100 - (hours / 100 : Nat)) b.attributes.hotHours } })
        { s with bcu := { s.bcu with hotCount := 0 } }))

/-! ### Tracker -/

/-- R13, R14, R7: TRACKER SOURCES names the first bad field. A record that passes replaces the old one and is queued. A channel that leaves the list loses
its measured period, with the cycles it came from (log 57, DEDUCED), and its good-since time. A locked source that is still listed
and good stays locked; one that is not is left for the first good listed source, or for HOLDOVER with its 10 s; in NOMINAL the
new nominal frequency sets the period at once, and in NOMINAL and HOLDOVER the first listed source good for 500 ms becomes the locked one,
whichever of several has been good the longest (log 51, DEDUCED), or the state stays. -/
def Obligations.TrackerSourcesActAtOnce : Prop :=
  ∀ (src : Source) (ref : Byte) (sources : List Nat) (freq volts squelch : Nat) (port : Port) (s : State),
    let c := Instr.trackerSources src ref sources freq volts squelch
    s.taken c port →
    let bad := firstFailing
      [1 ≤ sources.length ∧ sources.length ≤ 4 ∧ sources.Nodup ∧ (∀ n ∈ sources, 1 ≤ n ∧ n ≤ 6), freq = 5000 ∨ freq = 6000,
       1000 ≤ volts ∧ volts ≤ 20000, 10 ≤ squelch ∧ squelch ≤ 50]
    let r : TrackerSettings := ⟨sources.map channelOf, freq, volts, squelch⟩
    let leaves (ch : Channel) (v : VoltageChannel) : VoltageChannel :=
      if ch ∈ s.lmu.settings.sources ∧ ch ∉ r.sources then { v with cycles := [], goodSince := none } else v
    let l : Lmu := { s.lmu with
      settings := r
      vaS := leaves .vaS s.lmu.vaS, vbS := leaves .vbS s.lmu.vbS, vcS := leaves .vcS s.lmu.vcS
      vaL := leaves .vaL s.lmu.vaL, vbL := leaves .vbL s.lmu.vbL, vcL := leaves .vcL s.lmu.vcL }
    let done (tracker : Tracker) (period : Nat) : State :=
      State.place .tracker { s with lmu := { l with tracker := tracker, period := period } }
    let told (tracker : Tracker) (source : List Byte) (period : Nat) : State :=
      State.place .tracker (((State.raise .freqState { s with lmu := { l with tracker := tracker, period := period } }).event
        .frequencyState (tracker.code :: source ++ be 2 (roundDiv 100000000 period))))
    let good (d : Channel) : Bool := (l.channel d).good
    let ripe (d : Channel) : Bool := match (l.channel d).goodSince with
      | some since => since + 500000 ≤ s.now
      | none => false
    let held := if s.lmu.tracker = .nominal then roundDiv 100000000 freq else s.lmu.period
    (∀ n, bad = some n → s.refuses c port .invalid [BitVec.ofNat 8 n])
    ∧ (bad = none →
      (∀ d, s.lmu.tracker = .locked d → d ∈ r.sources → good d = true → s.completes c port .done [] (done (.locked d) s.lmu.period))
      ∧ (∀ d e, s.lmu.tracker = .locked d → (d ∉ r.sources ∨ good d = false) → r.sources.find? good = some e →
          s.completes c port .done [] (told (.locked e) [1, channelCode e] (((l.channel e).period).getD s.lmu.period)))
      ∧ (∀ d, s.lmu.tracker = .locked d → (∀ e ∈ r.sources, good e = false) → r.sources.find? ripe = none →
          s.completes c port .done [] (told (.holdover (s.now + 10000000)) [0] s.lmu.period))
      ∧ (s.lmu.tracker = .nominal → r.sources.find? ripe = none →
          s.completes c port .done [] (done .nominal (roundDiv 100000000 freq)))
      ∧ (∀ h, s.lmu.tracker = .holdover h → r.sources.find? ripe = none →
          s.completes c port .done [] (done (.holdover h) s.lmu.period))
      ∧ (∀ e, (∀ d, s.lmu.tracker ≠ .locked d) → r.sources.find? ripe = some e →
          s.completes c port .done [] (told (.locked e) [1, channelCode e] (((l.channel e).period).getD held))))

/-! ### The port engines -/

/-- R172, R170, R171, R192: a frame on the C-port or the P-port that fails its length or its CRC is answered FRAME_ERROR with kind 0x80 and
reference 0; one whose kind is not of the 27, UNKNOWN, and one of a wrong body length, INVALID with field 0, each with its own
reference; a length, count or presence byte inside the body that disagrees with it counts as a wrong length (log 48). Nothing else changes. A
good frame acts as the command it carries (R191; log 33). On the L-port (R155, R194) a request for the own address exactly is answered so, one accepted through the
mask or 0xFFFF is taken unanswered or discarded, and every other frame is discarded. Under RESET_IN a transaction gives the
empty indication. On the P-port an incomplete frame is answered FRAME_ERROR after a gap of more than 20 ms or at a framing error, and a
break discards it unanswered; the L-port answers none of them, nor a REQUEST or an ACK that fails its length or CRC or frames of the types it sends itself. How the engines gather
bytes between events is the model's (log 16), and so is that a framing error or a break ends a partial frame of the L-port while the part
transmits, too (log 61, DESIGN CHOICE). -/
def Obligations.BadFramesAreAnsweredByPort : Prop :=
  ∀ (bytes : List Byte) (s : State), s.powered = true →
    let failsWith (c : Instr) (port : Port) (a : Answer) (u : State) : Prop :=
      ∃ t, exec c s = .next t ∧ t.answersAs s = u ∧ t.answersAt port = pushAnswer a (s.answersAt port)
        ∧ ∀ q, q ≠ port → t.answersAt q = s.answersAt q
    let silent (c : Instr) (u : State) : Prop := ∃ t, exec c s = .next t ∧ t.ports.lPartial = [] ∧ t.supplyAs s = u
    let frameError : Answer := ⟨0, 0, .frameError, []⟩
    let fields := (bytes.drop 3).take (bytes.length - 5)
    let request (src : Source) (fields : List Byte) (c : Instr) : Prop :=
      ∃ (k : RequestKind) (ref : Byte) (body : List Byte), fields = k.code :: ref :: body ∧ k.lengthOk body.length = true
        ∧ k.decode src ref body = some c
    let bad (port : Port) (src : Source) (u : State) : Prop :=
      (frameOk (within 2 300) bytes = false → failsWith (.badFrame port bytes) port frameError u)
      ∧ (∀ kind ref body, frameOk (within 2 300) bytes = true → fields = kind :: ref :: body →
        ((∀ k : RequestKind, k.code ≠ kind) → failsWith (.badFrame port bytes) port ⟨kind, ref, .unknown, []⟩ u)
        ∧ (∀ k : RequestKind, k.code = kind → k.lengthOk body.length = false ∨ k.decode src ref body = none →
            failsWith (.badFrame port bytes) port ⟨kind, ref, .invalid, [0]⟩ u))
      ∧ (∀ c, frameOk (within 2 300) bytes = true → request src fields c → exec (.badFrame port bytes) s = exec c u)
    let incomplete (l : List Byte) : Prop :=
      l.head? = some 0xA5 ∧ (l.length < 3 ∨ l.length < ofBytes ((l.drop 1).take 2) + 5)
    let whole : Prop := bytes.head? = some 0xA5 ∧ 3 ≤ bytes.length ∧ ofBytes ((bytes.drop 1).take 2) + 5 = bytes.length
    let onP (u : State) (kept : List Byte) (last : Nat) : State :=
      { u with ports := { s.ports with pPartial := kept, pLast := last } }
    let onL (u : State) (last : Nat) : State := { u with ports := { s.ports with lLast := last } }
    (s.leads (.badFrame .c []) s)
    ∧ (s.ports.resetIn = true → bytes ≠ [] → s.leads (.badFrame .p bytes) s
        ∧ s.leads (.badFrame .c bytes) { s with ports := { s.ports with miso := .empty } })
    ∧ (∀ rest, bytes = 0x5A :: rest → s.ports.resetIn = false → exec (.badFrame .c bytes) s = exec (.answerRead rest.length) s)
    ∧ (s.ports.resetIn = false → bytes ≠ [] → bytes.head? ≠ some 0x5A → bad .c .c s)
    ∧ (s.ports.resetIn = false → s.ports.pPartial = [] → whole → bad .p .p (onP s [] s.now))
    ∧ (s.ports.resetIn = false → bytes ≠ [] → incomplete (s.ports.pPartial ++ bytes) →
        s.ports.pPartial = [] ∨ s.now ≤ s.ports.pLast + 20000 →
        s.leads (.badFrame .p bytes) (onP s (s.ports.pPartial ++ bytes) s.now)
        ∧ failsWith (.frameGapTimeout .p bytes) .p frameError (onP (s.reach (s.now + 20001)) [] s.now)
        ∧ failsWith (.uartFramingError .p bytes) .p frameError (onP s [] s.now)
        ∧ s.leads (.lineBreak .p bytes) (onP s [] s.now))
    ∧ (s.ports.pPartial ≠ [] →
        failsWith (.frameGapTimeout .p []) .p frameError (onP (s.reach (s.ports.pLast + 20001)) [] s.ports.pLast)
        ∧ failsWith (.uartFramingError .p []) .p frameError (onP s [] s.ports.pLast)
        ∧ s.leads (.lineBreak .p []) (onP s [] s.ports.pLast))
    ∧ (s.rpu.hears = true → s.ports.lPartial = [] → whole →
        (frameOk (within 5 300) bytes = false → (bytes.drop 3).head? = some 0x01 → silent (.badFrame .l bytes) (onL s s.now))
        ∧ ((bytes.drop 3).head? = some 0x02 ∨ (bytes.drop 3).head? = some 0x03 → silent (.badFrame .l bytes) (onL s s.now))
        ∧ (∀ c rest, frameOk (within 5 300) bytes = true → fields = 0x01 :: be 2 s.rpu.settings.address.toNat ++ rest →
            request (.l s.rpu.settings.address) rest c → exec (.badFrame .l bytes) s = exec c (onL s s.now))
        ∧ (∀ kind ref body, frameOk (within 5 300) bytes = true →
            fields = 0x01 :: be 2 s.rpu.settings.address.toNat ++ kind :: ref :: body →
            ((∀ k : RequestKind, k.code ≠ kind) → failsWith (.badFrame .l bytes) .l ⟨kind, ref, .unknown, []⟩ (onL s s.now))
            ∧ (∀ k : RequestKind, k.code = kind →
                k.lengthOk body.length = false ∨ k.decode (.l s.rpu.settings.address) ref body = none →
                failsWith (.badFrame .l bytes) .l ⟨kind, ref, .invalid, [0]⟩ (onL s s.now)))
        ∧ (∀ (station : Word16) rest, frameOk (within 5 300) bytes = true → fields = 0x01 :: be 2 station.toNat ++ rest →
            station ≠ s.rpu.settings.address →
            let accepted : Prop := station = 0xFFFF ∨ (station ^^^ s.rpu.settings.address) &&& s.rpu.settings.mask = 0
            (∀ c, accepted → request (.l station) rest c → exec (.badFrame .l bytes) s = exec c (onL s s.now))
            ∧ (¬ accepted ∨ (∀ c, ¬ request (.l station) rest c) → silent (.badFrame .l bytes) (onL s s.now)))
        ∧ (frameOk (· == 5) bytes = false → (bytes.drop 3).head? = some 0x04 → silent (.badFrame .l bytes) (onL s s.now))
        ∧ (∀ (station : Word16) (number : Nat), frameOk (· == 5) bytes = true → number < 65536 →
            fields = 0x04 :: be 2 station.toNat ++ be 2 number → exec (.badFrame .l bytes) s = exec (.ack station number) (onL s s.now)))
    ∧ (s.rpu.hears = false → s.leads (.badFrame .l bytes) s)
    ∧ (s.rpu.hears = true → s.ports.lPartial = [] → incomplete bytes →
        silent (.frameGapTimeout .l bytes) (onL (s.reach (s.now + 20001)) s.now)
        ∧ silent (.uartFramingError .l bytes) (onL s s.now) ∧ silent (.lineBreak .l bytes) (onL s s.now))
    ∧ (s.ports.lPartial ≠ [] → silent (.frameGapTimeout .l []) (s.reach (s.ports.lLast + 20001)))
    ∧ silent (.uartFramingError .l []) s ∧ silent (.lineBreak .l []) s

/-- R193, R175, R192: an answer-read transaction shifts out 0xFF and then the oldest answer's frame, 0xFF beyond its end; the answer leaves
the list when its last byte has been shifted out. An empty list, or RESET_IN, gives 0xFF and then 0x00s. The P-port sends its oldest answer's frame, and its
transmitter is then busy for ten bit times a byte at 19,200 baud (R197). -/
def Obligations.AnswersAreCollectedInOrder : Prop :=
  ∀ (n : Nat) (s : State), s.powered = true →
    let sent (miso : Miso) (left : List Answer) (t : State) : Prop :=
      exec (.answerRead n) s = .next t ∧ t.ports.cAnswers = left ∧ t.ports.pAnswers = s.ports.pAnswers
        ∧ t.rpu.answers = s.rpu.answers ∧ t.answersAs s = { s with ports := { s.ports with miso := miso } }
    (∀ a rest, s.ports.resetIn = false → s.ports.cAnswers = a :: rest → n < a.frame.length →
      ∃ t, sent (.bytes (0xFF :: a.frame.take n)) (a :: rest) t)
    ∧ (∀ a rest, s.ports.resetIn = false → s.ports.cAnswers = a :: rest → a.frame.length ≤ n →
      ∃ t, sent (.bytes (0xFF :: (a.frame ++ List.replicate (n - a.frame.length) 0xFF))) rest t)
    ∧ (s.ports.resetIn = true ∨ s.ports.cAnswers = [] →
      ∃ t, sent .empty s.ports.cAnswers t)
    ∧ Miso.line (n + 1) .empty = 0xFF :: List.replicate n 0x00
    ∧ (∀ l : List Byte, l.length = n + 1 → Miso.line (n + 1) (.bytes l) = l)
    ∧ (∀ a rest, s.ports.resetIn = false → s.ports.pAnswers = a :: rest →
      let at_ := s.reach s.ports.pFree
      ∃ t, exec .pAnswerSend s = .next t ∧ t.ports.cAnswers = s.ports.cAnswers ∧ t.ports.pAnswers = rest
        ∧ t.rpu.answers = s.rpu.answers
        ∧ t.answersAs s = { at_ with ports := { s.ports with
            pFrame := a.frame, pFree := at_.now + a.frame.length * 10 * 1000000 / 19200 } })

/-- R181, R126, R108: the interface reset clears the parsers, the answer lists, the holds with their answers, the selection, a running panel
close delay and every sticky bit but RESET_SEEN, keeps the masks, and sets the reset cause; the test of a discarded hold goes on as
BACKGROUND. Everything else continues, and the release only lets the ports resume. -/
def Obligations.InterfaceResetClearsThePorts : Prop :=
  ∀ s : State, s.powered = true →
    (s.ports.resetIn = false → ∃ t, exec .resetInAsserted s = .next t
      ∧ t.ports.pPartial = [] ∧ t.ports.lPartial = [] ∧ t.ports.cAnswers = [] ∧ t.ports.pAnswers = [] ∧ t.rpu.answers = []
      ∧ t.ports.cHold = none ∧ t.ports.pHold = none ∧ t.ports.resetCause = .interfaceReset ∧ t.ports.resetIn = true
      ∧ t.ports.cAlerts = ⟨Flag.resetSeen.bit, s.ports.cAlerts.mask⟩ ∧ t.ports.pAlerts = ⟨Flag.resetSeen.bit, s.ports.pAlerts.mask⟩
      ∧ t.ports.miso = s.ports.miso
      ∧ t.au = { s.au with selection := none, panel := s.au.panel.cancel .reset }
      ∧ (∀ r, s.bcu.test = some r → r.mode ≠ .attended → t.bcu = s.bcu)
      ∧ (∀ r, s.bcu.test = some r → r.mode = .attended →
          t.bcu = { s.bcu with test := some { r with mode := .background, port := none } })
      ∧ (s.bcu.test = none → t.bcu = s.bcu)
      ∧ (t.supplyAs s).rpu = { s.rpu with answers := [] }
      ∧ t.clock = s.clock ∧ t.lmu = s.lmu ∧ t.oeb = s.oeb ∧ t.sqc = s.sqc ∧ t.mdr = s.mdr ∧ t.oru = s.oru ∧ t.nvs = s.nvs
      ∧ t.powered = true ∧ t.freeIndex = s.freeIndex ∧ t.pending = s.pending)
    ∧ s.leads .resetInReleased { s with ports := { s.ports with resetIn := false } }

/-- R64: an interface reset has no effect on the SQC. -/
def Obligations.InterfaceResetLeavesTheSequence : Prop :=
  ∀ s t : State, exec .resetInAsserted s = .next t →
    t.sqc.sequence = s.sqc.sequence ∧ t.sqc.shot = s.sqc.shot ∧ t.sqc.afterCommand = s.sqc.afterCommand
      ∧ t.sqc.active = s.sqc.active ∧ t.sqc.staged = s.sqc.staged ∧ t.sqc = s.sqc

/-! ### Power and the store -/

/-- R186, R187, R15, R39, R63, R88, R91, R111, R133, R158, R169, R182, R189: what power-on leaves in each block: the stored content where the
record passes its check, the substitute where it fails, and the start values of each block. The tag table holds the entry of every passing
slot but the later ones of one crew number and kind, and the fail-safe entry in the lowest failing slot when no HOT_LINE entry of crew 0
passes (with TIME_UNSET, log 46, DEDUCED), by placement number and slot; the next record number leaves out those the ring still holds. With contacts that are read at once, the first pole report follows as the
command POLE_INDICATION_CHANGE makes it. The records that fail, with the slots freed as duplicates, are named by one STORE_FAULT alarm (its layout
is log 32, DEDUCED), raised, and written with their substitutes in table order, then the mark is cleared (log 50, DEDUCED); where none fails nothing is
raised. A test cut off is entered as ABORTED by POWER_LOSS and announced; its mode is left open (log 11), and that it comes last is log 59
(DESIGN CHOICE). A value no rule gives is that of log 7; that a latch restored as set asks for an alarm with that payload as well is the model's (log
36, DESIGN CHOICE). The store holds each record once, under its own id (Store.keyed, which every step keeps: StepsKeepRecordsSequenceAndLink). A part
still powered loses power first (log 10). -/
def Obligations.PowerOnRestoresAndStarts : Prop :=
  (∀ s : State, s.powered = false → s.nvs.store.keyed = true →
    let st := s.nvs.store
    let tracker := st.tracker.getD ⟨[.vaS, .vbS, .vcS], 6000, 7200, 20⟩
    let mechanism := st.mechanism.getD ⟨true, ⟨6800, 220000, 30000, 70000⟩⟩
    let battery := st.battery.getD .default
    let link := st.link.getD .default
    let entry (n : Nat) : Option Tag := ((st.slot n).getD none).map fun x => { x with slot := n }
    let failSafe (n : Nat) : Tag := ⟨n, .hotLine, .p, 0, ⟨0, 0, true⟩, [], 0⟩
    let freed (n : Nat) : Bool := (entry n).any fun x => (List.range n).any fun m =>
      (entry m).any fun y => y.crew == x.crew && y.kind == x.kind
    let failed : List RecordId := List.filter
      (fun id => match id with
        | .tagSlot n => (st.slot n).isNone || freed n
        | id => (st.read id).isNone)
      ([.activeSettings, .userCurve1, .userCurve2] ++ (List.range 8).map .tagSlot
        ++ [.authority, .mechanism, .counters, .recordRing, .battery, .link, .tracker, .shutdownMark])
    let crewZero : Bool := (List.range 8).any fun n => (entry n).any fun x => x.kind == .hotLine && x.crew == 0
    let writes (t : State) : List Content := (t.nvs.writing.map Writing.content).toList ++ t.nvs.queue
    let marked (id : RecordId) : Bool :=
      !crewZero && (((List.range 8).find? fun n => (st.slot n).isNone).map RecordId.tagSlot == some id)
    let ring := st.recordRing.getD []
    let past : Nat := match ring.getLast? with
      | some r => (r.number + 1) % 65536
      | none => 0
    let held (next : Nat) : Bool := ring.any fun r => (r.number + 65536 - next) % 65536 < 32
    let still : CurrentChannel := ⟨0, false, List.replicate 32 ⟨0, false⟩⟩
    let idle : Timed := ⟨0, false, 0⟩
    let calm : Instant := ⟨0, false⟩
    let hot : Bool := (List.range 8).any (fun n => (entry n).any fun x => x.kind == .hotLine) || !crewZero && (List.range 8).any fun n => (st.slot n).isNone
    let sticky := Flag.resetSeen.bit ||| (if failed = [] then 0 else Flag.storeFault.bit)
      ||| (if mechanism.latch then Flag.mechFault.bit else 0) ||| (if battery.pending then Flag.testDone.bit else 0)
    (∃ t, exec (.powerOn none) s = .next t ∧ t.powered = true ∧ t.pending = s.pending
      ∧ t.clock = ⟨0, 0, 0, true⟩
      ∧ t.lmu.settings = tracker ∧ t.lmu.tracker = .nominal ∧ t.lmu.period = roundDiv 100000000 tracker.nominalFreq
      ∧ t.lmu.interval = roundDiv (roundDiv 100000000 tracker.nominalFreq) 8 ∧ t.lmu.lastUpdate = 0
      ∧ t.lmu.measuredPeriod = roundDiv 100000000 tracker.nominalFreq ∧ t.lmu.measuredTracker = .nominal
      ∧ (∀ ch, t.lmu.channel ch = ⟨0, false, List.replicate 32 ⟨0, false⟩, none, [], 0, none⟩)
      ∧ t.lmu.ia = still ∧ t.lmu.ib = still ∧ t.lmu.ic = still ∧ t.lmu.ig = still
      ∧ t.oeb = ⟨idle, idle, idle, idle, calm, calm, idle, idle, idle, idle, t.au.tags.any (fun x => x.kind == .hotLine),
          st.userCurve1.getD curveD1, st.userCurve2.getD curveD2⟩
      ∧ t.oeb.hotActive = hot
      ∧ t.sqc = ⟨.opened, 0, false, st.activeSettings.getD .default, none, false, false⟩
      ∧ t.mdr = ⟨⟨.invalid, .invalid, .invalid⟩, none, false, false, mechanism.latch, mechanism.settings, 0, 0, 0, 0, none, .stopped, none, none⟩
      ∧ t.au = { t.au with
          block := st.authority.getD false, mode := .localMode, modeTaken := false, supervisorHeld := false, handlePulled := true
          buttonPressed := true, keyStand := none, supervisorStand := none, handleStand := none, buttonStand := none
          selection := none, panel := .none }
      ∧ t.bcu = { t.bcu with
          v := 0, i := 0, t := 0, measured := false, lastMeasurement := 0, vFloatSet := battery.settings.vFloat
          vAbsSet := battery.settings.vAbs, acQualified := false, acStand := none, floatSum := 0, opInFlight := false
          recharging := false, measuredTier := .normal, measuredCharger := .off, nextDay := 86400000000, lastReason := none
          shutdown := .none }
      ∧ t.bcu.stored.settings = battery.settings ∧ t.bcu.stored.attributes = battery.attributes ∧ t.bcu.stored.pending = false
      ∧ t.bcu.acPresent = false ∧ t.bcu.charger = .off ∧ t.bcu.thermalHold = false ∧ t.bcu.tier = .normal ∧ t.bcu.test = none
      ∧ t.bcu.loadOn = false ∧ t.bcu.disconnectSince = none ∧ t.bcu.floatCount = 0 ∧ t.bcu.hotCount = 0
      ∧ t.bcu.contactorClosed = true ∧ (t.bcu.failing = true ↔ battery.prefailing ≠ [])
      ∧ (battery.pending = false → t.bcu.stored = battery ∧ t.bcu.nextAttempt = none)
      ∧ (battery.pending = true → t.bcu.nextAttempt = some ⟨900000000, true⟩
          ∧ ∃ cut : TestEntry, cut.time = ⟨0, 0, true⟩ ∧ cut.outcome = .aborted ∧ cut.cause = some .powerLoss ∧ cut.vRest = none
            ∧ cut.vLoad = none ∧ cut.iLoad = none ∧ cut.rInt = none
            ∧ t.bcu.stored = { battery with pending := false, history := pushRing 8 cut battery.history }
            ∧ (∃ x ∈ t.rpu.qEvent, x.kind = .event .batteryTestResult ∧ x.payload = cut.enc)
            ∧ t.ports.cAlerts.sticky &&& Flag.testDone.bit ≠ 0 ∧ t.ports.pAlerts.sticky &&& Flag.testDone.bit ≠ 0)
      ∧ (failed = [] → ∀ x ∈ t.rpu.qAlarm, x.kind ≠ .alarm .storeFault)
      ∧ (failed ≠ [] → ∃ x, t.rpu.qAlarm.head? = some x ∧ x.kind = .alarm .storeFault ∧ x.number = 1 ∧ x.classCount = 1
          ∧ x.payload = 0x01 :: BitVec.ofNat 8 failed.length :: failed.flatMap fun id => [id.code, if marked id then 1 else 0])
      ∧ (t.ports.cAlerts.sticky &&& Flag.storeFault.bit ≠ 0 ↔ failed ≠ [])
      ∧ (t.ports.pAlerts.sticky &&& Flag.storeFault.bit ≠ 0 ↔ failed ≠ [])
      ∧ t.nvs.store = st ∧ (∀ w, t.nvs.writing = some w → w.second = false)
      ∧ ((writes t).map Content.id = failed ++ (if st.shutdownMark = some true then [.shutdownMark] else [])
              ++ (if battery.pending then [.battery] else [])
          ∧ ∀ w ∈ writes t, match w with
            | .activeSettings x => x = t.sqc.active
            | .userCurve1 x => x = t.oeb.u1
            | .userCurve2 x => x = t.oeb.u2
            | .tagSlot n x => x = t.au.tags.find? fun y => y.slot == n
            | .authority x => x = t.au.block
            | .mechanism x => x = ⟨t.mdr.latch, t.mdr.settings⟩
            | .counters x => x = t.oru.counters
            | .recordRing x => x = t.oru.ring
            | .battery x => x = t.bcu.stored
            | .link x => x = t.rpu.settings
            | .tracker x => x = t.lmu.settings
            | .shutdownMark x => x = false)
      ∧ t.rpu.settings = link ∧ t.rpu.inFlight = none ∧ t.rpu.held = [] ∧ t.rpu.lost = 0 ∧ t.rpu.score = 0
      ∧ t.rpu.standing = .good ∧ t.rpu.answers = [] ∧ t.rpu.ackTimer = none ∧ t.rpu.probe = .stopped ∧ t.rpu.listen = .stopped
      ∧ t.rpu.channelWait = none ∧ t.rpu.radio = .warming 500000 ∧ t.rpu.holdoff = some ((50 + 20 * link.slot) * 1000)
      ∧ t.rpu.qMeasure = [] ∧ t.rpu.singleTrial = false ∧ t.rpu.tx = none ∧ t.rpu.carrier = false ∧ t.rpu.lastCall = .none
      ∧ (∀ x ∈ t.rpu.qAlarm, x.kind = .alarm .storeFault ∨ (mechanism.latch = true ∧ x.kind = .alarm .mechanismFault))
      ∧ (∀ x ∈ t.rpu.qEvent, x.kind = .event .start ∨ (battery.pending = true ∧ x.kind = .event .batteryTestResult))
      ∧ t.rpu.measureTimer = (if link.measureInterval = 0 then none else some (link.measureInterval * 1000000))
      ∧ (∃ x, t.rpu.qEvent.head? = some x ∧ x.kind = .event .start ∧ x.number = 0 ∧ x.payload = [t.ports.resetCause.code])
      ∧ (mechanism.latch = true → t.ports.cAlerts.sticky &&& Flag.mechFault.bit ≠ 0 ∧ t.ports.pAlerts.sticky &&& Flag.mechFault.bit ≠ 0
          ∧ ∃ x ∈ t.rpu.qAlarm, x.kind = .alarm .mechanismFault)
      ∧ (∀ n x, n < 8 → entry n = some x →
          (x ∈ t.au.tags ↔ ∀ m y, m < n → entry m = some y → ¬ (y.crew = x.crew ∧ y.kind = x.kind)))
      ∧ (∀ n, n < 8 → st.slot n = none → (failSafe n ∈ t.au.tags ↔
          (∀ m, m < n → st.slot m ≠ none) ∧ ∀ m y, m < 8 → entry m = some y → ¬ (y.kind = .hotLine ∧ y.crew = 0)))
      ∧ (∀ x ∈ t.au.tags, x.slot < 8 ∧ (entry x.slot = some x ∨ (st.slot x.slot = none ∧ x = failSafe x.slot)))
      ∧ t.au.tags.Pairwise (fun x y => x.number < y.number ∨ (x.number = y.number ∧ x.slot < y.slot))
      ∧ (t.au.tags = [] → t.au.placements = 0)
      ∧ (t.au.tags ≠ [] → ∃ x ∈ t.au.tags, (∀ y ∈ t.au.tags, y.number ≤ x.number) ∧ t.au.placements = min 4294967295 (x.number + 1))
      ∧ t.oru.ring = ring
      ∧ (∀ k, st.counters = some k → t.oru.counters = { k with next := if held k.next then past else k.next })
      ∧ (st.counters = none → t.oru.counters = ⟨0, 0, 0, ⟨0, 0, 0⟩, 0, ⟨false, false, false⟩, past⟩)
      ∧ (st.shutdownMark = some true →
          .shutdownMark false ∈ t.nvs.queue ∨ t.nvs.writing = some ⟨.shutdownMark false, false⟩)
      ∧ t.ports.cAnswers = [] ∧ t.ports.pAnswers = [] ∧ t.ports.cHold = none ∧ t.ports.pHold = none
      ∧ t.ports.cAlerts.mask = 0xFFFF ∧ t.ports.pAlerts.mask = 0xFFFF
      ∧ t.ports.cAlerts.sticky = sticky ∧ t.ports.pAlerts.sticky = sticky ∧ t.attnC = true ∧ t.attnP = true
      ∧ t.ports.resetIn = false ∧ t.ports.miso = .bytes [] ∧ t.ports.pFrame = [] ∧ t.ports.pFree = 0
      ∧ t.ports.pPartial = [] ∧ t.ports.lPartial = [] ∧ t.ports.pLast = 0 ∧ t.ports.lLast = 0
      ∧ t.freeIndex = (if battery.pending then s.freeIndex + 1 else s.freeIndex)
      ∧ (t.ports.resetCause = .afterDisconnect ↔ st.shutdownMark = some true)
      ∧ (t.ports.resetCause = .powerOn ↔ st.shutdownMark ≠ some true))
    ∧ (∀ contacts, ∃ t u, exec (.powerOn none) s = .next t ∧ exec (.powerOn (some contacts)) s = .next u
        ∧ t.leads (.poleIndicationChange contacts) (u.supplyAs t)))
  ∧ (∀ (s : State) (contacts : Option Contacts), s.powered = true →
      ∃ dark, exec .powerLoss s = .next dark ∧ exec (.powerOn contacts) s = exec (.powerOn contacts) dark)

/-- R185, R183, R190: a write whose read-back passes is in the store and the next entry is taken; one that fails is written again, and one that
fails twice is given up with the STORE_FAULT alarm that names the record (cause 2 and the record's id of R190, in the order of log 32, DEDUCED), and storage holds its old content (but not an old mark that is set,
R188) or a record that fails its check, as the read-back says (log 9). A loss of power leaves the record being written to fail its check,
but for the clearing write of the shutdown mark, which leaves the mark as it was (R189 against R183, log 50), and loses the queue; the rest of the store, the
waiting commands and the contactor stay, and the supply is gone (log 10), whatever stood in the queue, in a shutdown too. A record written whole is read back, a torn one is not, and the others
stay. The next power-on finds the store so (R186): it is answered with the supply present and the store as it was left. -/
def Obligations.StoreWritesCompleteOrFail : Prop :=
  (∀ (s : State) (w : Writing), s.powered = true → s.nvs.writing = some w → s.bcu.shutdown = .none →
    let next (store : Store) (u : State) : State := { u with nvs := match s.nvs.queue with
      | [] => ⟨store, [], none⟩
      | e :: rest => ⟨store, rest, some ⟨e, false⟩⟩ }
    let oldSet : Prop := w.content = .shutdownMark true ∧ s.nvs.store.shutdownMark = some true
    let given (u : State) : State :=
      (u.alarm .storeFault [0x02, w.content.id.code]).raise .storeFault
    (s.leads (.storeWriteComplete .passes) (next (s.nvs.store.put w.content) s))
    ∧ (∀ old, w.second = false → s.leads (.storeWriteComplete (.fails old))
        { s with nvs := { s.nvs with writing := some ⟨w.content, true⟩ } })
    ∧ (w.second = true → ¬ oldSet → s.leads (.storeWriteComplete (.fails true)) (next s.nvs.store (given s)))
    ∧ (w.second = true → oldSet → s.leads (.storeWriteComplete (.fails true)) (next (s.nvs.store.tear w.content) (given s)))
    ∧ (w.second = true → s.leads (.storeWriteComplete (.fails false)) (next (s.nvs.store.tear w.content) (given s)))
    ∧ (∀ (st : Store) (c : Content), (st.put c).read c.id = some c ∧ (st.tear c).read c.id = none
        ∧ ∀ id, id ≠ c.id → (st.put c).read id = st.read id ∧ (st.tear c).read id = st.read id))
  ∧ (∀ s : State,
    (s.powered = false → exec .powerLoss s = .next s)
    ∧ (s.powered = true → ∃ t, exec .powerLoss s = .next t ∧ t.powered = false ∧ t.nvs.queue = [] ∧ t.nvs.writing = none
        ∧ (s.nvs.writing = none → t.nvs.store = s.nvs.store)
        ∧ (∀ w, s.nvs.writing = some w → w.content ≠ .shutdownMark false → t.nvs.store = s.nvs.store.tear w.content)
        ∧ (∀ w, s.nvs.writing = some w → w.content = .shutdownMark false → t.nvs.store = s.nvs.store)
        ∧ t.pending = s.pending ∧ t.bcu.contactorClosed = s.bcu.contactorClosed))
  ∧ (∀ (s : State) (contacts : Option Contacts), s.powered = false → ∃ t, exec (.powerOn contacts) s = .next t
      ∧ t.powered = true ∧ t.nvs.store = s.nvs.store ∧ t.pending = s.pending)

/-- R119, R188: the shutdown waits for the radio and then for the store, each at most its time: once the queue is empty, or the time is over, the queued
entries are discarded and the shutdown mark is written, after the write in progress if there is one; when the mark's write is over, completed or given up, the contactor opens and power is lost, with the mark set only
where it was completed. -/
def Obligations.ShutdownGoesThroughItsSteps : Prop :=
  ∀ s : State, s.powered = true →
    (∀ d, s.bcu.shutdown = .radio d → s.nvs.queue ≠ [] → s.rpu.lastCall ≠ .waiting →
      s.leads .shutdownRadioTimeout
        { s.reach d with bcu := { s.bcu with shutdown := .store ((s.reach d).now + 5000000) } })
    ∧ (∀ d, s.bcu.shutdown = .radio d → s.rpu.lastCall = .waiting → ∃ t, exec .shutdownRadioTimeout s = .next t
        ∧ t.rpu.lastCall = .over ∧ t.rpu.qAlarm = s.rpu.qAlarm ∧ t.mdr = s.mdr ∧ t.sqc = s.sqc
        ∧ (t.bcu.shutdown = .mark ↔ s.nvs.queue = []))
    ∧ (∀ d, s.bcu.shutdown = .store d → s.nvs.writing = none → s.leads .shutdownStoreTimeout
        { s.reach d with
          bcu := { s.bcu with shutdown := .mark }, nvs := ⟨s.nvs.store, [], some ⟨.shutdownMark true, false⟩⟩ })
    ∧ (∀ d w, s.bcu.shutdown = .store d → s.nvs.writing = some w → s.leads .shutdownStoreTimeout
        { s.reach d with
          bcu := { s.bcu with shutdown := .mark }, nvs := ⟨s.nvs.store, [.shutdownMark true], some w⟩ })
    ∧ (∀ d w, s.bcu.shutdown = .store d → s.nvs.writing = some w → s.nvs.queue = [] →
        s.leads (.storeWriteComplete .passes) { s with
          bcu := { s.bcu with shutdown := .mark }
          nvs := ⟨s.nvs.store.put w.content, [], some ⟨.shutdownMark true, false⟩⟩ })
    ∧ (∀ d w last, s.bcu.shutdown = .store d → s.nvs.writing = some w → s.nvs.queue = [last] →
        s.leads (.storeWriteComplete .passes) { s with
          bcu := { s.bcu with shutdown := .mark }
          nvs := ⟨s.nvs.store.put w.content, [.shutdownMark true], some ⟨last, false⟩⟩ })
    ∧ (∀ d w first second rest, s.bcu.shutdown = .store d → s.nvs.writing = some w → s.nvs.queue = first :: second :: rest →
        s.leads (.storeWriteComplete .passes) { s with
          nvs := ⟨s.nvs.store.put w.content, second :: rest, some ⟨first, false⟩⟩ })
    ∧ (∀ w rest, s.bcu.shutdown = .mark → s.nvs.writing = some w → w.content ≠ .shutdownMark true →
        s.nvs.queue = .shutdownMark true :: rest → s.leads (.storeWriteComplete .passes) { s with
          nvs := ⟨s.nvs.store.put w.content, rest, some ⟨.shutdownMark true, false⟩⟩ })
    ∧ (∀ second readBack, s.bcu.shutdown = .mark → s.nvs.writing = some ⟨.shutdownMark true, second⟩ →
        (second = true ∨ readBack = .passes) → ∃ t, exec (.storeWriteComplete readBack) s = .next t
          ∧ t.powered = false ∧ t.bcu.contactorClosed = false ∧ t.pending = s.pending
          ∧ (readBack = .passes → s.nvs.queue = [] → t.nvs.store.shutdownMark = some true)
          ∧ (readBack ≠ .passes → s.nvs.queue = [] → t.nvs.store.shutdownMark ≠ some true))

/-! ### Line measurement and protection -/

/-- R1, R2, R3, R4, R5, R6, R8, R12: what a measurement update makes of its samples: each window holds the last 32 samples, the residual's the sums of
the three phase samples; a magnitude is that of the window's fundamental component, clamped at 20,000 A or 25,000 V (root mean square, found
with waves in billionths; a magnitude that is not whole goes up or down, log 39); a clipped sample in the window forces a phase to 20,000 A and a
voltage to 25,000 V, marks the phase saturated, and marks the residual without forcing it. A channel below the squelch threshold is DEAD at
once, one at or above it LIVE from 500 ms after the start of its qualification; a locked source left good stays locked, and one left bad is
left for the first good listed source, whose measured period comes into force, or for HOLDOVER, which keeps the period. Such a change raises
FREQ_STATE and asks for the FREQUENCY_STATE event with the state, the source and the frequency, before the elements are evaluated; it stands
in Q_EVENT unless what the elements decide fills a crowded pool and evicts it (R12). The next interval comes from the period in force as it begins. The period and the
tracker state the update leaves are kept for the VOLTAGE snapshots (R139, log 43). -/
def Obligations.MeasurementUpdateReadsTheLine : Prop :=
  ∀ (r : Readings) (s : State), s.powered = true →
    let at_ := s.reach (s.lmu.lastUpdate + s.lmu.interval)
    let threshold := s.lmu.settings.squelch * s.lmu.settings.nominalVolts / 100
    let last (x : Samples) (old : List Sample) : List Sample :=
      (old ++ [x.first, x.second, x.third, x.fourth]).drop (old.length + 4 - 32)
    let clipped (window : List Sample) : Prop := ∃ x ∈ window, x.clipped = true
    let squared (window : List Sample) : Nat := (correlate cosines window).natAbs ^ 2 + (correlate sines window).natAbs ^ 2
    let unit : Nat := 512 * 1000 ^ 2 * 1000000000 ^ 2
    let measures (limit value : Nat) (window : List Sample) : Prop :=
      value ≤ limit ∧ (∀ m, m ≤ limit → squared window = m ^ 2 * unit → value = m)
        ∧ (value < limit → squared window < (value + 1) ^ 2 * unit) ∧ (0 < value → (value - 1) ^ 2 * unit < squared window)
    let phase (x : Samples) (before after : CurrentChannel) : Prop :=
      after.window = last x before.window ∧ (after.saturated = true ↔ clipped after.window)
        ∧ (clipped after.window → after.value = 20000) ∧ (¬ clipped after.window → measures 20000 after.value after.window)
    let volts (x : Samples) (before after : VoltageChannel) : Prop :=
      after.window = last x before.window
        ∧ (clipped after.window → after.value = 25000) ∧ (¬ clipped after.window → measures 25000 after.value after.window)
        ∧ (after.value < threshold → after.live = false ∧ after.qualifiedFrom = none)
        ∧ (threshold ≤ after.value → before.live = true → after.live = true)
        ∧ (threshold ≤ after.value → before.live = false → before.qualifiedFrom = none →
            after.live = false ∧ after.qualifiedFrom = some at_.now)
        ∧ (∀ start, threshold ≤ after.value → before.live = false → before.qualifiedFrom = some start →
            (after.live = true ↔ start + 500000 ≤ at_.now))
    ∃ t, exec (.measurementUpdate r) s = .next t
      ∧ phase r.ia s.lmu.ia t.lmu.ia ∧ phase r.ib s.lmu.ib t.lmu.ib ∧ phase r.ic s.lmu.ic t.lmu.ic
      ∧ (∀ (k : Nat) (a b c : Sample), t.lmu.ia.window[k]? = some a → t.lmu.ib.window[k]? = some b → t.lmu.ic.window[k]? = some c →
          ∃ clip, t.lmu.ig.window[k]? = some ⟨a.value + b.value + c.value, clip⟩)
      ∧ t.lmu.ig.window.length = min t.lmu.ia.window.length (min t.lmu.ib.window.length t.lmu.ic.window.length)
      ∧ measures 20000 t.lmu.ig.value t.lmu.ig.window
      ∧ (t.lmu.ig.saturated = true ↔ t.lmu.ia.saturated = true ∨ t.lmu.ib.saturated = true ∨ t.lmu.ic.saturated = true)
      ∧ volts r.vaS s.lmu.vaS t.lmu.vaS ∧ volts r.vbS s.lmu.vbS t.lmu.vbS ∧ volts r.vcS s.lmu.vcS t.lmu.vcS
      ∧ volts r.vaL s.lmu.vaL t.lmu.vaL ∧ volts r.vbL s.lmu.vbL t.lmu.vbL ∧ volts r.vcL s.lmu.vcL t.lmu.vcL
      ∧ (∀ d, s.lmu.tracker = .locked d → (t.lmu.channel d).good = true → d ∈ s.lmu.settings.sources →
          t.lmu.tracker = .locked d ∧ t.lmu.period = s.lmu.period
            ∧ (at_.measureLine r).rpu = s.rpu ∧ (at_.measureLine r).ports = s.ports)
      ∧ (∀ d, s.lmu.tracker = .locked d → (t.lmu.channel d).good = false →
          let next := s.lmu.settings.sources.find? fun e => (t.lmu.channel e).good
          let period := match next with
            | some e => ((t.lmu.channel e).period).getD s.lmu.period
            | none => s.lmu.period
          let payload : List Byte := (match next with
            | some e => [1, 1, channelCode e]
            | none => [2, 0]) ++ be 2 (roundDiv 100000000 period)
          t.lmu.tracker = (match next with
            | some e => .locked e
            | none => .holdover (at_.now + 10000000))
          ∧ t.lmu.period = period
          ∧ t.ports.cAlerts.sticky &&& Flag.freqState.bit ≠ 0 ∧ t.ports.pAlerts.sticky &&& Flag.freqState.bit ≠ 0
          ∧ (at_.measureLine r).rpu = s.rpu.event at_.stamp .frequencyState payload
          ∧ (s.rpu.eventOrMeasureCount < 20 ∨ t.rpu.nextNumber = (s.rpu.nextNumber + 1) % 65536 →
              ∃ x ∈ t.rpu.qEvent, x.kind = .event .frequencyState ∧ x.number = s.rpu.nextNumber ∧ x.created = at_.stamp
                ∧ x.payload = payload))
      ∧ ((∀ d, s.lmu.tracker ≠ .locked d) → t.lmu.tracker = s.lmu.tracker ∧ t.lmu.period = s.lmu.period
          ∧ (at_.measureLine r).rpu = s.rpu ∧ (at_.measureLine r).ports = s.ports)
      ∧ t.clock = at_.clock ∧ t.lmu.lastUpdate = at_.now ∧ t.lmu.interval = roundDiv s.lmu.period 8
      ∧ t.lmu.measuredPeriod = t.lmu.period ∧ t.lmu.measuredTracker = t.lmu.tracker
      ∧ t.lmu.settings = s.lmu.settings ∧ t.bcu.stored.settings = s.bcu.stored.settings ∧ t.powered = true ∧ t.pending = s.pending

/-- R33, R46, R66: an update whose elements reach a decision in READY or RECLAIM, with nothing in flight, starts a PROTECTION trip: the
counter grows by 1, the sequence is TRIPPING with the hot-line mark of the decision, and the operation carries the first element and the currents
of that update. In the states that disregard a decision nothing of the sequence or the mechanism changes.
R60, R56, R42: an update without a decision advances the sequence once when its conditions and those of a dropout notice hold (of several such
notices the first names the element: log 60, DEDUCED): the counter grows by 1, the reclaim timer starts, and the SEQ_ADVANCE record and event
are made; R161: an idle store gets one write of COUNTERS and, after it, one of RECORD_RING (log 58, DEDUCED). Otherwise
the reclaim timer pauses and resumes with the picked-up status, and a staged record becomes active in a READY without pickup. -/
def Obligations.DecisionsTripInReadyAndReclaim : Prop :=
  ∀ (r : Readings) (s : State), s.powered = true →
    let measured := (s.reach (s.lmu.lastUpdate + s.lmu.interval)).measureLine r
    let updated := s.oeb.update s.sqc.active s.sqc.shot s.lmu.interval measured.lmu.currents
    let result := updated.2
    let ready : Prop := s.sqc.sequence = .ready ∨ ∃ timer, s.sqc.sequence = .reclaim timer
    let advances : Prop := s.sqc.active.coordination = true ∧ s.au.tags = [] ∧ ready ∧ s.sqc.shot + 1 ≤ s.sqc.active.fast
      ∧ s.sqc.shot + 1 < s.sqc.active.trips
    let counts (n : Notice) : Bool := 2 ≤ n.run && 50000 ≤ n.progress
    s.sqc.reported = true →
    (result.decision ≠ [] →
      ∃ t, exec (.measurementUpdate r) s = .next t ∧ t.lmu = measured.lmu ∧ t.sqc.picked = result.picked
        ∧ (ready → s.mdr.op = none →
            t.sqc.shot = s.sqc.shot + 1
            ∧ t.sqc.sequence = .tripping .protection (result.decision.any Element.isHotLine)
            ∧ t.mdr.tripDrive = true ∧ t.oeb = updated.1.pulseStart
            ∧ t.mdr.op = some ⟨.trip, [.protection], .pulse, false, measured.now, s.mdr.estimate,
                decide (s.mdr.estimate < s.mdr.settings.eTrip), result.decision.head?, measured.lmu.currents, s.oru.counters.next⟩
            ∧ t.mdr.estimate = s.mdr.estimate - s.mdr.settings.eTrip)
        ∧ (∀ kind mark, s.sqc.sequence = .tripping kind mark →
            t.sqc = { s.sqc with
              sequence := .tripping kind (mark || result.decision.any Element.isHotLine), picked := result.picked }
            ∧ t.mdr = s.mdr)
        ∧ ((s.sqc.sequence = .opened ∨ (∃ k, s.sqc.sequence = .closing k) ∨ (∃ k, s.sqc.sequence = .lockout k)
              ∨ (∃ d, s.sqc.sequence = .interval d) ∨ ∃ d, s.sqc.sequence = .energyWait d) →
            t.sqc = { s.sqc with picked := result.picked } ∧ t.mdr = s.mdr))
    ∧ (∀ n, result.decision = [] → advances → result.notices.find? counts = some n →
      ∃ t made, exec (.measurementUpdate r) s = .next t ∧ t.lmu = measured.lmu ∧ t.mdr = s.mdr ∧ t.oeb = updated.1
        ∧ t.sqc = { s.sqc with
            shot := s.sqc.shot + 1, picked := result.picked
            sequence := .reclaim (if result.picked then .paused (s.sqc.active.reclaim * 1000)
              else .running (measured.now + s.sqc.active.reclaim * 1000)) }
        ∧ t.oru.ring.getLast? = some made ∧ made.kind = .seqAdvance ∧ made.origin = .protection ∧ made.element = some n.element
        ∧ made.shotAfter = s.sqc.shot + 1 ∧ made.number = s.oru.counters.next ∧ made.currents = none
        ∧ (s.nvs.writing = none → s.nvs.queue = [] →
            t.nvs = ⟨s.nvs.store, [.recordRing t.oru.ring], some ⟨.counters t.oru.counters, false⟩⟩)
        ∧ ∃ x ∈ t.rpu.qEvent, x.kind = .event .seqAdvance ∧ x.payload = be 2 made.number)
    ∧ (result.decision = [] → (¬ advances ∨ result.notices.find? counts = none) →
      ∃ t, exec (.measurementUpdate r) s = .next t ∧ t.lmu = measured.lmu ∧ t.mdr = s.mdr ∧ t.oeb = updated.1 ∧ t.oru = s.oru
        ∧ (∀ d, s.sqc.sequence = .reclaim (.running d) → t.sqc = { s.sqc with
            picked := result.picked
            sequence := .reclaim (if result.picked then .paused (d - measured.now) else .running d) })
        ∧ (∀ rest, s.sqc.sequence = .reclaim (.paused rest) → t.sqc = { s.sqc with
            picked := result.picked
            sequence := .reclaim (if result.picked then .paused rest else .running (measured.now + rest)) })
        ∧ (∀ staged, s.sqc.sequence = .ready → result.picked = false → s.sqc.staged = some staged → t.sqc = { s.sqc with
            picked := false, active := staged, staged := none, shot := min s.sqc.shot staged.trips })
        ∧ ((∀ timer, s.sqc.sequence ≠ .reclaim timer) → (s.sqc.sequence = .ready → result.picked = true ∨ s.sqc.staged = none) →
            t.sqc = { s.sqc with picked := result.picked }))

/-- R21, R25, R26, R27, R28, Table 2-5: the multiple of pickup, the operate time, and what one update does to a timed element.
R31, R32: what one update does to an instantaneous element, and when it decides.
R19, R20, R24, R26, R33, R34: at an update each element of the active set is updated with its own current, pickup and operate time, and the
other set is left; the decision names the active elements that reach one, in the order of Table 2-1, and the picked-up status holds when one of them is picked up.
R35: each of PA, PB, PC and PG that drops out sends a notice with its pickup run and its progress before the update; no other element does.
R23: with the multiples of a curve table rising and its times not rising, the curve time is T_1 up to M_1, T_8 from M_8 on, at a
point that point's time, and between two points the interpolated time, which lies between theirs. -/
def Obligations.TimedElementsFollowTheirCurves : Prop :=
  ((∀ amps pickup, pickup ≠ 0 → multiple amps pickup = if 4000 < amps * 100 / pickup then 4000 else amps * 100 / pickup)
  ∧ (∀ t dial adder, 20 ≤ operateTime t dial adder ∧ operateTime t dial adder ≤ 600000
      ∧ (20 ≤ (t * dial + 50) / 100 + adder → (t * dial + 50) / 100 + adder ≤ 600000 →
          operateTime t dial adder = (t * dial + 50) / 100 + adder))
  ∧ (∀ s : Settings, s.hotOperateTime = if 20 < s.hotTime then s.hotTime else 20)
  ∧ ∀ (s : Settings) (dt m tOp : Nat) (e : Timed), tOp ≠ 0 → s.resetTime ≠ 0 →
    let off : Timed :=
      ⟨match s.resetMode with | .instant => 0 | .timed => e.progress - dt * 1000 / s.resetTime, false, 0⟩
    let grown := min 1000000 (e.progress + dt * 1000 / tOp)
    (e.picked = false → 100 ≤ m → e.update s dt m tOp = ⟨grown, true, 1⟩)
    ∧ (e.picked = false → m < 100 → e.update s dt m tOp = off)
    ∧ (e.picked = true → 100 ≤ m → e.update s dt m tOp = ⟨grown, true, min 65535 (e.run + 1)⟩)
    ∧ (e.picked = true → 95 ≤ m → m < 100 → e.update s dt m tOp = ⟨e.progress, true, min 65535 (e.run + 1)⟩)
    ∧ (e.picked = true → m < 95 → e.update s dt m tOp = off))
  ∧ (∀ (s : InstantSettings) (amps nextTrip : Nat) (i : Instant),
    (s.setting = 0 ∨ amps < s.setting → i.update s amps = ⟨0, false⟩)
    ∧ (s.setting ≠ 0 → s.setting ≤ amps → i.update s amps = ⟨min s.count (i.count + 1), true⟩)
    ∧ i.decides s 5 = false
    ∧ (1 ≤ nextTrip → (i.decides s nextTrip = true ↔ i.picked = true ∧ i.count = s.count ∧ s.mask.getLsbD (nextTrip - 1) = true)))
  ∧ (∀ (s : Settings) (shot dt : Nat) (c : Currents) (o : Oeb),
    let r := o.update s shot dt c
    let hot (pickup amps : Nat) (e : Timed) : Timed :=
      { e.update s dt (multiple amps pickup) s.hotOperateTime with run := 0 }
    let timed (pickup amps : Nat) (fast delayed : CurveChoice) (e : Timed) : Timed :=
      let choice := if shot + 1 ≤ s.fast then fast else delayed
      e.update s dt (multiple amps pickup)
        (operateTime (curveTime (o.table choice.curve) (multiple amps pickup)) choice.dial choice.adder)
    let full (e : Timed) : Prop := e.picked = true ∧ e.progress = 1000000
    (o.hotActive = true →
      r.1 = { o with
        ha := hot s.hotPhasePickup c.ia o.ha, hb := hot s.hotPhasePickup c.ib o.hb
        hc := hot s.hotPhasePickup c.ic o.hc, hg := hot s.hotGroundPickup c.ig o.hg }
      ∧ (∀ e, e ∈ r.2.decision ↔ (e = .ha ∧ full r.1.ha) ∨ (e = .hb ∧ full r.1.hb) ∨ (e = .hc ∧ full r.1.hc) ∨ (e = .hg ∧ full r.1.hg))
      ∧ r.2.decision.Sublist [.ha, .hb, .hc, .hg]
      ∧ (r.2.picked = true ↔ r.1.ha.picked = true ∨ r.1.hb.picked = true ∨ r.1.hc.picked = true ∨ r.1.hg.picked = true)
      ∧ r.2.notices = [])
    ∧ (o.hotActive = false →
      r.1 = { o with
        pa := timed s.phasePickup c.ia s.phaseFast s.phaseDelayed o.pa, pb := timed s.phasePickup c.ib s.phaseFast s.phaseDelayed o.pb
        pc := timed s.phasePickup c.ic s.phaseFast s.phaseDelayed o.pc
        pg := timed s.groundPickup c.ig s.groundFast s.groundDelayed o.pg
        ip := o.ip.update s.ip (max c.ia (max c.ib c.ic)), igi := o.igi.update s.igi c.ig }
      ∧ (∀ e, e ∈ r.2.decision ↔ (e = .pa ∧ full r.1.pa) ∨ (e = .pb ∧ full r.1.pb) ∨ (e = .pc ∧ full r.1.pc) ∨ (e = .pg ∧ full r.1.pg)
          ∨ (e = .ip ∧ r.1.ip.decides s.ip (shot + 1) = true) ∨ (e = .igi ∧ r.1.igi.decides s.igi (shot + 1) = true))
      ∧ r.2.decision.Sublist [.pa, .pb, .pc, .pg, .ip, .igi]
      ∧ (∀ n, n ∈ r.2.notices ↔
          (n = ⟨.pa, o.pa.run, o.pa.progress⟩ ∧ o.pa.picked = true ∧ r.1.pa.picked = false)
          ∨ (n = ⟨.pb, o.pb.run, o.pb.progress⟩ ∧ o.pb.picked = true ∧ r.1.pb.picked = false)
          ∨ (n = ⟨.pc, o.pc.run, o.pc.progress⟩ ∧ o.pc.picked = true ∧ r.1.pc.picked = false)
          ∨ (n = ⟨.pg, o.pg.run, o.pg.progress⟩ ∧ o.pg.picked = true ∧ r.1.pg.picked = false))
      ∧ (r.2.notices.map Notice.element).Sublist [.pa, .pb, .pc, .pg]
      ∧ (r.2.picked = true ↔ r.1.pa.picked = true ∨ r.1.pb.picked = true ∨ r.1.pc.picked = true ∨ r.1.pg.picked = true
          ∨ r.1.ip.picked = true ∨ r.1.igi.picked = true)))
  ∧ (∀ (points : List (Nat × Nat)) (m : Nat), points.length = 8 →
    (∀ k, k + 1 < 8 → (points.getD k (0, 0)).1 < (points.getD (k + 1) (0, 0)).1
      ∧ (points.getD (k + 1) (0, 0)).2 ≤ (points.getD k (0, 0)).2) →
    let mAt (k : Nat) : Nat := (points.getD k (0, 0)).1
    let tAt (k : Nat) : Nat := (points.getD k (0, 0)).2
    (m ≤ mAt 0 → curveTime points m = tAt 0)
    ∧ (mAt 7 ≤ m → curveTime points m = tAt 7)
    ∧ (∀ k, k + 1 < 8 → mAt k ≤ m → m < mAt (k + 1) →
        curveTime points m = tAt k - (tAt k - tAt (k + 1)) * (m - mAt k) / (mAt (k + 1) - mAt k)
        ∧ tAt (k + 1) ≤ curveTime points m ∧ curveTime points m ≤ tAt k))

/-! ### The tracker -/

/-- R7, R8, R9, R10, R12: a completed cycle joins the last four and, of the locked source left good, sets the period; 30,000 µs without a crossing
empties the four. A locked source that either leaves no longer good is left for the first good listed source, or for HOLDOVER with its 10 s. In
HOLDOVER and NOMINAL the listed source that is first to be good for 500 ms becomes the locked one, of several at one moment the first
listed; the end of the holdover timer leads to NOMINAL. Every change of state raises FREQ_STATE and creates the event. A cycle longer than
30,000 µs starts the four anew (log 29). -/
def Obligations.TrackerFollowsItsSources : Prop :=
  ∀ (ch : Channel) (length : Nat) (s : State), s.powered = true →
    let told (tracker : Tracker) (source : List Byte) (period : Nat) (u : State) : State :=
      (State.raise .freqState { u with lmu := { u.lmu with tracker := tracker, period := period } }).event
        .frequencyState (tracker.code :: source ++ be 2 (roundDiv 100000000 period))
    let good (v : VoltageChannel) : Prop := v.live = true ∧ v.cycles.length = 4
      ∧ 4000 ≤ roundDiv 100000000 (roundDiv v.cycles.sum 4) ∧ roundDiv 100000000 (roundDiv v.cycles.sum 4) ≤ 7000
    let left (c : Instr) (u : State) : Prop :=
      let next := s.lmu.settings.sources.find? fun d => (u.lmu.channel d).good
      (∀ d, next = some d → s.leads c (told (.locked d) [1, channelCode d] (((u.lmu.channel d).period).getD s.lmu.period) u))
      ∧ (next = none → s.leads c (told (.holdover (u.now + 10000000)) [0] s.lmu.period u))
    let cycled := s.reach ((s.lmu.channel ch).lastCrossing + length)
    let counted : VoltageChannel := { s.lmu.channel ch with
      cycles := if 30000 < length then [] else (length :: (s.lmu.channel ch).cycles).take 4, lastCrossing := cycled.now }
    let lost := s.reach ((s.lmu.channel ch).lastCrossing + 30000)
    let emptied : VoltageChannel := { s.lmu.channel ch with cycles := [], goodSince := none }
    (∃ t, exec (.sourceCycleComplete ch length) s = .next t
      ∧ (t.lmu.channel ch).cycles = counted.cycles
      ∧ (t.lmu.channel ch).live = (s.lmu.channel ch).live
      ∧ (t.lmu.channel ch).lastCrossing = t.now ∧ t.now = max s.now ((s.lmu.channel ch).lastCrossing + length)
      ∧ ((t.lmu.channel ch).goodSince ≠ none ↔ good (t.lmu.channel ch))
      ∧ (s.lmu.tracker = .locked ch → ch ∈ s.lmu.settings.sources → good (t.lmu.channel ch) →
          t.lmu.period = roundDiv (t.lmu.channel ch).cycles.sum 4 ∧ t.lmu.tracker = .locked ch)
      ∧ (∀ d, d ≠ ch → t.lmu.channel d = s.lmu.channel d)
      ∧ t.sqc = s.sqc ∧ t.mdr = s.mdr ∧ t.oeb = s.oeb ∧ t.au = s.au ∧ t.bcu = s.bcu ∧ t.oru = s.oru ∧ t.nvs = s.nvs)
    ∧ (s.lmu.tracker = .locked ch → ¬ good counted →
        left (.sourceCycleComplete ch length) { cycled with lmu := s.lmu.setChannel ch { counted with goodSince := none } })
    ∧ ((s.lmu.channel ch).cycles ≠ [] → ∃ t, exec (.noCrossingTimeout ch) s = .next t
      ∧ t.lmu.channel ch = emptied
      ∧ (∀ d, d ≠ ch → t.lmu.channel d = s.lmu.channel d)
      ∧ t.clock = lost.clock
      ∧ (s.lmu.tracker = .locked ch → t.lmu.tracker ≠ .locked ch)
      ∧ ((∀ d, s.lmu.tracker = .locked d → d ≠ ch ∧ d ∈ s.lmu.settings.sources ∧ good (s.lmu.channel d)) →
          t.lmu.tracker = s.lmu.tracker ∧ t.lmu.period = s.lmu.period))
    ∧ (s.lmu.tracker = .locked ch → (s.lmu.channel ch).cycles ≠ [] →
        left (.noCrossingTimeout ch) { lost with lmu := s.lmu.setChannel ch emptied })
    ∧ (∀ since, (∀ d, s.lmu.tracker ≠ .locked d) →
        (∀ d ∈ s.lmu.settings.sources, ∀ other, (s.lmu.channel d).goodSince = some other → since ≤ other) →
        s.lmu.settings.sources.find? (fun d => (s.lmu.channel d).goodSince == some since) = some ch →
        s.leads .sourceLockQualified
          (told (.locked ch) [1, channelCode ch] (((s.lmu.channel ch).period).getD s.lmu.period) (s.reach (since + 500000))))
    ∧ (∀ d, s.lmu.tracker = .holdover d →
        s.leads .holdoverTimerExpiry
          (told .nominal [0] (roundDiv 100000000 s.lmu.settings.nominalFreq) (s.reach d)))

/-! ### Reports and the radio -/

/-- R135 to R139: a new alarm merges into the object of its identity in Q_ALARM or HELD, or joins Q_ALARM in a free object; a new event joins Q_EVENT with the
lost-before count, which becomes 0, and a snapshot overwrites the queued one of its set or joins Q_MEASURE. With 24 events and snapshots in use, the oldest
snapshot queued, event queued or event held goes first, the first of these that exists, and an event adds to the count.
R146, R150: an ACK that is lost, is not addressed exactly to this station, or names another report than the one in flight changes
nothing. A matched one frees the object, stops the ack timer, lowers the score by 1 or sets it to 150 in SILENT, recomputes the standing, and brings
every held report back to the front of its class queue, in the order of HELD, with its attempts at 0 and no not-before time.
R147, R150, R144: at the ack timeout the report in flight is charged a failed attempt: 8 on the score, with the standing recomputed, one more attempt, and
its disposal: a snapshot or a single-trial report goes to FREE, an alarm merges into an object of its identity in Q_ALARM or HELD, a report
below the maximum attempts goes to the front of its class queue with its not-before time, and any other to the end of HELD. -/
def Obligations.ReportsAreAcknowledgedOrFail : Prop :=
  (∀ (s : State) (id : AlarmId) (kind : EventKind) (set : MeasureSet) (payload : List Byte), s.poolInv →
    let isId (x : Report) : Bool := x.kind == .alarm id
    let isSet (x : Report) : Bool := x.kind == .measure set
    let merge (x : Report) : Report :=
      if isId x then { x with classCount := min 255 (x.classCount + 1), payload := payload } else x
    let overwrite (x : Report) : Report := if isSet x then { x with classCount := 1, payload := s.measured set } else x
    let spare (object : Nat) (r : Rpu) : Prop := object < 48 ∧ ∀ x ∈ r.used, x.object ≠ object
    let fresh (object : Nat) (kind : ReportKind) (payload : List Byte) (classCount : Nat) : Report :=
      ⟨object, kind, s.rpu.nextNumber, s.stamp, s.rpu.nextOrder, payload, 0, none, classCount⟩
    let counted (r : Rpu) : Rpu := { r with nextNumber := (r.nextNumber + 1) % 65536, nextOrder := r.nextOrder + 1 }
    let room (made : Rpu → Prop) : Prop :=
      let gone (x : Report) (l : List Report) : List Report := l.filter fun y => y.object != x.object
      let oldestOf (x : Report) (l : List Report) : Prop := oldest l = some x
      let lost := min 255 (s.rpu.lost + 1)
      (s.rpu.eventOrMeasureCount < 24 → made s.rpu)
      ∧ (24 ≤ s.rpu.eventOrMeasureCount →
        (∀ x, oldestOf x s.rpu.qMeasure → made { s.rpu with qMeasure := gone x s.rpu.qMeasure })
        ∧ (∀ x, s.rpu.qMeasure = [] → oldestOf x s.rpu.qEvent → made { s.rpu with qEvent := gone x s.rpu.qEvent, lost := lost })
        ∧ (∀ x, s.rpu.qMeasure = [] → s.rpu.qEvent = [] → oldestOf x (s.rpu.held.filter fun y => y.kind.isEvent) →
            made { s.rpu with held := gone x s.rpu.held, lost := lost })
        ∧ (s.rpu.qMeasure ≠ [] ∨ s.rpu.qEvent ≠ [] ∨ ∃ x ∈ s.rpu.held, x.kind.isEvent = true))
    (s.rpu.qAlarm.any isId = true → s.alarm id payload = { s with rpu := { s.rpu with qAlarm := s.rpu.qAlarm.map merge } })
    ∧ (s.rpu.qAlarm.any isId = false → s.rpu.held.any isId = true →
        s.alarm id payload = { s with rpu := { s.rpu with held := s.rpu.held.map merge } })
    ∧ (s.rpu.qAlarm.any isId = false → s.rpu.held.any isId = false → ∃ object, spare object s.rpu
        ∧ s.alarm id payload = { s with rpu := { counted s.rpu with qAlarm := s.rpu.qAlarm ++ [fresh object (.alarm id) payload 1] } })
    ∧ room (fun r => ∃ object, spare object r ∧ s.event kind payload = { s with rpu := { counted r with
        qEvent := r.qEvent ++ [fresh object (.event kind) payload r.lost], lost := 0 } })
    ∧ (s.rpu.qMeasure.any isSet = true → s.snapshot set = { s with rpu := { s.rpu with qMeasure := s.rpu.qMeasure.map overwrite } })
    ∧ (s.rpu.qMeasure.any isSet = false → room fun r => ∃ object, spare object r ∧ s.snapshot set = { s with rpu := { counted r with
        qMeasure := r.qMeasure ++ [fresh object (.measure set) (s.measured set) 0] } }))
  ∧ (∀ (l : List Report) (x : Report), (oldest l = some x → x ∈ l ∧ ∀ y ∈ l, x.order ≤ y.order) ∧ (oldest l = none ↔ l = []))
  ∧ (∀ (station : Word16) (number : Nat) (s : State), s.powered = true →
    let score := if s.rpu.standing = .silent then 150 else s.rpu.score - 1
    let standing : Standing := if score < s.rpu.settings.warnLevel then .good else if score < 200 then .weak else .silent
    let back := s.rpu.held.map fun x => { x with attempts := 0, notBefore := none }
    let freed : Rpu := { s.rpu with
      inFlight := none, singleTrial := false, ackTimer := none, score := score, standing := standing
      qAlarm := back.filter (fun x => x.kind.isAlarm) ++ s.rpu.qAlarm
      qEvent := back.filter (fun x => x.kind.isEvent) ++ s.rpu.qEvent, held := [] }
    ((s.rpu.hears = false ∨ station ≠ s.rpu.settings.address ∨ ∀ x, s.rpu.inFlight = some x → x.number ≠ number) →
      s.leads (.ack station number) s)
    ∧ (∀ x, s.rpu.hears = true → station = s.rpu.settings.address → s.rpu.inFlight = some x → x.number = number →
      (standing = s.rpu.standing → s.leads (.ack station number) { s with rpu := freed })
      ∧ (standing ≠ s.rpu.standing → s.leads (.ack station number) (State.raise .linkStanding { s with rpu := { freed with
          qMeasure := if s.rpu.standing = .good then [] else s.rpu.qMeasure
          probe := if standing = .silent then .running (s.now + s.rpu.settings.probeInterval * 1000000)
            else if s.rpu.standing = .silent then .stopped else s.rpu.probe } }))))
  ∧ (∀ (d : Nat) (x : Report) (s : State), s.powered = true → s.rpu.ackTimer = some d → s.rpu.inFlight = some x → s.poolInv →
    let at_ := s.reach d
    let score := min 255 (s.rpu.score + 8)
    let standing : Standing := if score < s.rpu.settings.warnLevel then .good else if score < 200 then .weak else .silent
    let charged : State := { at_ with rpu := { s.rpu with
      inFlight := none, singleTrial := false, ackTimer := none, score := score } }
    let restood : State := if standing = s.rpu.standing then charged
      else State.raise .linkStanding { charged with rpu := { charged.rpu with
        standing := standing, qMeasure := if s.rpu.standing = .good then [] else s.rpu.qMeasure
        probe := if standing = .silent then .running (at_.now + s.rpu.settings.probeInterval * 1000000)
          else if s.rpu.standing = .silent then .stopped else s.rpu.probe } }
    let tries := min 8 (x.attempts + 1)
    let again : Report := { x with
      attempts := tries, notBefore := some (at_.now + min (s.rpu.settings.retryBase * 2 ^ (tries - 1)) 120000 * 1000) }
    let merge (y : Report) : Report :=
      if y.kind = x.kind then { y with classCount := min 255 (y.classCount + x.classCount) } else y
    let queuedToo : Bool := s.rpu.qAlarm.any fun y => y.kind == x.kind
    let heldToo : Bool := s.rpu.held.any fun y => y.kind == x.kind
    (s.rpu.singleTrial = true ∨ x.kind.isMeasure = true → s.leads .ackTimeout restood)
    ∧ (s.rpu.singleTrial = false → x.kind.isAlarm = true → queuedToo = true →
        s.leads .ackTimeout { restood with rpu := { restood.rpu with qAlarm := s.rpu.qAlarm.map merge } })
    ∧ (s.rpu.singleTrial = false → x.kind.isAlarm = true → queuedToo = false → heldToo = true →
        s.leads .ackTimeout { restood with rpu := { restood.rpu with held := s.rpu.held.map merge } })
    ∧ (s.rpu.singleTrial = false → x.kind.isAlarm = true → queuedToo = false → heldToo = false → tries < s.rpu.settings.maxAttempts →
        s.leads .ackTimeout { restood with rpu := { restood.rpu with qAlarm := again :: s.rpu.qAlarm } })
    ∧ (s.rpu.singleTrial = false → x.kind.isEvent = true → tries < s.rpu.settings.maxAttempts →
        s.leads .ackTimeout { restood with rpu := { restood.rpu with qEvent := again :: s.rpu.qEvent } })
    ∧ (s.rpu.singleTrial = false → x.kind.isMeasure = false → (x.kind.isAlarm = true → queuedToo = false ∧ heldToo = false) →
        s.rpu.settings.maxAttempts ≤ tries →
        s.leads .ackTimeout { restood with rpu := { restood.rpu with held := s.rpu.held ++ [{ x with attempts := tries }] } }))

/-- R141, R143, R145, R151: with the supply on, the channel clear past the holdoff and no frame being sent, the transmitter takes the oldest answer;
with none and nothing in flight, the first eligible alarm, or with none the first eligible event, and in SILENT, the probe timer
expired, the oldest alarm queued or held. A report leaves its queue and is in flight, and the channel is taken for ten bits a byte at 9,600 baud.
With no eligible alarm and event it takes the first snapshot; in CRITICAL it takes answers, alarms and the probe alone. In DISCONNECT the BATTERY_DISCONNECT
alarm asked for is sent, as a single trial, from HELD too, where a channel wait may have put it (log 38, DEDUCED).
R145, R154, R144: a frame ends at its time and transmit-enable with it; a report's ack timer starts. At the end of the BATTERY_DISCONNECT
frame the shutdown waits for the store. When the channel wait is over, the oldest answer is discarded; with no answer, the report or probe that
would be sent is charged as at an ack timeout (R147), the one of DISCONNECT too, and a probe starts the probe timer again. -/
def Obligations.FramesStartAndEnd : Prop :=
  (∀ (h : Nat) (s : State), s.powered = true → s.poolInv → s.rpu.tx = none → s.rpu.carrier = false → s.rpu.radio = .on →
    s.rpu.holdoff = some h → s.bcu.tier ≠ .disconnect →
    let at_ := s.reach h
    let sent (item : TxItem) (bytes : List Byte) (r : Rpu) : State :=
      { at_ with rpu := { r with tx := some ⟨item, bytes, at_.now + bytes.length * 10 * 1000000 / 9600⟩ } }
    let eligible (x : Report) : Bool := x.notBefore.all fun t => t ≤ at_.now
    let flown (x : Report) : Rpu := { s.rpu with inFlight := some x, singleTrial := false }
    let frameOf (x : Report) : List Byte := x.radioFrame s.rpu.settings.address
    (∀ a rest, s.rpu.answers = a :: rest → s.leads .transmitFrameStart
        (sent .answer (a.radioFrame s.rpu.settings.address) { s.rpu with answers := rest }))
    ∧ (∀ x, s.rpu.answers = [] → s.rpu.inFlight = none → s.rpu.standing ≠ .silent → s.rpu.qAlarm.find? eligible = some x →
        s.leads .transmitFrameStart
          (sent (.report x.object false) (frameOf x) { flown x with qAlarm := without x s.rpu.qAlarm }))
    ∧ (∀ x, s.rpu.answers = [] → s.rpu.inFlight = none → s.rpu.standing ≠ .silent → s.rpu.qAlarm.find? eligible = none →
        s.bcu.tier ≠ .critical → s.rpu.qEvent.find? eligible = some x →
        s.leads .transmitFrameStart
          (sent (.report x.object false) (frameOf x) { flown x with qEvent := without x s.rpu.qEvent }))
    ∧ (∀ x, s.rpu.answers = [] → s.rpu.inFlight = none → s.rpu.standing ≠ .silent → s.rpu.qAlarm.find? eligible = none →
        s.bcu.tier ≠ .critical → s.rpu.qEvent.find? eligible = none → s.rpu.qMeasure.find? eligible = some x →
        s.leads .transmitFrameStart
          (sent (.report x.object false) (frameOf x) { flown x with qMeasure := without x s.rpu.qMeasure }))
    ∧ (s.rpu.answers = [] → s.rpu.inFlight = none → s.rpu.standing ≠ .silent → s.rpu.qAlarm.find? eligible = none →
        s.bcu.tier = .critical ∨ (s.rpu.qEvent.find? eligible = none ∧ s.rpu.qMeasure.find? eligible = none) →
        s.leads .transmitFrameStart s)
    ∧ (s.rpu.answers = [] → s.rpu.inFlight ≠ none → s.leads .transmitFrameStart s)
    ∧ (∀ x, s.rpu.answers = [] → s.rpu.inFlight = none → s.rpu.standing = .silent → s.rpu.probe = .expired →
        oldest ((s.rpu.qAlarm ++ s.rpu.held).filter fun y => y.kind.isAlarm) = some x →
        s.leads .transmitFrameStart
          (sent (.report x.object false) (frameOf x) { flown x with
            qAlarm := without x s.rpu.qAlarm, held := without x s.rpu.held
            probe := .running (at_.now + s.rpu.settings.probeInterval * 1000000) })))
  ∧ (∀ (h : Nat) (x : Report) (s : State), s.powered = true → s.poolInv → s.rpu.tx = none → s.rpu.carrier = false → s.rpu.radio = .on →
    s.rpu.holdoff = some h → s.bcu.tier = .disconnect → s.rpu.lastCall = .waiting → s.rpu.inFlight = none →
    x ∈ s.rpu.qAlarm ++ s.rpu.held → x.kind = .alarm .batteryDisconnect →
    let at_ := s.reach h
    let bytes := x.radioFrame s.rpu.settings.address
    s.leads .transmitFrameStart { at_ with rpu := { s.rpu with
      qAlarm := without x s.rpu.qAlarm, held := without x s.rpu.held, inFlight := some x, singleTrial := true, lastCall := .sending
      tx := some ⟨.report x.object true, bytes, at_.now + bytes.length * 10 * 1000000 / 9600⟩ } })
  ∧ (∀ (d : Nat) (x : Report) (s : State), s.powered = true → s.poolInv → s.rpu.channelWait = some d →
    s.rpu.inFlight = none → s.rpu.singleTrial = false → s.rpu.ackTimer = none →
    let at_ := s.reach d
    let eligible (y : Report) : Bool := y.notBefore.all fun t => t ≤ at_.now
    let asFlown : State := { s with rpu := { s.rpu with
      qAlarm := without x s.rpu.qAlarm, qEvent := without x s.rpu.qEvent, qMeasure := without x s.rpu.qMeasure
      held := without x s.rpu.held, inFlight := some x, ackTimer := some d } }
    (s.rpu.answers = [] → s.bcu.tier ≠ .disconnect → s.rpu.standing ≠ .silent →
      s.rpu.qAlarm.find? eligible = some x
        ∨ (s.bcu.tier ≠ .critical ∧ s.rpu.qAlarm.find? eligible = none
          ∧ (s.rpu.qEvent.find? eligible = some x ∨ (s.rpu.qEvent.find? eligible = none ∧ s.rpu.qMeasure.find? eligible = some x))) →
      ∃ t u, exec .channelWaitTimeout s = .next t ∧ exec .ackTimeout asFlown = .next u ∧ t.supplyAs s = u.supplyAs s)
    ∧ (s.bcu.tier = .disconnect → s.rpu.lastCall = .waiting → x ∈ s.rpu.qAlarm ++ s.rpu.held → x.kind = .alarm .batteryDisconnect →
      ∃ t u, exec .channelWaitTimeout s = .next t ∧ exec .ackTimeout asFlown = .next u ∧ t.supplyAs s = u.supplyAs s)
    ∧ (s.rpu.answers = [] → s.bcu.tier ≠ .disconnect → s.rpu.standing = .silent → s.rpu.probe = .expired →
      oldest ((s.rpu.qAlarm ++ s.rpu.held).filter fun y => y.kind.isAlarm) = some x →
      ∃ t u, exec .channelWaitTimeout s = .next t ∧ exec .ackTimeout asFlown = .next u
        ∧ t.supplyAs s = { u.supplyAs s with rpu := { (u.supplyAs s).rpu with
            probe := .running (at_.now + s.rpu.settings.probeInterval * 1000000) } }))
  ∧ (∀ (bytes : List Byte) (ends d : Nat) (s : State), s.powered = true →
    let ended : State := { s.reach ends with rpu := { s.rpu with tx := none } }
    (s.rpu.tx = some ⟨.answer, bytes, ends⟩ → s.leads .frameEnd ended)
    ∧ (∀ x, s.rpu.tx = some ⟨.report x.object false, bytes, ends⟩ → s.rpu.inFlight = some x → s.leads .frameEnd
        { ended with rpu := { ended.rpu with ackTimer := some (ended.now + s.rpu.settings.ackTimeout * 1000) } })
    ∧ (∀ x limit, s.rpu.tx = some ⟨.report x.object true, bytes, ends⟩ → s.rpu.inFlight = some x →
        s.bcu.shutdown = .radio limit → s.nvs.queue ≠ [] → s.leads .frameEnd { ended with
          rpu := { ended.rpu with ackTimer := some (ended.now + s.rpu.settings.ackTimeout * 1000), lastCall := .over }
          bcu := { s.bcu with shutdown := .store (ended.now + 5000000) } })
    ∧ (∀ a rest, s.rpu.channelWait = some d → s.bcu.tier ≠ .disconnect → s.rpu.answers = a :: rest →
        s.leads .channelWaitTimeout { s.reach d with rpu := { s.rpu with answers := rest } }))

/-- R139, R140, R151, R152, R143, R153, R147: the RPU's timers. The measurement timer starts again, with the snapshots where the standing is GOOD and the
tier NORMAL: the four sets of Table 7-5, with the values of the last measurement update, battery measurement and capacitor measurement (log 43, DEDUCED),
each with its time; the probe timer expires; the warm-up ends; carrier-detect stops the holdoff and its end starts it; a listen window opens for 2 s every 60 s and closes;
a not-before time passes. -/
def Obligations.RadioTimersRun : Prop :=
  ∀ (d e : Nat) (active : Bool) (number : Nat) (s : State), s.powered = true →
    let current (c : CurrentChannel) : List Byte := be 2 c.value ++ [if c.saturated then 1 else 0]
    let voltage (v : VoltageChannel) : List Byte := be 2 v.value ++ [if v.live then 1 else 2]
    (s.rpu.measureTimer = some d → ∃ t, exec .measurementTimerExpiry s = .next t ∧ t.clock = (s.reach d).clock
      ∧ t.rpu.measureTimer = some (t.now + s.rpu.settings.measureInterval * 1000000)
      ∧ t.rpu.qAlarm = s.rpu.qAlarm ∧ t.rpu.inFlight = s.rpu.inFlight ∧ t.rpu.score = s.rpu.score
      ∧ (∀ x ∈ t.rpu.held, x ∈ s.rpu.held)
      ∧ t.mdr = s.mdr ∧ t.sqc = s.sqc ∧ t.au = s.au ∧ t.bcu = s.bcu ∧ t.oru = s.oru ∧ t.nvs = s.nvs ∧ (t.supplyAs s).ports = s.ports
      ∧ (s.rpu.standing ≠ .good ∨ s.bcu.tier ≠ .normal →
          t.rpu.qMeasure = s.rpu.qMeasure ∧ t.rpu.qEvent = s.rpu.qEvent ∧ t.rpu.nextNumber = s.rpu.nextNumber)
      ∧ (s.rpu.standing = .good → s.bcu.tier = .normal → s.rpu.qMeasure = [] → s.rpu.eventOrMeasureCount ≤ 20 →
          t.rpu.qMeasure.map Report.kind = [.measure .load, .measure .voltage, .measure .battery, .measure .energy]
          ∧ t.rpu.qMeasure.map Report.payload =
              [current s.lmu.ia ++ current s.lmu.ib ++ current s.lmu.ic ++ current s.lmu.ig ++ t.stamp.enc,
               voltage s.lmu.vaS ++ voltage s.lmu.vbS ++ voltage s.lmu.vcS ++ voltage s.lmu.vaL ++ voltage s.lmu.vbL ++ voltage s.lmu.vcL
                 ++ be 2 (roundDiv 100000000 s.lmu.measuredPeriod) ++ [s.lmu.measuredTracker.code] ++ t.stamp.enc,
               be 2 s.bcu.v ++ beInt 4 s.bcu.i ++ beInt 2 s.bcu.t ++ [s.bcu.measuredTier.code, s.bcu.measuredCharger.code]
                 ++ t.stamp.enc,
               be 4 s.mdr.vcap ++ be 4 s.mdr.measuredEstimate ++ t.stamp.enc]
          ∧ t.rpu.qMeasure.map Report.created = [t.stamp, t.stamp, t.stamp, t.stamp]
          ∧ t.rpu.qEvent = s.rpu.qEvent ∧ t.rpu.nextNumber = (s.rpu.nextNumber + 4) % 65536))
    ∧ (s.rpu.probe = .running d → s.leads .probeTimerExpiry { s.reach d with rpu := { s.rpu with probe := .expired } })
    ∧ (s.rpu.radio = .warming d → s.bcu.tier = .normal ∨ s.bcu.tier = .low → ∃ t, exec .radioWarmupEnd s = .next t
        ∧ t.rpu.radio = .on ∧ t.supplyAs s = s.reach d)
    ∧ (s.leads (.carrierDetectChange active) { s with rpu := { s.rpu with carrier := active } })
    ∧ (∀ t, s.rpu.radio = .on → s.bcu.tier = .normal ∨ s.bcu.tier = .low → active ≠ s.rpu.carrier →
        exec (.carrierDetectChange active) s = .next t →
        t.rpu.radio = .on
        ∧ t.rpu.holdoff = if active then none else some (s.now + (50 + 20 * s.rpu.settings.slot) * 1000))
    ∧ (s.rpu.listen = .waiting d → s.leads .listenWindowOpen
        { s.reach d with rpu := { s.rpu with listen := .opened (d + 2000000) (d + 60000000) } })
    ∧ (s.rpu.listen = .opened d e → s.leads .listenWindowClose { s.reach d with rpu := { s.rpu with listen := .waiting e } })
    ∧ (∀ x, s.rpu.qAlarm = [x] → x.number = number → x.notBefore = some d →
        s.leads (.notBeforeTimeReached number) (s.reach d))

/-- R152: after every command, the radio supply is on when the tier asks for it, and off when it does not and no frame is
being sent; a supply that the judgement after a command turns on starts its warm-up of 500 ms. The frame being received on the L-port is lost with
the supply off; with it on, it stays through every command but those that carry bytes or end a frame, a reset and a power-on. That an interface
reset in CRITICAL, which empties the answer queue, is judged so too, although R158 has the supply continue as it was, is log 44 (DEDUCED).
R143: the holdoff is absent with the supply off and starts as the supply comes on with carrier-detect inactive; with the supply on only a change
of carrier-detect moves it.
R144: after every command the channel wait runs exactly when the warm-up is over, no frame is being sent and the choice of R141 would take an
item: a wait that runs goes on, and one that starts, or starts again at its own end, ends 10 s later. A command that carries bytes acts as each
of the frames it completes, so for it the two moments are stated of the state it leaves alone. -/
def Obligations.RadioSupplyFollowsTheTier : Prop :=
  ∀ (c : Instr) (s t : State), exec c s = .next t → s.powered = true → t.powered = true →
    let critical : Bool := t.rpu.inFlight.isSome || !t.rpu.answers.isEmpty
      || (match t.rpu.listen with | .opened _ _ => true | _ => false)
      || (t.rpu.standing != .silent && t.rpu.qAlarm.any fun x => x.notBefore.all fun d => d ≤ t.now)
      || (t.rpu.standing == .silent && t.rpu.probe == .expired && (t.rpu.qAlarm ++ t.rpu.held).any fun x => x.kind.isAlarm)
    let wanted : Bool := match t.bcu.tier with
      | .normal | .low => true
      | .critical => critical
      | .disconnect => t.rpu.lastCall == .waiting || t.rpu.lastCall == .sending
    let due (x : Report) : Bool := x.notBefore.all fun d => d ≤ t.now
    let reports : Bool :=
      if t.rpu.standing = .silent then t.rpu.probe == .expired && (t.rpu.qAlarm ++ t.rpu.held).any fun x => x.kind.isAlarm
      else t.rpu.qAlarm.any due || (t.bcu.tier != .critical && (t.rpu.qEvent.any due || t.rpu.qMeasure.any due))
    let toSend : Bool := match t.bcu.tier with
      | .disconnect => t.rpu.lastCall == .waiting && (t.rpu.qAlarm ++ t.rpu.held).any fun x => x.kind == .alarm .batteryDisconnect
      | _ => !t.rpu.answers.isEmpty || (t.rpu.inFlight.isNone && reports)
    let waits : Prop := t.rpu.radio = .on ∧ t.rpu.tx = none ∧ toSend = true
    let holdoff : Option Nat := if t.rpu.carrier then none else some (t.now + (50 + 20 * t.rpu.settings.slot) * 1000)
    let receives : Prop := ∃ (port : Port) (stream : UartPort) (bytes : List Byte) (contacts : Option Contacts),
      c = .badFrame port bytes ∨ c = .frameGapTimeout stream bytes ∨ c = .uartFramingError stream bytes ∨ c = .lineBreak stream bytes
        ∨ c = .powerOn contacts
    (t.rpu.radio = .off → t.ports.lPartial = [] ∧ t.rpu.holdoff = none)
    ∧ (¬ receives → c ≠ .resetInAsserted → t.rpu.radio ≠ .off → t.ports.lPartial = s.ports.lPartial)
    ∧ (wanted = true → t.rpu.radio ≠ .off)
    ∧ (wanted = false → t.rpu.tx = none → t.rpu.radio = .off)
    ∧ (¬ receives → s.rpu.radio = .off → t.rpu.radio ≠ .off → t.rpu.radio = .warming (t.now + 500000) ∧ t.rpu.holdoff = holdoff)
    ∧ (¬ receives → s.rpu.radio ≠ .off → t.rpu.radio ≠ .off →
        (c ≠ .radioWarmupEnd → c ≠ .transmitFrameStart → t.rpu.radio = s.rpu.radio)
        ∧ ((∀ active, c ≠ .carrierDetectChange active) → t.rpu.holdoff = s.rpu.holdoff)
        ∧ (∀ active, c = .carrierDetectChange active →
            t.rpu.holdoff = if active = s.rpu.carrier then s.rpu.holdoff else holdoff))
    ∧ (¬ waits → t.rpu.channelWait = none)
    ∧ (waits → t.rpu.channelWait ≠ none)
    ∧ (¬ receives → waits →
        (∀ d, c ≠ .channelWaitTimeout → s.rpu.channelWait = some d → t.rpu.channelWait = some d)
        ∧ (s.rpu.channelWait = none ∨ c = .channelWaitTimeout → t.rpu.channelWait = some (t.now + 10000000)))
    ∧ ∀ u : State, u.rpu.radio = .off →
        (u.rejudge.rpu.radio = .off ∧ u.rejudge.rpu.holdoff = none ∧ u.rejudge.rpu.channelWait = none)
        ∨ (u.rejudge.rpu.radio = .warming (u.now + 500000) ∧ u.rejudge.rpu.channelWait = none
            ∧ u.rejudge.rpu.holdoff = if u.rpu.carrier then none else some (u.now + (50 + 20 * u.rpu.settings.slot) * 1000))

/-! ### The mechanism and the sequence -/

/-- R83, R85, R86, R128: a capacitor measurement sets the estimate from the voltage, starts or stops the recharge, and runs the low-energy watch; a recharge
that stops at the target updates attribute 8 with its time in milliseconds. The estimate is kept for the ENERGY snapshots (R139, log 43);
outside ENERGY_WAIT nothing else of the mechanism and the sequence changes. The watch that has run 60 s asks for the LOW_ENERGY alarm with cause
CLOSED_LOW and raises ENERGY_LOW. -/
def Obligations.CapacitorMeasurementKeepsTheAccount : Prop :=
  ∀ (v : Nat) (s : State), s.powered = true →
    let at_ := s.reach (s.mdr.lastMeasurement + 10000)
    let estimate := s.mdr.settings.capacitance * (v * v) / 2000000000
    let starts : Prop := s.mdr.rechargeSince = none ∧ v + 5000 < s.mdr.settings.target ∧ s.bcu.tier ≠ .disconnect
    let setAttribute (raw : Nat) (a : HealthAttribute) : HealthAttribute :=
      let n := (max 1 (min 253 (253 - (raw / 100 : Nat) : Int))).toNat
      ⟨some raw, n, min a.worst n⟩
    let starved : Prop := estimate < s.mdr.settings.eTrip ∧ s.mdr.poles.anyClosed = true
    ((∀ d, s.sqc.sequence ≠ .energyWait d) → ∃ t, exec (.capacitorMeasurement v) s = .next t ∧ t.clock = at_.clock
      ∧ t.mdr.vcap = v ∧ t.mdr.estimate = estimate ∧ t.mdr.measuredEstimate = estimate ∧ t.mdr.lastMeasurement = at_.now
      ∧ (starts → t.mdr.rechargeSince = some at_.now ∧ t.bcu.recharging = true)
      ∧ (∀ since, s.mdr.rechargeSince = some since → s.mdr.settings.target ≤ v → t.mdr.rechargeSince = none
          ∧ t.bcu.recharging = false ∧ t.bcu.stored.attributes = { s.bcu.stored.attributes with
              rechargeTime := setAttribute ((at_.now - since) / 1000) s.bcu.stored.attributes.rechargeTime })
      ∧ (¬ starts → (s.mdr.rechargeSince = none ∨ v < s.mdr.settings.target) →
          t.mdr.rechargeSince = s.mdr.rechargeSince ∧ t.bcu = s.bcu)
      ∧ (¬ starved → t.mdr.lowWatch = .stopped)
      ∧ (starved → s.mdr.lowWatch = .stopped → t.mdr.lowWatch = .running (at_.now + 60000000))
      ∧ (∀ d, starved → s.mdr.lowWatch = .running d → t.mdr.lowWatch = if d ≤ at_.now then .raised else .running d)
      ∧ (starved → s.mdr.lowWatch = .raised → t.mdr.lowWatch = .raised)
      ∧ t.mdr.op = s.mdr.op ∧ t.mdr.poles = s.mdr.poles ∧ t.mdr.latch = s.mdr.latch ∧ t.mdr.settings = s.mdr.settings
      ∧ t.mdr.tripDrive = s.mdr.tripDrive ∧ t.mdr.closeDrive = s.mdr.closeDrive
      ∧ t.mdr.invalidWatch = s.mdr.invalidWatch ∧ t.mdr.mixedWatch = s.mdr.mixedWatch
      ∧ t.sqc = s.sqc ∧ t.au = s.au ∧ t.lmu = s.lmu ∧ t.oeb = s.oeb ∧ t.oru = s.oru)
    ∧ (∀ d, s.mdr.lowWatch = .running d → s.leads .lowEnergyWatchExpiry
        ((State.alarm .lowEnergy (0x02 :: be 4 s.mdr.estimate ++ be 4 s.mdr.settings.eTrip)
          { s.reach d with mdr := { s.mdr with lowWatch := .raised } }).raise .energyLow))

/-- R51, R53, R50, R56, R67, R99: at the end of the reclose interval, and at each capacitor measurement in ENERGY_WAIT, the SQC asks for a close. It fires into
CLOSING; refused for energy alone, the sequence waits with the limit running from the interval's end; refused by the authority half, or by the
mechanism otherwise, it goes to LOCKOUT. The end of the energy wait is LOCKOUT with cause ENERGY and a LOW_ENERGY alarm; the end of the reclaim time is READY with the counter at 0. The report pool is as its invariant says (StepsKeepThePool). -/
def Obligations.SequenceTimersEndTheirStates : Prop :=
  ∀ (d v : Nat) (s : State), s.powered = true → s.poolInv →
    let authority : Prop := s.au.tags ≠ [] ∨ s.au.handlePulled = true ∨ s.au.block = true
    let mechanism : Prop := s.mdr.op ≠ none ∨ s.mdr.latch = true ∨ s.mdr.poles.allOpen = false
    let required := s.mdr.settings.eClose + s.mdr.settings.eTrip
    let estimate := s.mdr.settings.capacitance * (v * v) / 2000000000
    let lockedOut (cause : LockoutCause) (origin : Origin) (t : State) : Prop :=
      t.sqc.sequence = .lockout cause ∧ t.oru.counters.lockouts = min 9999999 (s.oru.counters.lockouts + 1)
        ∧ t.sqc.afterCommand = s.sqc.afterCommand ∧ t.mdr.op = s.mdr.op ∧ t.mdr.latch = s.mdr.latch ∧ t.au = s.au
        ∧ (∃ r, t.oru.ring.getLast? = some r ∧ r.kind = .lockout ∧ r.origin = origin ∧ r.shotAfter = s.sqc.shot)
        ∧ t.ports.cAlerts.sticky &&& Flag.lockout.bit ≠ 0 ∧ t.ports.pAlerts.sticky &&& Flag.lockout.bit ≠ 0
        ∧ ∃ x ∈ t.rpu.qAlarm ++ t.rpu.held, x.kind = .alarm .lockout
    let fires (at_ : State) (energy : Nat) (t : State) : Prop :=
      t.sqc = { s.sqc with sequence := .closing .reclose } ∧ t.mdr.closeDrive = true ∧ t.mdr.estimate = energy - s.mdr.settings.eClose
        ∧ t.mdr.op = some ⟨.close, [.reclose], .pulse, false, at_.now, energy, false, none, s.lmu.currents, s.oru.counters.next⟩
    (s.sqc.sequence = .interval d →
      let at_ := s.reach d
      ∃ t, exec .recloseIntervalExpiry s = .next t ∧ t.clock = at_.clock
        ∧ (¬ authority → ¬ mechanism → required ≤ s.mdr.estimate → fires at_ s.mdr.estimate t)
        ∧ (¬ authority → ¬ mechanism → s.mdr.estimate < required →
            t.supplyAs s = { at_ with sqc := { s.sqc with sequence := .energyWait (at_.now + s.sqc.active.energyWait * 1000) } })
        ∧ (authority → lockedOut .authority .protection t)
        ∧ (¬ authority → mechanism → lockedOut .mechanism .discordance t))
    ∧ (s.sqc.sequence = .energyWait d →
      let at_ := s.reach (s.mdr.lastMeasurement + 10000)
      ∃ t, exec (.capacitorMeasurement v) s = .next t ∧ t.clock = at_.clock
        ∧ (¬ authority → ¬ mechanism → required ≤ estimate → fires at_ estimate t)
        ∧ (¬ authority → ¬ mechanism → estimate < required → t.sqc = s.sqc ∧ t.mdr.op = none ∧ t.mdr.estimate = estimate)
        ∧ (authority → lockedOut .authority .protection t)
        ∧ (¬ authority → mechanism → lockedOut .mechanism .discordance t))
    ∧ (s.sqc.sequence = .energyWait d → ∃ t, exec .energyWaitExpiry s = .next t ∧ t.clock = (s.reach d).clock
        ∧ lockedOut .energy .protection t ∧ t.mdr = s.mdr
        ∧ ∃ x ∈ t.rpu.qAlarm ++ t.rpu.held, x.kind = .alarm .lowEnergy ∧ x.payload = 0x01 :: be 4 s.mdr.estimate ++ be 4 required)
    ∧ (s.sqc.sequence = .reclaim (.running d) →
      let ready : Sqc := { s.sqc with sequence := .ready, shot := 0, afterCommand := false }
      (s.sqc.staged = none ∨ s.sqc.picked = true → s.leads .reclaimExpiry { s.reach d with sqc := ready })
      ∧ (∀ staged, s.sqc.staged = some staged → s.sqc.picked = false → ∃ t, exec .reclaimExpiry s = .next t
          ∧ t.clock = (s.reach d).clock ∧ t.mdr = s.mdr ∧ t.au = s.au ∧ t.sqc = { ready with active := staged, staged := none }))

/-- R70, R71, R77, R161, R163, R164, R165, R48, R49, Table 3-5: the indication event that finds all poles OPEN ends a trip: the drive ends, the newest record is the
operation's, with its outcome, and the sequence goes on: a protection trip to LOCKOUT for the first cause that holds, or to its interval; a command trip to
OPEN; a tag or discordance trip to LOCKOUT; OPEN and LOCKOUT stay. The record counts among the operations, its currents wear the three
poles, a pole newly past the limit is marked and asks for the WEAR_LIMIT alarm (its payload's order is log 45), and an entry into LOCKOUT counts. -/
def Obligations.TripsCompleteWithAllPolesOpen : Prop :=
  ∀ (c : Contacts) (op : Operation) (s : State), s.powered = true → s.sqc.reported = true → s.mdr.op = some op → op.kind = .trip →
    (polesOf c).allOpen = true → s.mdr.poles ≠ polesOf c →
    let was := s.oru.counters
    let wears (count amps : Nat) : Nat := min 4294967295 (count + amps * amps / 10000)
    let worn : PerPole Nat := ⟨wears was.wear.a op.currents.ia, wears was.wear.b op.currents.ib, wears was.wear.c op.currents.ic⟩
    let mark (before : Bool) (count : Nat) : Bool := before || (decide (was.limit ≠ 0) && decide (was.limit < count))
    let marks : PerPole Bool := ⟨mark was.marks.a worn.a, mark was.marks.b worn.b, mark was.marks.c worn.c⟩
    let locks (t : State) : Prop := (∀ cause, s.sqc.sequence ≠ .lockout cause) ∧ ∃ cause, t.sqc.sequence = .lockout cause
    ∃ t r k, exec (.poleIndicationChange c) s = .next t ∧ t.oru.counters = k
      ∧ t.mdr = { s.mdr with poles := polesOf c, op := none, tripDrive := false, closeDrive := false }
      ∧ t.clock = s.clock ∧ t.au = s.au ∧ t.lmu = s.lmu ∧ t.oeb = s.oeb ∧ t.bcu.opInFlight = false
      ∧ t.oru.ring.getLast? = some r ∧ r.number = op.number ∧ r.outcome = some (if op.retrip then .retripComplete else .complete)
      ∧ r.kind = (if op.origins.head? = some .protection then .protTrip else .cmdTrip) ∧ r.currents = some op.currents
      ∧ r.energyBefore = some op.energyBefore ∧ r.lowEnergy = op.lowEnergy ∧ r.shotAfter = t.sqc.shot ∧ r.time = s.stamp
      ∧ k.total = min 9999999 (was.total + 1) ∧ k.limit = was.limit ∧ k.wear = worn ∧ k.marks = marks
      ∧ k.protTrips = (if op.origins.head? = some .protection then min 9999999 (was.protTrips + 1) else was.protTrips)
      ∧ (locks t → k.lockouts = min 9999999 (was.lockouts + 1) ∧ k.next = (was.next + 1) % 65536)
      ∧ (¬ locks t → k.lockouts = was.lockouts ∧ k.next = was.next)
      ∧ (s.poolInv → marks ≠ was.marks → ∃ x ∈ t.rpu.qAlarm ++ t.rpu.held, x.kind = .alarm .wearLimit
          ∧ x.payload = be 4 was.limit ++ be 4 worn.a ++ be 4 worn.b ++ be 4 worn.c ++ encFlag marks.a ++ encFlag marks.b ++ encFlag marks.c)
      ∧ t.ports.cAlerts.sticky &&& Flag.trip.bit ≠ 0 ∧ t.ports.pAlerts.sticky &&& Flag.trip.bit ≠ 0
      ∧ (∀ mark, s.sqc.sequence = .tripping .protection mark →
          let cause := firstOf
            [(decide (s.sqc.active.trips ≤ s.sqc.shot), LockoutCause.shots), (!s.au.tags.isEmpty, .tag), (s.au.block, .block),
             (s.sqc.afterCommand, .afterCommand), (mark, .hotLine)]
          let interval := if s.sqc.shot = 1 then s.sqc.active.interval1
            else if s.sqc.shot = 2 then s.sqc.active.interval2 else s.sqc.active.interval3
          (∀ k, cause = some k → t.sqc.sequence = .lockout k)
          ∧ (cause = none → t.sqc = { s.sqc with sequence := .interval (s.now + interval * 1000) }))
      ∧ (∀ mark, s.sqc.sequence = .tripping .command mark → t.sqc.sequence = .opened)
      ∧ (∀ mark, s.sqc.sequence = .tripping .tag mark → t.sqc.sequence = .lockout .tag)
      ∧ (∀ mark, s.sqc.sequence = .tripping .discordance mark → t.sqc.sequence = .lockout .mechanism)
      ∧ (s.sqc.sequence = .opened ∨ (∃ k, s.sqc.sequence = .lockout k) → t.sqc = s.sqc ∧ r.shotAfter = s.sqc.shot)

/-- R70, R71, R72, R84, R29: a trip pulse ends at 40 ms: with all poles OPEN the trip is over, and otherwise it settles. At the end of the settle window with a pole not OPEN
one retrip fires, debited, and at the end of the retrip's window the trip ends DISCORDANT, with the latch set, its alarms and LOCKOUT. That the
two payloads carry the record number as an optional field, present here, is read from Table 7-3 (07 §7.2; log 23, DEDUCED). The
report pool is as its invariant says (StepsKeepThePool). -/
def Obligations.TripPulsesAndWindowsEnd : Prop :=
  ∀ (op : Operation) (s : State), s.powered = true → s.poolInv → s.mdr.op = some op → op.kind = .trip →
    let pulseOver := s.reach (op.pulseStart + 40000)
    let windowOver := s.reach (op.pulseStart + 100000)
    let settle (phase : Phase) : State := { pulseOver with mdr := { s.mdr with
      op := some { op with phase := phase }, tripDrive := false, closeDrive := false } }
    (op.phase = .pulse → s.mdr.poles.allOpen = false → s.leads .tripPulseEnd (settle .settle))
    ∧ (op.phase = .retripPulse → s.mdr.poles.allOpen = false → s.leads .tripPulseEnd (settle .retripSettle))
    ∧ (op.phase = .pulse ∨ op.phase = .retripPulse → s.mdr.poles.allOpen = true →
        ∃ t r, exec .tripPulseEnd s = .next t ∧ t.mdr = { s.mdr with op := none, tripDrive := false, closeDrive := false }
          ∧ t.clock = pulseOver.clock ∧ t.oru.ring.getLast? = some r ∧ r.number = op.number
          ∧ r.outcome = some (if op.retrip then .retripComplete else .complete))
    ∧ (op.phase = .settle → op.retrip = false → s.mdr.poles.allOpen = false → s.leads .tripSettleExpiry
        { windowOver with
          oeb := s.oeb.pulseStart
          mdr := { s.mdr with
            op := some { op with phase := .retripPulse, retrip := true, pulseStart := windowOver.now }
            estimate := s.mdr.estimate - s.mdr.settings.eTrip, tripDrive := true } })
    ∧ (op.phase = .retripSettle → op.retrip = true → s.mdr.poles.allOpen = false →
        ∃ t r, exec .retripSettleExpiry s = .next t ∧ t.clock = windowOver.clock
          ∧ t.mdr.op = none ∧ t.mdr.tripDrive = false ∧ t.mdr.closeDrive = false ∧ t.mdr.latch = true
          ∧ t.mdr.estimate = s.mdr.estimate ∧ t.mdr.poles = s.mdr.poles
          ∧ t.oru.ring.getLast? = some r ∧ r.number = op.number ∧ r.outcome = some .discordant
          ∧ (s.sqc.reported = true → (∀ k, s.sqc.sequence ≠ .lockout k) → t.sqc.sequence = .lockout .mechanism)
          ∧ (∀ k, s.sqc.sequence = .lockout k → t.sqc = s.sqc)
          ∧ (∃ x ∈ t.rpu.qAlarm ++ t.rpu.held, x.kind = .alarm .mechanismFault
              ∧ x.payload = 1 :: s.mdr.poles.enc ++ (1 :: be 2 op.number))
          ∧ (∃ x ∈ t.rpu.qAlarm ++ t.rpu.held, x.kind = .alarm .poleDiscordance
              ∧ x.payload = s.mdr.poles.enc ++ (1 :: be 2 op.number))
          ∧ t.ports.cAlerts.sticky &&& Flag.mechFault.bit ≠ 0)

/-- R73, R54, R75, R76, R55: the indication event that finds all poles CLOSED ends a close COMPLETE, and a close in CLOSING leads to RECLAIM, or to READY with a tag
present; the close pulse ends at 60 ms. At the end of the settle window with all poles OPEN the close has FAILED, and with the poles neither it is DISCORDANT: the latch
is set, the sequence goes to LOCKOUT, and a DISCORDANT close is answered by a trip with origin DISCORDANCE. -/
def Obligations.ClosesCompleteOrFail : Prop :=
  ∀ (c : Contacts) (op : Operation) (s : State), s.powered = true → s.sqc.reported = true → s.mdr.op = some op → op.kind = .close →
    let windowOver := s.reach (op.pulseStart + 150000)
    let recorded (outcome : OpOutcome) (t : State) : Prop :=
      ∃ r, t.oru.ring.getLast? = some r ∧ r.number = op.number ∧ r.outcome = some outcome ∧ r.currents = none
        ∧ r.kind = (if op.origins.head? = some .reclose then .reclose else .cmdClose)
    let reclaim : ReclaimTimer := if s.sqc.picked then .paused (s.sqc.active.reclaim * 1000)
      else .running (s.now + s.sqc.active.reclaim * 1000)
    ((polesOf c).allClosed = true → s.mdr.poles ≠ polesOf c → ∃ t, exec (.poleIndicationChange c) s = .next t
      ∧ t.mdr = { s.mdr with poles := polesOf c, op := none, tripDrive := false, closeDrive := false }
      ∧ t.clock = s.clock ∧ t.au = s.au ∧ t.bcu.opInFlight = false ∧ recorded .complete t
      ∧ t.ports.cAlerts.sticky &&& Flag.close.bit ≠ 0
      ∧ (s.au.tags = [] → s.sqc.sequence = .closing .reclose → t.sqc = { s.sqc with sequence := .reclaim reclaim })
      ∧ (s.au.tags = [] → s.sqc.sequence = .closing .command →
          t.sqc = { s.sqc with sequence := .reclaim reclaim, shot := 0, afterCommand := true })
      ∧ (s.au.tags ≠ [] → (∃ k, s.sqc.sequence = .closing k) →
          t.sqc.sequence = .ready ∧ t.sqc.shot = 0 ∧ t.sqc.afterCommand = false)
      ∧ ((∀ k, s.sqc.sequence ≠ .closing k) → t.sqc = s.sqc))
    ∧ (op.phase = .pulse → s.leads .closePulseEnd { s.reach (op.pulseStart + 60000) with mdr := { s.mdr with
        op := some { op with phase := .settle }, tripDrive := false, closeDrive := false } })
    ∧ (s.mdr.poles.allOpen = true → (∃ k, s.sqc.sequence = .closing k) → ∃ t, exec .closeSettleExpiry s = .next t
      ∧ t.clock = windowOver.clock ∧ t.mdr.op = none ∧ t.mdr.closeDrive = false ∧ t.mdr.tripDrive = false ∧ t.mdr.latch = true
      ∧ t.mdr.estimate = s.mdr.estimate ∧ t.sqc.sequence = .lockout .mechanism ∧ recorded .failed t)
    ∧ (s.mdr.poles.allOpen = false → s.mdr.poles.allClosed = false → (∃ k, s.sqc.sequence = .closing k) →
      ∃ t new, exec .closeSettleExpiry s = .next t ∧ t.clock = windowOver.clock ∧ t.mdr.latch = true ∧ t.mdr.closeDrive = false
        ∧ t.mdr.op = some new ∧ new.kind = .trip ∧ new.origins = [.discordance] ∧ new.phase = .pulse ∧ new.pulseStart = t.now
        ∧ t.mdr.tripDrive = true ∧ t.mdr.estimate = s.mdr.estimate - s.mdr.settings.eTrip
        ∧ t.sqc.sequence = .lockout .mechanism ∧ t.bcu.opInFlight = true ∧ recorded .discordant t)

/-- R63, R88, R65, R78, R58, R79, R80, R81: the first report gives the sequence its starting state. After it, with nothing in flight, poles found all OPEN are an external
open with its record; a pole risen to CLOSED sets the latch and is tripped; otherwise the watches follow the poles. A watch that has run 200 ms sets the latch, and the
mixed one fires a trip. An indication that is no change does nothing. That the MECHANISM_FAULT payloads end in an optional record number, absent here,
is read from Table 7-3 (07 §7.2; log 23, DEDUCED). The report pool is as its invariant says (StepsKeepThePool). -/
def Obligations.PoleEventsWithNothingInFlight : Prop :=
  ∀ (c : Contacts) (s : State), s.powered = true → s.poolInv →
    let poles := polesOf c
    let discordance (t : State) : Prop := t.mdr.latch = true ∧ t.mdr.tripDrive = true
      ∧ ∃ op, t.mdr.op = some op ∧ op.kind = .trip ∧ op.origins = [.discordance] ∧ op.phase = .pulse ∧ op.pulseStart = t.now
    (s.sqc.reported = false → s.mdr.op = none → ∃ t, exec (.poleIndicationChange c) s = .next t ∧ t.sqc.reported = true
      ∧ t.mdr.poles = poles ∧ t.clock = s.clock
      ∧ (poles.allClosed = true → t.sqc.sequence = .ready ∧ t.mdr = { s.mdr with poles := poles })
      ∧ (poles.allOpen = true → t.sqc.sequence = .opened ∧ t.mdr = { s.mdr with poles := poles })
      ∧ (poles.allClosed = false → poles.allOpen = false → s.sqc.sequence = .opened →
          t.sqc.sequence = .lockout .mechanism ∧ t.mdr.latch = true ∧ (poles.anyClosed = true → discordance t)
          ∧ (poles.anyClosed = false → t.mdr.op = none)))
    ∧ (s.sqc.reported = true → s.mdr.poles = poles → s.leads (.poleIndicationChange c) s)
    ∧ (s.sqc.reported = true → s.mdr.op = none → s.mdr.poles ≠ poles →
      (poles.allOpen = true → ∃ t r, exec (.poleIndicationChange c) s = .next t
        ∧ t.mdr = { s.mdr with poles := poles, invalidWatch := none, mixedWatch := none } ∧ t.clock = s.clock
        ∧ t.oru.ring.getLast? = some r ∧ r.kind = .externalOpen ∧ r.origin = .p ∧ r.outcome = none ∧ r.element = none
        ∧ r.number = s.oru.counters.next ∧ r.currents = some s.lmu.currents ∧ r.energyBefore = some s.mdr.estimate
        ∧ r.shotAfter = s.sqc.shot
        ∧ t.ports.cAlerts.sticky &&& Flag.trip.bit ≠ 0
        ∧ (s.sqc.sequence = .ready ∨ (∃ k, s.sqc.sequence = .reclaim k) → t.sqc.sequence = .opened)
        ∧ (s.sqc.sequence ≠ .ready → (∀ k, s.sqc.sequence ≠ .reclaim k) → t.sqc = s.sqc))
      ∧ (s.mdr.poles.risen poles = true → ∃ t, exec (.poleIndicationChange c) s = .next t ∧ discordance t ∧ t.mdr.poles = poles
        ∧ t.mdr.estimate = s.mdr.estimate - s.mdr.settings.eTrip
        ∧ ∃ x ∈ t.rpu.qAlarm ++ t.rpu.held, x.kind = .alarm .mechanismFault ∧ x.payload = 6 :: poles.enc ++ [0])
      ∧ (poles.allOpen = false → s.mdr.poles.risen poles = false → s.mdr.latch = false →
        s.leads (.poleIndicationChange c) { s with mdr := { s.mdr with
          poles := poles
          invalidWatch := if poles.anyInvalid then some (s.mdr.invalidWatch.getD (s.now + 200000)) else none
          mixedWatch := if poles.mixed then some (s.mdr.mixedWatch.getD (s.now + 200000)) else none } }))
    ∧ (∀ d, s.mdr.invalidWatch = some d → s.mdr.op = none → s.mdr.latch = false → s.sqc.reported = true →
      ∃ t, exec .invalidWatchExpiry s = .next t ∧ t.clock = (s.reach d).clock
        ∧ t.mdr = { s.mdr with latch := true, invalidWatch := none, mixedWatch := none }
        ∧ (s.sqc.sequence = .opened ∨ (∃ k, s.sqc.sequence = .interval k) ∨ (∃ k, s.sqc.sequence = .energyWait k) →
            t.sqc.sequence = .lockout .mechanism)
        ∧ (s.sqc.sequence = .ready ∨ (∃ k, s.sqc.sequence = .reclaim k) ∨ (∃ k, s.sqc.sequence = .lockout k) → t.sqc = s.sqc)
        ∧ ∃ x ∈ t.rpu.qAlarm ++ t.rpu.held, x.kind = .alarm .mechanismFault ∧ x.payload = 4 :: s.mdr.poles.enc ++ [0])
    ∧ (∀ d, s.mdr.mixedWatch = some d → s.mdr.op = none → s.mdr.latch = false →
      ∃ t, exec .mixedWatchExpiry s = .next t ∧ t.clock = (s.reach d).clock ∧ discordance t
        ∧ t.mdr.estimate = s.mdr.estimate - s.mdr.settings.eTrip ∧ t.mdr.invalidWatch = none ∧ t.mdr.mixedWatch = none)

/-! ### The door -/

/-- R89, R90, R110, Table 5-1: a reading of the CONTROL key or the SUPERVISOR key that differs from the state in force must stand for 100 ms, one of the
handle or the pushbutton for 20 ms. One that reads the state in force again ends the stand, and another reading begins one anew. A
reading that has stood is taken. The first one of the CONTROL key is taken silently (a selection or a panel close delay the mode forbids ends with it,
log 15); a change after it sets the mode, ends the selection and a running delay, raises MODE_CHANGED and creates the event. The SUPERVISOR key,
the handle and a release of the pushbutton are kept as read, and a press of a button already pressed places nothing. That one command stands for
the contact's change and, with the reading that stands, for the end of its stand, and that a reading whose stand is over is taken before the next
one, is the model's (log 14, DESIGN CHOICE). -/
def Obligations.DoorSwitchesAreKept : Prop :=
  ∀ (mode other : ControlMode) (b : Bool) (d : Nat) (s : State), s.powered = true →
    let base := s.reach d
    let cancelled := match s.au.panel with
      | .running _ => .cancelled .mode
      | p => p
    let moved : Au := { s.au with mode := mode, modeTaken := true, keyStand := none, selection := none, panel := cancelled }
    let begun (time : Nat) (inForce : Bool) : Option (Stand Bool) := if b = inForce then none else some ⟨b, s.now + time⟩
    let changes (x : Option (Stand Bool)) : Prop := (∀ e, x ≠ some ⟨b, e⟩) ∧ ∀ y, x = some y → s.now < y.ends
    let button (pressed : Bool) : Instr := if pressed then .tripPushbutton else .tripPushbuttonRelease
    ((∀ e, s.au.keyStand ≠ some ⟨mode, e⟩) → (∀ y, s.au.keyStand = some y → s.now < y.ends) →
      s.leads (.controlKeyChange mode) { s with au := { s.au with keyStand :=
        if s.au.modeTaken = true ∧ mode = s.au.mode then none else some ⟨mode, s.now + 100000⟩ } })
    ∧ (s.au.keyStand = some ⟨mode, d⟩ →
      (mode = s.au.mode → s.leads (.controlKeyChange mode) { base with au := { s.au with modeTaken := true, keyStand := none } })
      ∧ (mode ≠ s.au.mode → s.au.modeTaken = false → s.leads (.controlKeyChange mode) { base with au := moved })
      ∧ (mode ≠ s.au.mode → s.au.modeTaken = true → s.leads (.controlKeyChange mode)
          ((State.raise .modeChanged { base with au := moved }).event .controlMode
            [match mode with | .localMode => 1 | .remoteMode => 2]))
      ∧ (d ≤ s.now → other ≠ mode → ∃ t, exec (.controlKeyChange other) s = .next t ∧ t.au.mode = mode ∧ t.au.modeTaken = true
          ∧ t.au.keyStand = some ⟨other, s.now + 100000⟩))
    ∧ (changes s.au.supervisorStand → s.leads (.supervisorKeyChange b)
        { s with au := { s.au with supervisorStand := begun 100000 s.au.supervisorHeld } })
    ∧ (s.au.supervisorStand = some ⟨b, d⟩ →
      s.leads (.supervisorKeyChange b) { base with au := { s.au with supervisorHeld := b, supervisorStand := none } }
      ∧ (d ≤ s.now → s.leads (.supervisorKeyChange (!b))
          { s with au := { s.au with supervisorHeld := b, supervisorStand := some ⟨!b, s.now + 100000⟩ } }))
    ∧ (changes s.au.handleStand → s.leads (.handleLockChange b)
        { s with au := { s.au with handleStand := begun 20000 s.au.handlePulled } })
    ∧ (s.au.handleStand = some ⟨b, d⟩ →
      s.leads (.handleLockChange b) { base with au := { s.au with handlePulled := b, handleStand := none } }
      ∧ (d ≤ s.now → s.leads (.handleLockChange (!b))
          { s with au := { s.au with handlePulled := b, handleStand := some ⟨!b, s.now + 20000⟩ } }))
    ∧ (changes s.au.buttonStand → s.leads (button b) { s with au := { s.au with buttonStand := begun 20000 s.au.buttonPressed } })
    ∧ (s.au.buttonStand = some ⟨b, d⟩ →
      (b = false ∨ s.au.buttonPressed = true →
        s.leads (button b) { base with au := { s.au with buttonPressed := b, buttonStand := none } })
      ∧ (d ≤ s.now → ∃ t, exec (button (!b)) s = .next t ∧ t.au.buttonPressed = b
          ∧ t.au.buttonStand = some ⟨!b, s.now + 20000⟩
          ∧ (b = true → s.au.buttonPressed = false → ∃ op, t.mdr.op = some op ∧ op.kind = .trip ∧ .button ∈ op.origins)))

/-! ### AC supply and battery -/

/-- R113, R114, R125: a reading of the AC sense input that differs from the state must stand for 2 s without a break, as the door's readings must (log 14,
DESIGN CHOICE), and is then taken. AC that returns stops the disconnect timer, lets the charger leave OFF where R114 allows, and is announced, but for the
first reading; AC lost aborts a test, puts the charger in OFF and raises the alarm and the occurrence, the first reading included. A reading that changes nothing changes
nothing.
R116, R117, R119, R85, R154: the absorb timer leads to FLOAT, the float drop timer to BULK where R114 allows, and the disconnect timer to DISCONNECT: the alarm is
raised, the charger is OFF, the recharge stopped, the transmission asked for, and the shutdown waits for it at most 10 s. V and T in the
payloads are those of the last measurement (log 25, DEDUCED). That the three timers act by commands of their own, at the moment each is over and
not at a measurement, is log 13 (DEDUCED). The report pool is as its invariant says (StepsKeepThePool). -/
def Obligations.AcReadingsAndBatteryTimers : Prop :=
  (∀ (d : Nat) (b : Bool) (s : State), s.powered = true → s.poolInv →
    let base := s.reach d
    let payload := be 2 s.bcu.v ++ beInt 2 s.bcu.t
    let lost (u : State) : State := (u.alarm .acSupplyLost payload).raise .acSupply
    let resting : Bool := match s.bcu.test with
      | some r => match r.phase with
        | .suspended _ => false
        | _ => true
      | none => false
    let left : Charger := if s.bcu.charger = .off ∧ s.bcu.thermalHold = false ∧ s.bcu.tier ≠ .disconnect ∧ resting = false then .bulk
      else s.bcu.charger
    let taken : Bcu := { s.bcu with acQualified := true, acStand := none }
    let restored : State := { base with bcu := { taken with acPresent := true, disconnectSince := none, charger := left } }
    ((∀ e, s.bcu.acStand ≠ some ⟨b, e⟩) → (∀ y, s.bcu.acStand = some y → s.now < y.ends) →
      s.leads (.acStateChange b) { s with bcu := { s.bcu with acStand :=
        if s.bcu.acQualified = true ∧ b = s.bcu.acPresent then none else some ⟨b, s.now + 2000000⟩ } })
    ∧ (s.bcu.acStand = some ⟨b, d⟩ → d ≤ s.now → ∃ t, exec (.acStateChange (!b)) s = .next t ∧ t.bcu.acPresent = b
        ∧ t.bcu.acQualified = true ∧ t.bcu.acStand = some ⟨!b, s.now + 2000000⟩)
    ∧ (s.bcu.acStand = some ⟨true, d⟩ →
      (s.bcu.acPresent = true → s.leads (.acStateChange true) { base with bcu := taken })
      ∧ (s.bcu.acPresent = false → s.bcu.acQualified = false → s.leads (.acStateChange true) restored)
      ∧ (s.bcu.acPresent = false → s.bcu.acQualified = true →
          s.leads (.acStateChange true) (restored.event .acSupplyRestored payload)))
    ∧ (s.bcu.acStand = some ⟨false, d⟩ →
      (s.bcu.acPresent = true → s.bcu.test = none → s.leads (.acStateChange false) (lost { base with bcu := { taken with
          acPresent := false, charger := if s.bcu.charger = .testHold then .testHold else .off } }))
      ∧ (s.bcu.acPresent = false → s.bcu.acQualified = true → s.leads (.acStateChange false) { base with bcu := taken })
      ∧ (s.bcu.acPresent = false → s.bcu.acQualified = false → s.leads (.acStateChange false) (lost { base with bcu := taken })))
    ∧ (∀ r, s.bcu.acStand = some ⟨false, d⟩ → s.bcu.acPresent = true → s.bcu.test = some r →
        ∃ t entry, exec (.acStateChange false) s = .next t
        ∧ t.bcu.test = none ∧ t.bcu.loadOn = false ∧ t.bcu.charger = .off ∧ t.bcu.acPresent = false ∧ t.bcu.stored.pending = false
        ∧ t.bcu.stored.history.getLast? = some entry ∧ entry.outcome = .aborted ∧ entry.cause = some .acLoss ∧ entry.mode = r.mode
        ∧ t.mdr = s.mdr ∧ t.sqc = s.sqc ∧ t.au = s.au ∧ t.oru = s.oru ∧ t.clock = base.clock
        ∧ (∃ x ∈ t.rpu.qAlarm ++ t.rpu.held, x.kind = .alarm .acSupplyLost ∧ x.payload = payload)
        ∧ t.ports.cAlerts.sticky &&& Flag.acSupply.bit ≠ 0))
  ∧ (∀ (start since : Nat) (s : State), s.powered = true → s.poolInv →
    let resting : Bool := match s.bcu.test with
      | some ⟨_, _, .rest _, _, _⟩ => true
      | some ⟨_, _, .load _, _, _⟩ => true
      | _ => false
    let toBulk : Charger :=
      if s.bcu.acPresent = true ∧ s.bcu.thermalHold = false ∧ s.bcu.tier ≠ .disconnect ∧ resting = false then .bulk else .off
    (s.bcu.charger = .absorb start → s.leads .absorbTimeout
      { s.reach (start + 14400000000) with bcu := { s.bcu with charger := .float (s.reach (start + 14400000000)).now none } })
    ∧ (s.bcu.charger = .float since (some start) → s.leads .floatDropExpiry
      { s.reach (start + 60000000) with bcu := { s.bcu with charger := toBulk } })
    ∧ (s.bcu.disconnectSince = some start → s.bcu.tier ≠ .disconnect → ∃ t, exec .disconnectTimerExpiry s = .next t
      ∧ t.clock = (s.reach (start + 60000000)).clock ∧ t.bcu.tier = .disconnect ∧ t.bcu.charger = .off ∧ t.bcu.recharging = false
      ∧ t.mdr = { s.mdr with rechargeSince := none } ∧ t.bcu.shutdown = .radio (t.now + 10000000) ∧ t.rpu.lastCall = .waiting
      ∧ t.rpu.inFlight = none ∧ t.rpu.radio ≠ .off ∧ t.bcu.contactorClosed = s.bcu.contactorClosed
      ∧ t.sqc = s.sqc ∧ t.au = s.au ∧ t.oru = s.oru
      ∧ (∃ x ∈ t.rpu.qAlarm ++ t.rpu.held, x.kind = .alarm .batteryDisconnect
          ∧ x.payload = be 2 s.bcu.v ++ beInt 2 s.bcu.t ++ [acCode s.bcu.acPresent])
      ∧ t.ports.cAlerts.sticky &&& Flag.batteryTier.bit ≠ 0))

/-- R112, R114, R115, R116, R117, R118: a battery measurement sets the thermal hold and the set voltages; outside LOAD it moves the charger, runs the disconnect
timer and decides the tier, a change of which is announced; in LOAD the tier, the timer and the charger keep what they had. V and T in the
payload are those of this measurement (log 25). The first measurement sets the hold at 50.0 °C or more (R133), where R114 alone would need 55.0 °C.
An entry to CRITICAL counts a deep discharge and updates attribute 5 (R128). The tier and the charger state the measurement leaves are kept for
the BATTERY snapshots (R139, log 43). The report pool is as its invariant says (StepsKeepThePool). -/
def Obligations.BatteryMeasurementDecidesTheTier : Prop :=
  ∀ (v : Nat) (i t : Int) (s : State), s.powered = true → s.poolInv →
    let at_ := s.reach (s.bcu.lastMeasurement + 1000000)
    let degrees : Int := max (-20) (min 50 (t.tdiv 10))
    let set (v25 : Nat) : Int := min 30000 (v25 + 36 * (25 - degrees))
    let hot : Bool := if s.bcu.measured then 550 ≤ t || (500 ≤ t && s.bcu.thermalHold) else 500 ≤ t
    let inLoad : Bool := match s.bcu.test with
      | some ⟨_, _, .load _, _, _⟩ => true
      | _ => false
    let resting : Bool := match s.bcu.test with
      | some ⟨_, _, .rest _, _, _⟩ => true
      | _ => false
    let timer : Option Nat := if v < 21000 ∧ s.bcu.acPresent = false then some (s.bcu.disconnectSince.getD at_.now) else none
    let tier : Tier := (firstOf
      [(timer.any fun start => start + 60000000 ≤ at_.now, Tier.disconnect),
       (decide (v < 22000) && (s.bcu.tier == .normal || s.bcu.tier == .low), .critical),
       (decide (v < 23000) && s.bcu.tier == .normal, .low),
       (decide (23400 < v) && (s.bcu.tier == .low || s.bcu.tier == .critical), .normal),
       (decide (22600 < v) && s.bcu.tier == .critical, .low)]).getD s.bcu.tier
    let toBulk : Charger := if s.bcu.acPresent = true ∧ hot = false ∧ s.bcu.tier ≠ .disconnect ∧ resting = false then .bulk else .off
    let held : Charger := if hot then (if s.bcu.charger = .testHold then .testHold else .off)
      else if s.bcu.charger = .off then toBulk else s.bcu.charger
    let moved : Charger := match held with
      | .bulk => if set s.bcu.stored.settings.vAbs ≤ v then .absorb at_.now else .bulk
      | .absorb since =>
        if i < s.bcu.stored.settings.taper ∨ since + 14400000000 ≤ at_.now then .float at_.now none else .absorb since
      | .float since drop =>
        if v < set s.bcu.stored.settings.vFloat - 1000 then
          (if drop.getD at_.now + 60000000 ≤ at_.now then toBulk else .float since (some (drop.getD at_.now)))
        else .float since none
      | other => other
    let setAttribute (raw normalized : Int) (a : HealthAttribute) : HealthAttribute :=
      let n := (max 1 (min 253 normalized)).toNat
      ⟨some raw, n, min a.worst n⟩
    ∃ u, exec (.batteryMeasurement v i t) s = .next u ∧ u.clock = at_.clock
      ∧ u.bcu.v = v ∧ u.bcu.i = i ∧ u.bcu.t = t ∧ u.bcu.measured = true ∧ u.bcu.lastMeasurement = at_.now ∧ u.bcu.thermalHold = hot
      ∧ u.bcu.vFloatSet = set s.bcu.stored.settings.vFloat ∧ u.bcu.vAbsSet = set s.bcu.stored.settings.vAbs
      ∧ u.bcu.measuredTier = u.bcu.tier ∧ u.bcu.measuredCharger = u.bcu.charger
      ∧ u.sqc = s.sqc ∧ u.au = s.au ∧ u.lmu = s.lmu ∧ u.oeb = s.oeb ∧ u.oru = s.oru
      ∧ (inLoad = true ∨ tier ≠ .disconnect → u.mdr = s.mdr)
      ∧ (inLoad = true → s.bcu.charger = .testHold → u.bcu.tier = s.bcu.tier ∧ u.bcu.disconnectSince = s.bcu.disconnectSince
          ∧ u.bcu.charger = .testHold ∧ u.bcu.test = s.bcu.test ∧ u.bcu.loadOn = s.bcu.loadOn
          ∧ u.bcu.floatSum = s.bcu.floatSum ∧ u.bcu.floatCount = s.bcu.floatCount)
      ∧ (inLoad = false → u.bcu.tier = tier ∧ u.bcu.disconnectSince = timer)
      ∧ (inLoad = false → tier = s.bcu.tier → u.bcu.charger = moved ∧ u.bcu.test = s.bcu.test)
      ∧ (inLoad = false → tier ≠ s.bcu.tier → u.ports.cAlerts.sticky &&& Flag.batteryTier.bit ≠ 0
          ∧ u.ports.pAlerts.sticky &&& Flag.batteryTier.bit ≠ 0
          ∧ (tier = .critical → u.bcu.stored.deep = min 65535 (s.bcu.stored.deep + 1)
              ∧ u.bcu.stored.attributes.deepDischarges = setAttribute u.bcu.stored.deep (100 - 5 * u.bcu.stored.deep)
                  s.bcu.stored.attributes.deepDischarges
              ∧ ∃ x ∈ u.rpu.qAlarm ++ u.rpu.held, x.kind = .alarm .batteryCritical)
          ∧ (s.bcu.tier = .normal → tier = .low → ∃ x ∈ u.rpu.qAlarm ++ u.rpu.held, x.kind = .alarm .batteryLow
              ∧ x.payload = be 2 v ++ beInt 2 t ++ [acCode s.bcu.acPresent])
          ∧ (tier ≠ .critical → u.bcu.stored.deep = s.bcu.stored.deep
              ∧ u.bcu.stored.attributes.deepDischarges = s.bcu.stored.attributes.deepDischarges))

/-! ### Frames and the store -/

/-- R196: the register starts at 0xFFFF; each byte is combined into its top eight bits, and eight shifts follow, each combining 0x1021 where the
bit shifted out is a one; the check string gives 0x29B1. -/
def Obligations.CrcFollowsItsTwoSteps : Prop :=
  crc [] = 0xFFFF
  ∧ (∀ (bytes : List Byte) (b : Byte), ∃ r : Nat → Word16, r 0 = crc bytes ^^^ (b.setWidth 16 <<< 8)
      ∧ (∀ k, r (k + 1) = if (r k).getLsbD 15 then (r k <<< 1) ^^^ 0x1021 else r k <<< 1) ∧ crc (bytes ++ [b]) = r 8)
  ∧ crc ((List.range 9).map fun k => BitVec.ofNat 8 (0x31 + k)) = 0x29B1

/-! ### Invariants -/

/-- R40, R63, R134, R135, R186: at reset every invariant below holds. -/
def Obligations.ResetMeetsTheInvariants : Prop :=
  State.reset.recordsInv ∧ State.reset.sequenceInv ∧ State.reset.linkInv ∧ State.reset.authorityInv ∧ State.reset.loadInv
  ∧ State.reset.mechanismInv ∧ State.reset.poolInv

/-- R184, R159, R175, R13, R36, R87, R91, R128, R165: whatever step is taken, the records in force, queued, being written and stored stay in
the ranges of Tables 3-1, 6-7 and 7-6, R13 (tracker), R36 (curves) and R87 (mechanism). So do a tag's slot, note and placement number, the
operation and wear counters, the wear limit and the next record number, the battery counts and the attributes' values (Table 6-6).
A record ring holds 32 entries, the test history 8 and an answer list 4 at most, and no record id is queued twice or stored twice. A crew number
and an M of a curve are bounded above by the bytes of their frame alone, so no upper bound is said of them; of a record of the ring or a test of
the history nothing more is said.
R45, R63, R150: the shot counter keeps to its state, and the standing to its score. -/
def Obligations.StepsKeepRecordsSequenceAndLink : Prop :=
  ∀ s t : State, s.recordsInv → step s = .next t →
    t.recordsInv ∧ (s.sequenceInv → t.sequenceInv) ∧ (s.linkInv → t.linkInv)

/-- R91, R101, R106: no step leaves a ninth tag, a slot, or a crew number and kind, used twice, a selection with a tag present or in LOCAL, or a
panel close delay running with a tag present or in REMOTE. -/
def Obligations.StepsKeepAuthority : Prop :=
  ∀ s t : State, s.authorityInv → step s = .next t → t.authorityInv

/-- R122, R69, R70, R73, R79: the load is connected exactly in the LOAD phase and then with nothing in flight, no recharge and AC present; the coils are driven exactly as the
operation in flight asks, never both; no watch runs with an operation in flight or the latch set. -/
def Obligations.StepsKeepLoadAndCoils : Prop :=
  ∀ s t : State, step s = .next t → (s.loadInv → t.loadInv) ∧ (s.mechanismInv → t.mechanismInv)

/-- R134, R136, R137: each object is in one list, each list holds its classes, at most 24 objects are events or snapshots, and an alarm identity stands at most once in
Q_ALARM and HELD. -/
def Obligations.StepsKeepThePool : Prop :=
  ∀ s t : State, s.poolInv → step s = .next t → t.poolInv

/-- R67, R68, R99, R84: a close coil is driven only where it was before, or by a close that began in this step, with nothing in flight before, no
tag present, the handle not pulled, the control mode that its port needs, the reclose block off for a reclose, the latch clear, every
pole OPEN, and the energy of a trip left. The close has just begun, but that a gap timeout on a byte stream may pass its 20 ms after it. -/
def Obligations.ClosePulsesNeedThePermit : Prop :=
  ∀ s t : State, step s = .next t → s.mdr.closeDrive = false → t.mdr.closeDrive = true →
    s.mdr.op = none ∧ t.au.tags = [] ∧ t.au.handlePulled = false ∧ t.mdr.latch = false ∧ t.mdr.poles.allOpen = true
    ∧ t.mdr.settings.eTrip ≤ t.mdr.estimate
    ∧ ∃ op o, t.mdr.op = some op ∧ op.kind = .close ∧ op.phase = .pulse ∧ op.origins = [o]
        ∧ (op.pulseStart = t.now ∨ ∃ port bytes, s.pending.head? = some (.frameGapTimeout port bytes) ∧ op.pulseStart = s.now)
        ∧ op.energyBefore = t.mdr.estimate + t.mdr.settings.eClose
        ∧ (o = .c ∨ o = .l ∨ o = .p ∨ o = .reclose)
        ∧ (o = .c ∨ o = .l → t.au.mode = .remoteMode) ∧ (o = .p → t.au.mode = .localMode) ∧ (o = .reclose → t.au.block = false)
end
end

