-- ==== Sys2Proof/Laws/State.lean ====
section
/-! SUPPORT. One lemma for each field of the state and each named update, so that no proof unfolds a record update. -/

namespace Sys2Proof.Machine

section
variable (s : State)

/-! ### State.reach -/

@[simp] theorem State.reach_clock (t : Nat) : (s.reach t).clock = s.clock.reach t := rfl
@[simp] theorem State.reach_lmu (t : Nat) : (s.reach t).lmu = s.lmu := rfl
@[simp] theorem State.reach_oeb (t : Nat) : (s.reach t).oeb = s.oeb := rfl
@[simp] theorem State.reach_sqc (t : Nat) : (s.reach t).sqc = s.sqc := rfl
@[simp] theorem State.reach_mdr (t : Nat) : (s.reach t).mdr = s.mdr := rfl
@[simp] theorem State.reach_au (t : Nat) : (s.reach t).au = s.au := rfl
@[simp] theorem State.reach_bcu (t : Nat) : (s.reach t).bcu = s.bcu := rfl
@[simp] theorem State.reach_rpu (t : Nat) : (s.reach t).rpu = s.rpu := rfl
@[simp] theorem State.reach_oru (t : Nat) : (s.reach t).oru = s.oru := rfl
@[simp] theorem State.reach_ports (t : Nat) : (s.reach t).ports = s.ports := rfl
@[simp] theorem State.reach_nvs (t : Nat) : (s.reach t).nvs = s.nvs := rfl
@[simp] theorem State.reach_powered (t : Nat) : (s.reach t).powered = s.powered := rfl
@[simp] theorem State.reach_freeIndex (t : Nat) : (s.reach t).freeIndex = s.freeIndex := rfl
@[simp] theorem State.reach_pending (t : Nat) : (s.reach t).pending = s.pending := rfl

/-! ### State.raise -/

@[simp] theorem State.raise_clock (f : Flag) : (s.raise f).clock = s.clock := rfl
@[simp] theorem State.raise_lmu (f : Flag) : (s.raise f).lmu = s.lmu := rfl
@[simp] theorem State.raise_oeb (f : Flag) : (s.raise f).oeb = s.oeb := rfl
@[simp] theorem State.raise_sqc (f : Flag) : (s.raise f).sqc = s.sqc := rfl
@[simp] theorem State.raise_mdr (f : Flag) : (s.raise f).mdr = s.mdr := rfl
@[simp] theorem State.raise_au (f : Flag) : (s.raise f).au = s.au := rfl
@[simp] theorem State.raise_bcu (f : Flag) : (s.raise f).bcu = s.bcu := rfl
@[simp] theorem State.raise_rpu (f : Flag) : (s.raise f).rpu = s.rpu := rfl
@[simp] theorem State.raise_oru (f : Flag) : (s.raise f).oru = s.oru := rfl
@[simp] theorem State.raise_ports (f : Flag) : (s.raise f).ports = s.ports.raise f := rfl
@[simp] theorem State.raise_nvs (f : Flag) : (s.raise f).nvs = s.nvs := rfl
@[simp] theorem State.raise_powered (f : Flag) : (s.raise f).powered = s.powered := rfl
@[simp] theorem State.raise_freeIndex (f : Flag) : (s.raise f).freeIndex = s.freeIndex := rfl
@[simp] theorem State.raise_pending (f : Flag) : (s.raise f).pending = s.pending := rfl

/-! ### State.alarm -/

@[simp] theorem State.alarm_clock (id : AlarmId) (p : List Byte) : (s.alarm id p).clock = s.clock := rfl
@[simp] theorem State.alarm_lmu (id : AlarmId) (p : List Byte) : (s.alarm id p).lmu = s.lmu := rfl
@[simp] theorem State.alarm_oeb (id : AlarmId) (p : List Byte) : (s.alarm id p).oeb = s.oeb := rfl
@[simp] theorem State.alarm_sqc (id : AlarmId) (p : List Byte) : (s.alarm id p).sqc = s.sqc := rfl
@[simp] theorem State.alarm_mdr (id : AlarmId) (p : List Byte) : (s.alarm id p).mdr = s.mdr := rfl
@[simp] theorem State.alarm_au (id : AlarmId) (p : List Byte) : (s.alarm id p).au = s.au := rfl
@[simp] theorem State.alarm_bcu (id : AlarmId) (p : List Byte) : (s.alarm id p).bcu = s.bcu := rfl
@[simp] theorem State.alarm_rpu (id : AlarmId) (p : List Byte) : (s.alarm id p).rpu = s.rpu.alarm s.stamp id p := rfl
@[simp] theorem State.alarm_oru (id : AlarmId) (p : List Byte) : (s.alarm id p).oru = s.oru := rfl
@[simp] theorem State.alarm_ports (id : AlarmId) (p : List Byte) : (s.alarm id p).ports = s.ports := rfl
@[simp] theorem State.alarm_nvs (id : AlarmId) (p : List Byte) : (s.alarm id p).nvs = s.nvs := rfl
@[simp] theorem State.alarm_powered (id : AlarmId) (p : List Byte) : (s.alarm id p).powered = s.powered := rfl
@[simp] theorem State.alarm_freeIndex (id : AlarmId) (p : List Byte) : (s.alarm id p).freeIndex = s.freeIndex := rfl
@[simp] theorem State.alarm_pending (id : AlarmId) (p : List Byte) : (s.alarm id p).pending = s.pending := rfl

/-! ### State.event -/

@[simp] theorem State.event_clock (k : EventKind) (p : List Byte) : (s.event k p).clock = s.clock := rfl
@[simp] theorem State.event_lmu (k : EventKind) (p : List Byte) : (s.event k p).lmu = s.lmu := rfl
@[simp] theorem State.event_oeb (k : EventKind) (p : List Byte) : (s.event k p).oeb = s.oeb := rfl
@[simp] theorem State.event_sqc (k : EventKind) (p : List Byte) : (s.event k p).sqc = s.sqc := rfl
@[simp] theorem State.event_mdr (k : EventKind) (p : List Byte) : (s.event k p).mdr = s.mdr := rfl
@[simp] theorem State.event_au (k : EventKind) (p : List Byte) : (s.event k p).au = s.au := rfl
@[simp] theorem State.event_bcu (k : EventKind) (p : List Byte) : (s.event k p).bcu = s.bcu := rfl
@[simp] theorem State.event_rpu (k : EventKind) (p : List Byte) : (s.event k p).rpu = s.rpu.event s.stamp k p := rfl
@[simp] theorem State.event_oru (k : EventKind) (p : List Byte) : (s.event k p).oru = s.oru := rfl
@[simp] theorem State.event_ports (k : EventKind) (p : List Byte) : (s.event k p).ports = s.ports := rfl
@[simp] theorem State.event_nvs (k : EventKind) (p : List Byte) : (s.event k p).nvs = s.nvs := rfl
@[simp] theorem State.event_powered (k : EventKind) (p : List Byte) : (s.event k p).powered = s.powered := rfl
@[simp] theorem State.event_freeIndex (k : EventKind) (p : List Byte) : (s.event k p).freeIndex = s.freeIndex := rfl
@[simp] theorem State.event_pending (k : EventKind) (p : List Byte) : (s.event k p).pending = s.pending := rfl

/-! ### State.place -/

@[simp] theorem State.place_clock (id : RecordId) : (s.place id).clock = s.clock := rfl
@[simp] theorem State.place_lmu (id : RecordId) : (s.place id).lmu = s.lmu := rfl
@[simp] theorem State.place_oeb (id : RecordId) : (s.place id).oeb = s.oeb := rfl
@[simp] theorem State.place_sqc (id : RecordId) : (s.place id).sqc = s.sqc := rfl
@[simp] theorem State.place_mdr (id : RecordId) : (s.place id).mdr = s.mdr := rfl
@[simp] theorem State.place_au (id : RecordId) : (s.place id).au = s.au := rfl
@[simp] theorem State.place_bcu (id : RecordId) : (s.place id).bcu = s.bcu := rfl
@[simp] theorem State.place_rpu (id : RecordId) : (s.place id).rpu = s.rpu := rfl
@[simp] theorem State.place_oru (id : RecordId) : (s.place id).oru = s.oru := rfl
@[simp] theorem State.place_ports (id : RecordId) : (s.place id).ports = s.ports := rfl
@[simp] theorem State.place_nvs (id : RecordId) : (s.place id).nvs = s.nvs.place (s.content id) := rfl
@[simp] theorem State.place_powered (id : RecordId) : (s.place id).powered = s.powered := rfl
@[simp] theorem State.place_freeIndex (id : RecordId) : (s.place id).freeIndex = s.freeIndex := rfl
@[simp] theorem State.place_pending (id : RecordId) : (s.place id).pending = s.pending := rfl

/-! ### State.withBcu -/

@[simp] theorem State.withBcu_clock (f : Bcu → Bcu) : (s.withBcu f).clock = s.clock := rfl
@[simp] theorem State.withBcu_lmu (f : Bcu → Bcu) : (s.withBcu f).lmu = s.lmu := rfl
@[simp] theorem State.withBcu_oeb (f : Bcu → Bcu) : (s.withBcu f).oeb = s.oeb := rfl
@[simp] theorem State.withBcu_sqc (f : Bcu → Bcu) : (s.withBcu f).sqc = s.sqc := rfl
@[simp] theorem State.withBcu_mdr (f : Bcu → Bcu) : (s.withBcu f).mdr = s.mdr := rfl
@[simp] theorem State.withBcu_au (f : Bcu → Bcu) : (s.withBcu f).au = s.au := rfl
@[simp] theorem State.withBcu_bcu (f : Bcu → Bcu) : (s.withBcu f).bcu = f s.bcu := rfl
@[simp] theorem State.withBcu_rpu (f : Bcu → Bcu) : (s.withBcu f).rpu = s.rpu := rfl
@[simp] theorem State.withBcu_oru (f : Bcu → Bcu) : (s.withBcu f).oru = s.oru := rfl
@[simp] theorem State.withBcu_ports (f : Bcu → Bcu) : (s.withBcu f).ports = s.ports := rfl
@[simp] theorem State.withBcu_nvs (f : Bcu → Bcu) : (s.withBcu f).nvs = s.nvs := rfl
@[simp] theorem State.withBcu_powered (f : Bcu → Bcu) : (s.withBcu f).powered = s.powered := rfl
@[simp] theorem State.withBcu_freeIndex (f : Bcu → Bcu) : (s.withBcu f).freeIndex = s.freeIndex := rfl
@[simp] theorem State.withBcu_pending (f : Bcu → Bcu) : (s.withBcu f).pending = s.pending := rfl

/-! ### State.withAu -/

@[simp] theorem State.withAu_clock (f : Au → Au) : (s.withAu f).clock = s.clock := rfl
@[simp] theorem State.withAu_lmu (f : Au → Au) : (s.withAu f).lmu = s.lmu := rfl
@[simp] theorem State.withAu_oeb (f : Au → Au) : (s.withAu f).oeb = s.oeb := rfl
@[simp] theorem State.withAu_sqc (f : Au → Au) : (s.withAu f).sqc = s.sqc := rfl
@[simp] theorem State.withAu_mdr (f : Au → Au) : (s.withAu f).mdr = s.mdr := rfl
@[simp] theorem State.withAu_au (f : Au → Au) : (s.withAu f).au = f s.au := rfl
@[simp] theorem State.withAu_bcu (f : Au → Au) : (s.withAu f).bcu = s.bcu := rfl
@[simp] theorem State.withAu_rpu (f : Au → Au) : (s.withAu f).rpu = s.rpu := rfl
@[simp] theorem State.withAu_oru (f : Au → Au) : (s.withAu f).oru = s.oru := rfl
@[simp] theorem State.withAu_ports (f : Au → Au) : (s.withAu f).ports = s.ports := rfl
@[simp] theorem State.withAu_nvs (f : Au → Au) : (s.withAu f).nvs = s.nvs := rfl
@[simp] theorem State.withAu_powered (f : Au → Au) : (s.withAu f).powered = s.powered := rfl
@[simp] theorem State.withAu_freeIndex (f : Au → Au) : (s.withAu f).freeIndex = s.freeIndex := rfl
@[simp] theorem State.withAu_pending (f : Au → Au) : (s.withAu f).pending = s.pending := rfl

/-! ### State.withMdr -/

@[simp] theorem State.withMdr_clock (f : Mdr → Mdr) : (s.withMdr f).clock = s.clock := rfl
@[simp] theorem State.withMdr_lmu (f : Mdr → Mdr) : (s.withMdr f).lmu = s.lmu := rfl
@[simp] theorem State.withMdr_oeb (f : Mdr → Mdr) : (s.withMdr f).oeb = s.oeb := rfl
@[simp] theorem State.withMdr_sqc (f : Mdr → Mdr) : (s.withMdr f).sqc = s.sqc := rfl
@[simp] theorem State.withMdr_mdr (f : Mdr → Mdr) : (s.withMdr f).mdr = f s.mdr := rfl
@[simp] theorem State.withMdr_au (f : Mdr → Mdr) : (s.withMdr f).au = s.au := rfl
@[simp] theorem State.withMdr_bcu (f : Mdr → Mdr) : (s.withMdr f).bcu = s.bcu := rfl
@[simp] theorem State.withMdr_rpu (f : Mdr → Mdr) : (s.withMdr f).rpu = s.rpu := rfl
@[simp] theorem State.withMdr_oru (f : Mdr → Mdr) : (s.withMdr f).oru = s.oru := rfl
@[simp] theorem State.withMdr_ports (f : Mdr → Mdr) : (s.withMdr f).ports = s.ports := rfl
@[simp] theorem State.withMdr_nvs (f : Mdr → Mdr) : (s.withMdr f).nvs = s.nvs := rfl
@[simp] theorem State.withMdr_powered (f : Mdr → Mdr) : (s.withMdr f).powered = s.powered := rfl
@[simp] theorem State.withMdr_freeIndex (f : Mdr → Mdr) : (s.withMdr f).freeIndex = s.freeIndex := rfl
@[simp] theorem State.withMdr_pending (f : Mdr → Mdr) : (s.withMdr f).pending = s.pending := rfl

/-! ### State.setSequence -/

@[simp] theorem State.setSequence_clock (q : Sequence) : (s.setSequence q).clock = s.clock := rfl
@[simp] theorem State.setSequence_lmu (q : Sequence) : (s.setSequence q).lmu = s.lmu := rfl
@[simp] theorem State.setSequence_oeb (q : Sequence) : (s.setSequence q).oeb = s.oeb := rfl
@[simp] theorem State.setSequence_sqc (q : Sequence) : (s.setSequence q).sqc = { s.sqc with sequence := q } := rfl
@[simp] theorem State.setSequence_mdr (q : Sequence) : (s.setSequence q).mdr = s.mdr := rfl
@[simp] theorem State.setSequence_au (q : Sequence) : (s.setSequence q).au = s.au := rfl
@[simp] theorem State.setSequence_bcu (q : Sequence) : (s.setSequence q).bcu = s.bcu := rfl
@[simp] theorem State.setSequence_rpu (q : Sequence) : (s.setSequence q).rpu = s.rpu := rfl
@[simp] theorem State.setSequence_oru (q : Sequence) : (s.setSequence q).oru = s.oru := rfl
@[simp] theorem State.setSequence_ports (q : Sequence) : (s.setSequence q).ports = s.ports := rfl
@[simp] theorem State.setSequence_nvs (q : Sequence) : (s.setSequence q).nvs = s.nvs := rfl
@[simp] theorem State.setSequence_powered (q : Sequence) : (s.setSequence q).powered = s.powered := rfl
@[simp] theorem State.setSequence_freeIndex (q : Sequence) : (s.setSequence q).freeIndex = s.freeIndex := rfl
@[simp] theorem State.setSequence_pending (q : Sequence) : (s.setSequence q).pending = s.pending := rfl

/-! ### State.setShot -/

@[simp] theorem State.setShot_clock (n : Nat) : (s.setShot n).clock = s.clock := rfl
@[simp] theorem State.setShot_lmu (n : Nat) : (s.setShot n).lmu = s.lmu := rfl
@[simp] theorem State.setShot_oeb (n : Nat) : (s.setShot n).oeb = s.oeb := rfl
@[simp] theorem State.setShot_sqc (n : Nat) : (s.setShot n).sqc = { s.sqc with shot := n } := rfl
@[simp] theorem State.setShot_mdr (n : Nat) : (s.setShot n).mdr = s.mdr := rfl
@[simp] theorem State.setShot_au (n : Nat) : (s.setShot n).au = s.au := rfl
@[simp] theorem State.setShot_bcu (n : Nat) : (s.setShot n).bcu = s.bcu := rfl
@[simp] theorem State.setShot_rpu (n : Nat) : (s.setShot n).rpu = s.rpu := rfl
@[simp] theorem State.setShot_oru (n : Nat) : (s.setShot n).oru = s.oru := rfl
@[simp] theorem State.setShot_ports (n : Nat) : (s.setShot n).ports = s.ports := rfl
@[simp] theorem State.setShot_nvs (n : Nat) : (s.setShot n).nvs = s.nvs := rfl
@[simp] theorem State.setShot_powered (n : Nat) : (s.setShot n).powered = s.powered := rfl
@[simp] theorem State.setShot_freeIndex (n : Nat) : (s.setShot n).freeIndex = s.freeIndex := rfl
@[simp] theorem State.setShot_pending (n : Nat) : (s.setShot n).pending = s.pending := rfl

/-! ### State.setAfterCommand -/

@[simp] theorem State.setAfterCommand_clock (b : Bool) : (s.setAfterCommand b).clock = s.clock := rfl
@[simp] theorem State.setAfterCommand_lmu (b : Bool) : (s.setAfterCommand b).lmu = s.lmu := rfl
@[simp] theorem State.setAfterCommand_oeb (b : Bool) : (s.setAfterCommand b).oeb = s.oeb := rfl
@[simp] theorem State.setAfterCommand_sqc (b : Bool) : (s.setAfterCommand b).sqc = { s.sqc with afterCommand := b } := rfl
@[simp] theorem State.setAfterCommand_mdr (b : Bool) : (s.setAfterCommand b).mdr = s.mdr := rfl
@[simp] theorem State.setAfterCommand_au (b : Bool) : (s.setAfterCommand b).au = s.au := rfl
@[simp] theorem State.setAfterCommand_bcu (b : Bool) : (s.setAfterCommand b).bcu = s.bcu := rfl
@[simp] theorem State.setAfterCommand_rpu (b : Bool) : (s.setAfterCommand b).rpu = s.rpu := rfl
@[simp] theorem State.setAfterCommand_oru (b : Bool) : (s.setAfterCommand b).oru = s.oru := rfl
@[simp] theorem State.setAfterCommand_ports (b : Bool) : (s.setAfterCommand b).ports = s.ports := rfl
@[simp] theorem State.setAfterCommand_nvs (b : Bool) : (s.setAfterCommand b).nvs = s.nvs := rfl
@[simp] theorem State.setAfterCommand_powered (b : Bool) : (s.setAfterCommand b).powered = s.powered := rfl
@[simp] theorem State.setAfterCommand_freeIndex (b : Bool) : (s.setAfterCommand b).freeIndex = s.freeIndex := rfl
@[simp] theorem State.setAfterCommand_pending (b : Bool) : (s.setAfterCommand b).pending = s.pending := rfl

/-! ### State.withStored -/

@[simp] theorem State.withStored_clock (f : BatteryRecord → BatteryRecord) : (s.withStored f).clock = s.clock := rfl
@[simp] theorem State.withStored_lmu (f : BatteryRecord → BatteryRecord) : (s.withStored f).lmu = s.lmu := rfl
@[simp] theorem State.withStored_oeb (f : BatteryRecord → BatteryRecord) : (s.withStored f).oeb = s.oeb := rfl
@[simp] theorem State.withStored_sqc (f : BatteryRecord → BatteryRecord) : (s.withStored f).sqc = s.sqc := rfl
@[simp] theorem State.withStored_mdr (f : BatteryRecord → BatteryRecord) : (s.withStored f).mdr = s.mdr := rfl
@[simp] theorem State.withStored_au (f : BatteryRecord → BatteryRecord) : (s.withStored f).au = s.au := rfl
@[simp] theorem State.withStored_bcu (f : BatteryRecord → BatteryRecord) : (s.withStored f).bcu = { s.bcu with stored := f s.bcu.stored } := rfl
@[simp] theorem State.withStored_rpu (f : BatteryRecord → BatteryRecord) : (s.withStored f).rpu = s.rpu := rfl
@[simp] theorem State.withStored_oru (f : BatteryRecord → BatteryRecord) : (s.withStored f).oru = s.oru := rfl
@[simp] theorem State.withStored_ports (f : BatteryRecord → BatteryRecord) : (s.withStored f).ports = s.ports := rfl
@[simp] theorem State.withStored_nvs (f : BatteryRecord → BatteryRecord) : (s.withStored f).nvs = s.nvs := rfl
@[simp] theorem State.withStored_powered (f : BatteryRecord → BatteryRecord) : (s.withStored f).powered = s.powered := rfl
@[simp] theorem State.withStored_freeIndex (f : BatteryRecord → BatteryRecord) : (s.withStored f).freeIndex = s.freeIndex := rfl
@[simp] theorem State.withStored_pending (f : BatteryRecord → BatteryRecord) : (s.withStored f).pending = s.pending := rfl

/-! ### State.rejudge -/

@[simp] theorem State.rejudge_clock : (s.rejudge).clock = s.clock := rfl
@[simp] theorem State.rejudge_lmu : (s.rejudge).lmu = s.lmu := rfl
@[simp] theorem State.rejudge_oeb : (s.rejudge).oeb = s.oeb := rfl
@[simp] theorem State.rejudge_sqc : (s.rejudge).sqc = s.sqc := rfl
@[simp] theorem State.rejudge_mdr : (s.rejudge).mdr = s.mdr := rfl
@[simp] theorem State.rejudge_au : (s.rejudge).au = s.au := rfl
@[simp] theorem State.rejudge_bcu : (s.rejudge).bcu = s.bcu := rfl
@[simp] theorem State.rejudge_rpu : (s.rejudge).rpu = (s.rpu.rejudgeRadio s.now s.bcu.tier).rejudgeWait s.now s.bcu.tier := rfl
@[simp] theorem State.rejudge_oru : (s.rejudge).oru = s.oru := rfl
@[simp] theorem State.rejudge_ports : (s.rejudge).ports =
    s.ports.keepReceived ((s.rpu.rejudgeRadio s.now s.bcu.tier).rejudgeWait s.now s.bcu.tier).supplied := rfl
@[simp] theorem State.rejudge_nvs : (s.rejudge).nvs = s.nvs := rfl
@[simp] theorem State.rejudge_powered : (s.rejudge).powered = s.powered := rfl
@[simp] theorem State.rejudge_freeIndex : (s.rejudge).freeIndex = s.freeIndex := rfl
@[simp] theorem State.rejudge_pending : (s.rejudge).pending = s.pending := rfl

/-! ### Ports.keepReceived -/

@[simp] theorem Ports.keepReceived_on (p : Ports) : p.keepReceived true = p := rfl
@[simp] theorem Ports.keepReceived_lPartial (on : Bool) (p : Ports) : (p.keepReceived on).lPartial = if on then p.lPartial else [] := rfl
@[simp] theorem Ports.keepReceived_cAnswers (on : Bool) (p : Ports) : (p.keepReceived on).cAnswers = p.cAnswers := rfl
@[simp] theorem Ports.keepReceived_pAnswers (on : Bool) (p : Ports) : (p.keepReceived on).pAnswers = p.pAnswers := rfl
@[simp] theorem Ports.keepReceived_cHold (on : Bool) (p : Ports) : (p.keepReceived on).cHold = p.cHold := rfl
@[simp] theorem Ports.keepReceived_pHold (on : Bool) (p : Ports) : (p.keepReceived on).pHold = p.pHold := rfl
@[simp] theorem Ports.keepReceived_cAlerts (on : Bool) (p : Ports) : (p.keepReceived on).cAlerts = p.cAlerts := rfl
@[simp] theorem Ports.keepReceived_pAlerts (on : Bool) (p : Ports) : (p.keepReceived on).pAlerts = p.pAlerts := rfl
@[simp] theorem Ports.keepReceived_resetCause (on : Bool) (p : Ports) : (p.keepReceived on).resetCause = p.resetCause := rfl
@[simp] theorem Ports.keepReceived_resetIn (on : Bool) (p : Ports) : (p.keepReceived on).resetIn = p.resetIn := rfl
@[simp] theorem Ports.keepReceived_miso (on : Bool) (p : Ports) : (p.keepReceived on).miso = p.miso := rfl
@[simp] theorem Ports.keepReceived_pFrame (on : Bool) (p : Ports) : (p.keepReceived on).pFrame = p.pFrame := rfl
@[simp] theorem Ports.keepReceived_pFree (on : Bool) (p : Ports) : (p.keepReceived on).pFree = p.pFree := rfl
@[simp] theorem Ports.keepReceived_pPartial (on : Bool) (p : Ports) : (p.keepReceived on).pPartial = p.pPartial := rfl

/-! ### State.clearSelection -/

@[simp] theorem State.clearSelection_clock : (s.clearSelection).clock = s.clock := rfl
@[simp] theorem State.clearSelection_lmu : (s.clearSelection).lmu = s.lmu := rfl
@[simp] theorem State.clearSelection_oeb : (s.clearSelection).oeb = s.oeb := rfl
@[simp] theorem State.clearSelection_sqc : (s.clearSelection).sqc = s.sqc := rfl
@[simp] theorem State.clearSelection_mdr : (s.clearSelection).mdr = s.mdr := rfl
@[simp] theorem State.clearSelection_au : (s.clearSelection).au = { s.au with selection := none } := rfl
@[simp] theorem State.clearSelection_bcu : (s.clearSelection).bcu = s.bcu := rfl
@[simp] theorem State.clearSelection_rpu : (s.clearSelection).rpu = s.rpu := rfl
@[simp] theorem State.clearSelection_oru : (s.clearSelection).oru = s.oru := rfl
@[simp] theorem State.clearSelection_ports : (s.clearSelection).ports = s.ports := rfl
@[simp] theorem State.clearSelection_nvs : (s.clearSelection).nvs = s.nvs := rfl
@[simp] theorem State.clearSelection_powered : (s.clearSelection).powered = s.powered := rfl
@[simp] theorem State.clearSelection_freeIndex : (s.clearSelection).freeIndex = s.freeIndex := rfl
@[simp] theorem State.clearSelection_pending : (s.clearSelection).pending = s.pending := rfl

/-! ### State.cancelPanel -/

@[simp] theorem State.cancelPanel_clock (c : CancelCause) : (s.cancelPanel c).clock = s.clock := rfl
@[simp] theorem State.cancelPanel_lmu (c : CancelCause) : (s.cancelPanel c).lmu = s.lmu := rfl
@[simp] theorem State.cancelPanel_oeb (c : CancelCause) : (s.cancelPanel c).oeb = s.oeb := rfl
@[simp] theorem State.cancelPanel_sqc (c : CancelCause) : (s.cancelPanel c).sqc = s.sqc := rfl
@[simp] theorem State.cancelPanel_mdr (c : CancelCause) : (s.cancelPanel c).mdr = s.mdr := rfl
@[simp] theorem State.cancelPanel_au (c : CancelCause) : (s.cancelPanel c).au = { s.au with panel := s.au.panel.cancel c } := rfl
@[simp] theorem State.cancelPanel_bcu (c : CancelCause) : (s.cancelPanel c).bcu = s.bcu := rfl
@[simp] theorem State.cancelPanel_rpu (c : CancelCause) : (s.cancelPanel c).rpu = s.rpu := rfl
@[simp] theorem State.cancelPanel_oru (c : CancelCause) : (s.cancelPanel c).oru = s.oru := rfl
@[simp] theorem State.cancelPanel_ports (c : CancelCause) : (s.cancelPanel c).ports = s.ports := rfl
@[simp] theorem State.cancelPanel_nvs (c : CancelCause) : (s.cancelPanel c).nvs = s.nvs := rfl
@[simp] theorem State.cancelPanel_powered (c : CancelCause) : (s.cancelPanel c).powered = s.powered := rfl
@[simp] theorem State.cancelPanel_freeIndex (c : CancelCause) : (s.cancelPanel c).freeIndex = s.freeIndex := rfl
@[simp] theorem State.cancelPanel_pending (c : CancelCause) : (s.cancelPanel c).pending = s.pending := rfl

/-! ### State.dropCloses -/

@[simp] theorem State.dropCloses_clock (c : CancelCause) : (s.dropCloses c).clock = s.clock := rfl
@[simp] theorem State.dropCloses_lmu (c : CancelCause) : (s.dropCloses c).lmu = s.lmu := rfl
@[simp] theorem State.dropCloses_oeb (c : CancelCause) : (s.dropCloses c).oeb = s.oeb := rfl
@[simp] theorem State.dropCloses_sqc (c : CancelCause) : (s.dropCloses c).sqc = s.sqc := rfl
@[simp] theorem State.dropCloses_mdr (c : CancelCause) : (s.dropCloses c).mdr = s.mdr := rfl
@[simp] theorem State.dropCloses_au (c : CancelCause) : (s.dropCloses c).au = { s.au with selection := none, panel := s.au.panel.cancel c } := rfl
@[simp] theorem State.dropCloses_bcu (c : CancelCause) : (s.dropCloses c).bcu = s.bcu := rfl
@[simp] theorem State.dropCloses_rpu (c : CancelCause) : (s.dropCloses c).rpu = s.rpu := rfl
@[simp] theorem State.dropCloses_oru (c : CancelCause) : (s.dropCloses c).oru = s.oru := rfl
@[simp] theorem State.dropCloses_ports (c : CancelCause) : (s.dropCloses c).ports = s.ports := rfl
@[simp] theorem State.dropCloses_nvs (c : CancelCause) : (s.dropCloses c).nvs = s.nvs := rfl
@[simp] theorem State.dropCloses_powered (c : CancelCause) : (s.dropCloses c).powered = s.powered := rfl
@[simp] theorem State.dropCloses_freeIndex (c : CancelCause) : (s.dropCloses c).freeIndex = s.freeIndex := rfl
@[simp] theorem State.dropCloses_pending (c : CancelCause) : (s.dropCloses c).pending = s.pending := rfl

/-! ### State.answer -/

theorem State.answer_c (a : Answer) :
    s.answer .c a = { s with ports := { s.ports with cAnswers := pushAnswer a s.ports.cAnswers } } := rfl
theorem State.answer_p (a : Answer) :
    s.answer .p a = { s with ports := { s.ports with pAnswers := pushAnswer a s.ports.pAnswers } } := rfl
theorem State.answer_l (a : Answer) :
    s.answer .l a = { s with rpu := { s.rpu with answers := pushAnswer a s.rpu.answers } } := rfl
@[simp] theorem State.answer_clock (port : Port) (a : Answer) : (s.answer port a).clock = s.clock := by cases port <;> rfl
@[simp] theorem State.answer_lmu (port : Port) (a : Answer) : (s.answer port a).lmu = s.lmu := by cases port <;> rfl
@[simp] theorem State.answer_oeb (port : Port) (a : Answer) : (s.answer port a).oeb = s.oeb := by cases port <;> rfl
@[simp] theorem State.answer_sqc (port : Port) (a : Answer) : (s.answer port a).sqc = s.sqc := by cases port <;> rfl
@[simp] theorem State.answer_mdr (port : Port) (a : Answer) : (s.answer port a).mdr = s.mdr := by cases port <;> rfl
@[simp] theorem State.answer_au (port : Port) (a : Answer) : (s.answer port a).au = s.au := by cases port <;> rfl
@[simp] theorem State.answer_bcu (port : Port) (a : Answer) : (s.answer port a).bcu = s.bcu := by cases port <;> rfl
@[simp] theorem State.answer_oru (port : Port) (a : Answer) : (s.answer port a).oru = s.oru := by cases port <;> rfl
@[simp] theorem State.answer_nvs (port : Port) (a : Answer) : (s.answer port a).nvs = s.nvs := by cases port <;> rfl
@[simp] theorem State.answer_powered (port : Port) (a : Answer) : (s.answer port a).powered = s.powered := by cases port <;> rfl
@[simp] theorem State.answer_freeIndex (port : Port) (a : Answer) : (s.answer port a).freeIndex = s.freeIndex := by cases port <;> rfl
@[simp] theorem State.answer_pending (port : Port) (a : Answer) : (s.answer port a).pending = s.pending := by cases port <;> rfl

end

/-! ### The kept measurements (R139) and the tracker settings (R14) -/

@[simp] theorem Lmu.keepMeasured_settings (l : Lmu) : l.keepMeasured.settings = l.settings := rfl
@[simp] theorem Lmu.keepMeasured_tracker (l : Lmu) : l.keepMeasured.tracker = l.tracker := rfl
@[simp] theorem Lmu.keepMeasured_period (l : Lmu) : l.keepMeasured.period = l.period := rfl
@[simp] theorem Lmu.keepMeasured_interval (l : Lmu) : l.keepMeasured.interval = l.interval := rfl
@[simp] theorem Lmu.keepMeasured_lastUpdate (l : Lmu) : l.keepMeasured.lastUpdate = l.lastUpdate := rfl
@[simp] theorem Lmu.keepMeasured_ia (l : Lmu) : l.keepMeasured.ia = l.ia := rfl
@[simp] theorem Lmu.keepMeasured_ib (l : Lmu) : l.keepMeasured.ib = l.ib := rfl
@[simp] theorem Lmu.keepMeasured_ic (l : Lmu) : l.keepMeasured.ic = l.ic := rfl
@[simp] theorem Lmu.keepMeasured_ig (l : Lmu) : l.keepMeasured.ig = l.ig := rfl
@[simp] theorem Lmu.keepMeasured_vaS (l : Lmu) : l.keepMeasured.vaS = l.vaS := rfl
@[simp] theorem Lmu.keepMeasured_vbS (l : Lmu) : l.keepMeasured.vbS = l.vbS := rfl
@[simp] theorem Lmu.keepMeasured_vcS (l : Lmu) : l.keepMeasured.vcS = l.vcS := rfl
@[simp] theorem Lmu.keepMeasured_vaL (l : Lmu) : l.keepMeasured.vaL = l.vaL := rfl
@[simp] theorem Lmu.keepMeasured_vbL (l : Lmu) : l.keepMeasured.vbL = l.vbL := rfl
@[simp] theorem Lmu.keepMeasured_vcL (l : Lmu) : l.keepMeasured.vcL = l.vcL := rfl
@[simp] theorem Lmu.keepMeasured_measuredPeriod (l : Lmu) : l.keepMeasured.measuredPeriod = l.period := rfl
@[simp] theorem Lmu.keepMeasured_measuredTracker (l : Lmu) : l.keepMeasured.measuredTracker = l.tracker := rfl
@[simp] theorem Bcu.keepMeasured_stored (b : Bcu) : b.keepMeasured.stored = b.stored := rfl
@[simp] theorem Bcu.keepMeasured_v (b : Bcu) : b.keepMeasured.v = b.v := rfl
@[simp] theorem Bcu.keepMeasured_i (b : Bcu) : b.keepMeasured.i = b.i := rfl
@[simp] theorem Bcu.keepMeasured_t (b : Bcu) : b.keepMeasured.t = b.t := rfl
@[simp] theorem Bcu.keepMeasured_measured (b : Bcu) : b.keepMeasured.measured = b.measured := rfl
@[simp] theorem Bcu.keepMeasured_lastMeasurement (b : Bcu) : b.keepMeasured.lastMeasurement = b.lastMeasurement := rfl
@[simp] theorem Bcu.keepMeasured_vFloatSet (b : Bcu) : b.keepMeasured.vFloatSet = b.vFloatSet := rfl
@[simp] theorem Bcu.keepMeasured_vAbsSet (b : Bcu) : b.keepMeasured.vAbsSet = b.vAbsSet := rfl
@[simp] theorem Bcu.keepMeasured_acPresent (b : Bcu) : b.keepMeasured.acPresent = b.acPresent := rfl
@[simp] theorem Bcu.keepMeasured_acQualified (b : Bcu) : b.keepMeasured.acQualified = b.acQualified := rfl
@[simp] theorem Bcu.keepMeasured_thermalHold (b : Bcu) : b.keepMeasured.thermalHold = b.thermalHold := rfl
@[simp] theorem Bcu.keepMeasured_charger (b : Bcu) : b.keepMeasured.charger = b.charger := rfl
@[simp] theorem Bcu.keepMeasured_tier (b : Bcu) : b.keepMeasured.tier = b.tier := rfl
@[simp] theorem Bcu.keepMeasured_disconnectSince (b : Bcu) : b.keepMeasured.disconnectSince = b.disconnectSince := rfl
@[simp] theorem Bcu.keepMeasured_floatSum (b : Bcu) : b.keepMeasured.floatSum = b.floatSum := rfl
@[simp] theorem Bcu.keepMeasured_floatCount (b : Bcu) : b.keepMeasured.floatCount = b.floatCount := rfl
@[simp] theorem Bcu.keepMeasured_hotCount (b : Bcu) : b.keepMeasured.hotCount = b.hotCount := rfl
@[simp] theorem Bcu.keepMeasured_test (b : Bcu) : b.keepMeasured.test = b.test := rfl
@[simp] theorem Bcu.keepMeasured_loadOn (b : Bcu) : b.keepMeasured.loadOn = b.loadOn := rfl
@[simp] theorem Bcu.keepMeasured_opInFlight (b : Bcu) : b.keepMeasured.opInFlight = b.opInFlight := rfl
@[simp] theorem Bcu.keepMeasured_recharging (b : Bcu) : b.keepMeasured.recharging = b.recharging := rfl
@[simp] theorem Bcu.keepMeasured_nextDay (b : Bcu) : b.keepMeasured.nextDay = b.nextDay := rfl
@[simp] theorem Bcu.keepMeasured_nextAttempt (b : Bcu) : b.keepMeasured.nextAttempt = b.nextAttempt := rfl
@[simp] theorem Bcu.keepMeasured_lastReason (b : Bcu) : b.keepMeasured.lastReason = b.lastReason := rfl
@[simp] theorem Bcu.keepMeasured_failing (b : Bcu) : b.keepMeasured.failing = b.failing := rfl
@[simp] theorem Bcu.keepMeasured_shutdown (b : Bcu) : b.keepMeasured.shutdown = b.shutdown := rfl
@[simp] theorem Bcu.keepMeasured_contactorClosed (b : Bcu) : b.keepMeasured.contactorClosed = b.contactorClosed := rfl
@[simp] theorem Bcu.keepMeasured_measuredTier (b : Bcu) : b.keepMeasured.measuredTier = b.tier := rfl
@[simp] theorem Bcu.keepMeasured_measuredCharger (b : Bcu) : b.keepMeasured.measuredCharger = b.charger := rfl
@[simp] theorem Lmu.replaceSettings_tracker (new : TrackerSettings) (l : Lmu) : (l.replaceSettings new).tracker = l.tracker := rfl
@[simp] theorem Lmu.replaceSettings_period (new : TrackerSettings) (l : Lmu) : (l.replaceSettings new).period = l.period := rfl
@[simp] theorem Lmu.replaceSettings_interval (new : TrackerSettings) (l : Lmu) : (l.replaceSettings new).interval = l.interval := rfl
@[simp] theorem Lmu.replaceSettings_lastUpdate (new : TrackerSettings) (l : Lmu) : (l.replaceSettings new).lastUpdate = l.lastUpdate := rfl
@[simp] theorem Lmu.replaceSettings_measuredPeriod (new : TrackerSettings) (l : Lmu) : (l.replaceSettings new).measuredPeriod = l.measuredPeriod := rfl
@[simp] theorem Lmu.replaceSettings_measuredTracker (new : TrackerSettings) (l : Lmu) : (l.replaceSettings new).measuredTracker = l.measuredTracker := rfl
@[simp] theorem Lmu.replaceSettings_ia (new : TrackerSettings) (l : Lmu) : (l.replaceSettings new).ia = l.ia := rfl
@[simp] theorem Lmu.replaceSettings_ib (new : TrackerSettings) (l : Lmu) : (l.replaceSettings new).ib = l.ib := rfl
@[simp] theorem Lmu.replaceSettings_ic (new : TrackerSettings) (l : Lmu) : (l.replaceSettings new).ic = l.ic := rfl
@[simp] theorem Lmu.replaceSettings_ig (new : TrackerSettings) (l : Lmu) : (l.replaceSettings new).ig = l.ig := rfl
@[simp] theorem Lmu.replaceSettings_settings (new : TrackerSettings) (l : Lmu) : (l.replaceSettings new).settings = new := rfl

/-! ### State.takeNumber -/

@[simp] theorem State.takeNumber_clock (s : State) : s.takeNumber.1.clock = s.clock := rfl
@[simp] theorem State.takeNumber_lmu (s : State) : s.takeNumber.1.lmu = s.lmu := rfl
@[simp] theorem State.takeNumber_oeb (s : State) : s.takeNumber.1.oeb = s.oeb := rfl
@[simp] theorem State.takeNumber_sqc (s : State) : s.takeNumber.1.sqc = s.sqc := rfl
@[simp] theorem State.takeNumber_mdr (s : State) : s.takeNumber.1.mdr = s.mdr := rfl
@[simp] theorem State.takeNumber_au (s : State) : s.takeNumber.1.au = s.au := rfl
@[simp] theorem State.takeNumber_bcu (s : State) : s.takeNumber.1.bcu = s.bcu := rfl
@[simp] theorem State.takeNumber_rpu (s : State) : s.takeNumber.1.rpu = s.rpu := rfl
@[simp] theorem State.takeNumber_ports (s : State) : s.takeNumber.1.ports = s.ports := rfl
@[simp] theorem State.takeNumber_nvs (s : State) : s.takeNumber.1.nvs = s.nvs := rfl
@[simp] theorem State.takeNumber_powered (s : State) : s.takeNumber.1.powered = s.powered := rfl
@[simp] theorem State.takeNumber_freeIndex (s : State) : s.takeNumber.1.freeIndex = s.freeIndex := rfl
@[simp] theorem State.takeNumber_pending (s : State) : s.takeNumber.1.pending = s.pending := rfl
@[simp] theorem State.takeNumber_ring (s : State) : s.takeNumber.1.oru.ring = s.oru.ring := rfl
@[simp] theorem State.takeNumber_counters (s : State) : s.takeNumber.1.oru.counters =
    { s.oru.counters with next := (s.oru.counters.next + 1) % 65536 } := rfl
@[simp] theorem State.takeNumber_number (s : State) : s.takeNumber.2 = s.oru.counters.next := rfl

end Sys2Proof.Machine
end

