-- ==== Sys2Proof/Laws/Shared.lean ====
section
/-! SUPPORT. For each shared operation, what it can do, said once: the provers cite these instead of unfolding. -/

namespace Sys2Proof.Machine

/-! ### Steps and commands -/

/-- A command's effect is made with the supply present and not without it. -/
theorem act_powered {f : State → State} {s : State} (h : s.powered = true) : act f s = .next (f s).rejudge := by
  simp [act, h]

theorem act_unpowered {f : State → State} {s : State} (h : s.powered = false) : act f s = .next s := by
  simp [act, h]

/-- Every command is answered with a next state. -/
theorem exec_next (c : Instr) (s : State) : ∃ t, exec c s = .next t := by
  cases c <;> exact ⟨_, rfl⟩

theorem step_cons {s : State} {c : Instr} {rest : List Instr} (h : s.pending = c :: rest) :
    step s = exec c { s with pending := rest } := by
  simp [step, h]

theorem step_nil {s : State} (h : s.pending = []) : step s = .next s.idle := by
  simp [step, h]

/-! ### Requests -/

/-- A request that is taken goes to its owner. -/
theorem judgeRequest_takes {kind : RequestKind} {src : Source} {port : Port} {owner : Port → State → Taken} {s : State}
    (h : s.takes kind src port) : s.judgeRequest kind port owner = owner port s := by
  obtain ⟨-, -, hh, hp⟩ := h
  unfold State.judgeRequest
  cases hs : (s.ports.hold port).isSome
  · simp [hp]
  · simp [hp, hh hs]

/-- The owner's reply to a request that is taken is the answer. -/
theorem respond_takes {kind : RequestKind} {src : Source} {ref : Byte} {port : Port} {owner : Port → State → Taken}
    {s : State} (h : s.takes kind src port) :
    respond kind src ref owner s =
      match (owner port s).reply with
      | some (code, body) => (owner port s).state.answer port ⟨kind.code, ref, code, body⟩
      | none => (owner port s).state := by
  cases hr : (owner port s).reply <;> simp [respond, h.2.1, judgeRequest_takes h, hr]

/-- A request that is lost leaves at most the empty indication on the C-port. -/
theorem respond_lost {kind : RequestKind} {src : Source} {ref : Byte} {owner : Port → State → Taken} {s : State}
    (h : s.arrival src = .lost) : respond kind src ref owner s = s.turnedAway src := by
  simp [respond, h]

/-! ### Comparing states -/

/-- Re-judging the radio touches its supply, its holdoff, the channel wait and the frame being received, and nothing else. -/
theorem State.rejudge_spec (s : State) : ∃ radio holdoff wait received,
    s.rejudge = { s with
      rpu := { s.rpu with radio := radio, holdoff := holdoff, channelWait := wait }
      ports := { s.ports with lPartial := received } } := by
  have radio : ∃ radio holdoff,
      s.rpu.rejudgeRadio s.now s.bcu.tier = { s.rpu with radio := radio, holdoff := holdoff } := by
    unfold Rpu.rejudgeRadio
    split
    · split
      · exact ⟨_, _, rfl⟩
      · exact ⟨_, _, rfl⟩
    · split
      · exact ⟨_, _, rfl⟩
      · exact ⟨_, _, rfl⟩
  obtain ⟨radio, holdoff, h⟩ := radio
  exact ⟨radio, holdoff, _, _, by unfold State.rejudge Ports.keepReceived; rw [h]; rfl⟩

@[simp] theorem State.rejudge_supplyAs (t s : State) : t.rejudge.supplyAs s = t.supplyAs s := by
  obtain ⟨_, _, _, _, h⟩ := t.rejudge_spec
  rw [h]; rfl

@[simp] theorem State.rejudge_answersAs (t s : State) : t.rejudge.answersAs s = t.answersAs s := by
  simp only [State.answersAs, State.rejudge_supplyAs]

@[simp] theorem State.rejudge_answersAt (port : Port) (t : State) : t.rejudge.answersAt port = t.answersAt port := by
  obtain ⟨_, _, _, _, h⟩ := t.rejudge_spec
  rw [h]; cases port <;> rfl

@[simp] theorem State.supplyAs_self (s : State) : s.supplyAs s = s := rfl
@[simp] theorem State.answersAs_self (s : State) : s.answersAs s = s := rfl

@[simp] theorem State.answer_answersAs (port : Port) (a : Answer) (t s : State) :
    (t.answer port a).answersAs s = t.answersAs s := by
  cases port <;> rfl

/-- Judging the supply twice is judging it once. -/
theorem Rpu.rejudgeRadio_idem (now : Nat) (tier : Tier) (r : Rpu) :
    (r.rejudgeRadio now tier).rejudgeRadio now tier = r.rejudgeRadio now tier := by
  by_cases w : r.wanted now tier = true
  · by_cases sp : r.supplied = true
    · simp [Rpu.rejudgeRadio, w, sp]
    · have h1 : r.rejudgeRadio now tier = { r with radio := .warming (now + warmUp), holdoff := r.holdoffFrom now } := by
        simp [Rpu.rejudgeRadio, w, sp]
      rw [h1]
      unfold Rpu.rejudgeRadio
      have w' : Rpu.wanted now tier { r with radio := .warming (now + warmUp), holdoff := r.holdoffFrom now } = true := w
      rw [if_pos w', if_pos (by rfl)]
  · by_cases t : (r.supplied && r.tx.isSome) = true
    · have h1 : r.rejudgeRadio now tier = r := by unfold Rpu.rejudgeRadio; rw [if_neg w, if_pos t]
      rw [h1, h1]
    · have h1 : r.rejudgeRadio now tier = { r with radio := .off, holdoff := none } := by
        unfold Rpu.rejudgeRadio; rw [if_neg w, if_neg t]
      rw [h1]
      unfold Rpu.rejudgeRadio
      have w' : ¬ Rpu.wanted now tier { r with radio := .off, holdoff := none } = true := w
      rw [if_neg w', if_neg (by simp [Rpu.supplied])]

/-- After the judgement, a supply that is off has no holdoff (R143). -/
theorem Rpu.rejudgeRadio_off (now : Nat) (tier : Tier) (r : Rpu) (h : (r.rejudgeRadio now tier).radio = .off) :
    (r.rejudgeRadio now tier).holdoff = none := by
  have on (sp : r.supplied = true) (off : r.radio = .off) : False := by simp [Rpu.supplied, off] at sp
  by_cases w : r.wanted now tier = true
  · by_cases sp : r.supplied = true
    · rw [show r.rejudgeRadio now tier = r by simp [Rpu.rejudgeRadio, w, sp]] at h
      exact (on sp h).elim
    · simp [Rpu.rejudgeRadio, w, sp] at h
  · by_cases t : (r.supplied && r.tx.isSome) = true
    · have h1 : r.rejudgeRadio now tier = r := by unfold Rpu.rejudgeRadio; rw [if_neg w, if_pos t]
      rw [h1] at h
      exact (on (by simp at t; exact t.1) h).elim
    · unfold Rpu.rejudgeRadio; rw [if_neg w, if_neg t]

/-- With the supply off after the judgement, neither the holdoff nor the channel wait runs (R143, R144). -/
theorem State.rejudge_off (s : State) (h : s.rejudge.rpu.radio = .off) :
    s.rejudge.rpu.holdoff = none ∧ s.rejudge.rpu.channelWait = none := by
  have off : (s.rpu.rejudgeRadio s.now s.bcu.tier).radio = .off := h
  exact ⟨Rpu.rejudgeRadio_off _ _ _ off, by simp [State.rejudge, Rpu.rejudgeWait, off]⟩

/-- The channel wait has no part in the judgement of the supply. -/
theorem Rpu.rejudgeRadio_wait (now : Nat) (tier : Tier) (r : Rpu) (w : Option Nat) :
    ({ r with channelWait := w } : Rpu).rejudgeRadio now tier = { r.rejudgeRadio now tier with channelWait := w } := by
  have hw : ({ r with channelWait := w } : Rpu).wanted now tier = r.wanted now tier := rfl
  unfold Rpu.rejudgeRadio
  rw [hw]
  by_cases h1 : r.wanted now tier = true
  · by_cases h2 : r.supplied = true
    · have h2' : ({ r with channelWait := w } : Rpu).supplied = true := h2
      simp only [if_pos h1, if_pos h2, if_pos h2']
    · have h2' : ¬ ({ r with channelWait := w } : Rpu).supplied = true := h2
      simp only [if_pos h1, if_neg h2, if_neg h2']; rfl
  · have same : ({ r with channelWait := w } : Rpu).supplied = r.supplied := rfl
    rw [same]
    by_cases h2 : (r.supplied && r.tx.isSome) = true
    · simp only [if_neg h1, if_pos h2]
    · simp only [if_neg h1, if_neg h2]

/-- Judging the channel wait twice is judging it once. -/
theorem Rpu.rejudgeWait_idem (now : Nat) (tier : Tier) (r : Rpu) :
    (r.rejudgeWait now tier).rejudgeWait now tier = r.rejudgeWait now tier := by
  have same (w : Option Nat) : ((({ r with channelWait := w } : Rpu).radio = .on && ({ r with channelWait := w } : Rpu).tx.isNone
      && (Rpu.nextItem now tier { r with channelWait := w }).isSome) = true)
        = ((r.radio = .on && r.tx.isNone && (r.nextItem now tier).isSome) = true) := rfl
  by_cases h : (r.radio = .on && r.tx.isNone && (r.nextItem now tier).isSome) = true
  · have e : r.rejudgeWait now tier = { r with channelWait := some (r.channelWait.getD (now + channelWaitLimit)) } := by
      unfold Rpu.rejudgeWait; rw [if_pos h]
    rw [e]; unfold Rpu.rejudgeWait
    rw [if_pos ((same _).mpr h)]; rfl
  · have e : r.rejudgeWait now tier = { r with channelWait := none } := by
      unfold Rpu.rejudgeWait; rw [if_neg h]
    rw [e]; unfold Rpu.rejudgeWait
    rw [if_neg fun x => h ((same _).mp x)]

/-- Re-judging twice is re-judging once. -/
theorem State.rejudge_idem (s : State) : s.rejudge.rejudge = s.rejudge := by
  have h : ∀ (now : Nat) (tier : Tier) (r : Rpu), (((r.rejudgeRadio now tier).rejudgeWait now tier).rejudgeRadio now tier).rejudgeWait now tier
      = (r.rejudgeRadio now tier).rejudgeWait now tier := by
    intro now tier r
    have e : ((r.rejudgeRadio now tier).rejudgeWait now tier).rejudgeRadio now tier = (r.rejudgeRadio now tier).rejudgeWait now tier := by
      conv => lhs; unfold Rpu.rejudgeWait
      rw [Rpu.rejudgeRadio_wait, Rpu.rejudgeRadio_idem]; rfl
    rw [e, Rpu.rejudgeWait_idem]
  have hr := h s.now s.bcu.tier s.rpu
  unfold State.rejudge
  simp only [State.now] at *
  rw [hr]
  simp only [Ports.keepReceived]
  split <;> rfl

/-- A command's own judgement of the radio and the one of the frame that carries it are one. -/
theorem settle_act {f : State → State} {s : State} (h : s.powered = true) : act f s = .next (settle (act f s) s).rejudge := by
  simp [act_powered h, settle, State.rejudge_idem]

/-- A request taken from its frame has the effect it has as a command (R191). -/
theorem State.takeCommand_exec {c : Instr} {s : State} (hc : c.request.isSome = true) (h : s.powered = true) :
    exec c s = .next (s.takeCommand c).rejudge := by
  cases c <;> first | exact settle_act h | cases hc

/-- A body decodes to a request of its kind, source and reference (R191). -/
theorem RequestKind.decode_request {k : RequestKind} {src : Source} {ref : Byte} {body : List Byte} {c : Instr}
    (h : k.decode src ref body = some c) : c.request = some (k, src, ref) := by
  cases k <;> simp only [RequestKind.decode] at h <;> (try split at h) <;> (try split at h) <;> simp_all [Instr.request]
  all_goals (subst h; rfl)

/-! ### Byte streams (R171) -/

theorem seekStart_start {l : List Byte} (h : l.head? = some 0xA5) : seekStart l = l := by
  obtain _ | ⟨b, rest⟩ := l
  · simp at h
  · simp at h; subst h; rfl

/-- The bytes of one complete frame are that frame. -/
theorem parse_whole {l : List Byte} (h : l.head? = some 0xA5) (h3 : 3 ≤ l.length) (n : ofBytes ((l.drop 1).take 2) + 5 = l.length) :
    parse l = ([l], []) := by
  have e : frames l.length [] = ([], []) := by cases l.length <;> rfl
  unfold parse
  rw [frames]
  simp only [seekStart_start h, frameLength, h3, if_true, n, le_refl, List.drop_length, List.take_length, e]

/-- The bytes of an incomplete frame stay. -/
theorem parse_incomplete {l : List Byte} (h : l.head? = some 0xA5)
    (n : l.length < 3 ∨ l.length < ofBytes ((l.drop 1).take 2) + 5) : parse l = ([], l) := by
  unfold parse
  rw [frames]
  simp only [seekStart_start h, frameLength]
  by_cases h3 : 3 ≤ l.length
  · rw [if_pos h3]
    exact if_neg (by omega)
  · simp [h3]

/-- Bytes without a start byte are dropped. -/
theorem parse_noise {l : List Byte} (h : ∀ b ∈ l, b ≠ 0xA5) : parse l = ([], []) := by
  have e : seekStart l = [] := by
    unfold seekStart
    rw [List.dropWhile_eq_nil_iff]
    intro b hb; simpa [startByte] using h b hb
  unfold parse; rw [frames]; simp [e, frameLength]

/-- An answer joins its own port's list. -/
theorem State.answer_answersAt (port q : Port) (a : Answer) (t : State) :
    (t.answer port a).answersAt q = if q = port then pushAnswer a (t.answersAt q) else t.answersAt q := by
  cases port <;> cases q <;> rfl

/-- Two states that differ in their answer lists and radio supply only, where the lists agree as well. -/
theorem State.answersAs_answersAt {t s u : State} (h : t.answersAs s = u) (port : Port) :
    u.answersAt port = s.answersAt port := by
  subst h; cases port <;> rfl

/-- An event's effect, and the next state it leads to. -/
theorem State.leads_of {c : Instr} {f : State → State} {s u : State} (hp : s.powered = true) (he : exec c s = act f s)
    (hu : (f s).supplyAs s = u) : s.leads c u :=
  ⟨_, by rw [he, act_powered hp], by rw [State.rejudge_supplyAs]; exact hu⟩

/-- A request taken on a port, for its own kind and source. -/
theorem State.taken_elim {c : Instr} {s : State} {kind : RequestKind} {src : Source} {ref : Byte} {port : Port}
    (hc : c.request = some (kind, src, ref)) (h : s.taken c port) : s.takes kind src port := by
  obtain ⟨_, _, _, h1, h2⟩ := h
  rw [hc] at h1; cases h1; exact h2

/-- A request completes as its owner's reply says, when the owner leaves the answer lists alone. -/
theorem State.completes_of {c : Instr} {s u : State} {kind : RequestKind} {src : Source} {ref : Byte} {port : Port}
    {owner : Port → State → Taken} {code : Code} {body : List Byte} (hc : c.request = some (kind, src, ref))
    (he : exec c s = act (respond kind src ref owner) s) (ht : s.takes kind src port)
    (hr : (owner port s).reply = some (code, body)) (hu : (owner port s).state.answersAs s = u)
    (ha : ∀ q, (owner port s).state.answersAt q = s.answersAt q) : s.completes c port code body u := by
  refine ⟨kind, src, ref, _, hc, by rw [he, act_powered ht.1], ?_, ?_, ?_⟩
  · rw [respond_takes ht, hr]; simpa using hu
  · rw [respond_takes ht, hr]; simp [State.answer_answersAt, ha]
  · intro q hq
    rw [respond_takes ht, hr]; simp [State.answer_answersAt, ha, hq]

/-! ### Bounded lists -/

/-- A ring keeps its size. -/
theorem pushRing_length_le {α : Type} {size : Nat} {x : α} {ring : List α} (h : ring.length ≤ size) :
    (pushRing size x ring).length ≤ size := by
  simp only [pushRing, List.length_drop, List.length_append, List.length_singleton]
  omega

/-- With room left, a ring gains the new entry and loses none. -/
theorem pushRing_room {α : Type} {size : Nat} {x : α} {ring : List α} (h : ring.length < size) :
    pushRing size x ring = ring ++ [x] := by
  have : ring.length + 1 - size = 0 := by omega
  simp [pushRing, this]

theorem pushAnswer_length_le {a : Answer} {l : List Answer} (h : l.length ≤ 4) : (pushAnswer a l).length ≤ 4 :=
  pushRing_length_le h

/-! ### The store queue (R184, R185) -/

theorem Nvs.kick_store (n : Nvs) : n.kick.store = n.store := by
  unfold Nvs.kick; split <;> rfl

/-- Taking the oldest entry to be written: nothing, or the queue's head moves to the write in progress. -/
theorem Nvs.kick_cases (n : Nvs) :
    n.kick = n ∨ ∃ c rest, n.writing = none ∧ n.queue = c :: rest ∧
      n.kick = { n with queue := rest, writing := some ⟨c, false⟩ } := by
  unfold Nvs.kick
  split
  · next c rest hw hq => exact .inr ⟨c, rest, hw, hq, rfl⟩
  · exact .inl rfl

theorem Nvs.place_store (c : Content) (n : Nvs) : (n.place c).store = n.store := by
  unfold Nvs.place; rw [Nvs.kick_store]; split <;> rfl

/-- A record written whole passes its check (R183). -/
theorem StoredRecord.whole_passes (c : Content) : (StoredRecord.whole c).passes = true := by
  simp [StoredRecord.passes, StoredRecord.whole]

/-- A torn record fails its check (R183). -/
theorem StoredRecord.torn_fails (c : Content) : (StoredRecord.torn c).passes = false := by
  have h : ∀ w : Word16, ~~~w ≠ w := by
    intro w e
    have := congrArg (fun x => x.getLsbD 0) e
    simp at this
  simp [StoredRecord.passes, StoredRecord.torn, StoredRecord.whole, h]

/-- Replacing the copy of a record, seen from one id. -/
theorem find_replaced (r : StoredRecord) (id : RecordId) : ∀ l : List StoredRecord,
    (l.map fun x => if x.id == r.id then r else x).find? (fun x => x.id == id)
      = if id = r.id then (if l.any (fun x => x.id == r.id) then some r else none) else l.find? fun x => x.id == id
  | [] => by simp
  | x :: rest => by
    have ih := find_replaced r id rest
    by_cases hx : x.id = r.id <;> by_cases hi : id = r.id
    · simp [hx, hi]
    · have h1 : (r.id == id) = false := beq_eq_false_iff_ne.mpr (Ne.symm hi)
      have h2 : (x.id == id) = false := by rw [hx]; exact h1
      rw [if_neg hi] at ih ⊢
      rw [List.map_cons, List.find?_cons, List.find?_cons, h2, ← ih]
      simp only [hx, beq_self_eq_true, if_true, h1]
    · have h1 : (x.id == r.id) = false := beq_eq_false_iff_ne.mpr hx
      have h2 : (x.id == id) = false := by rw [hi]; exact h1
      rw [if_pos hi] at ih ⊢
      rw [List.map_cons, List.find?_cons, List.any_cons, h1, Bool.false_or, ← ih]
      simp only [Bool.false_eq_true, if_false, h2]
    · have h1 : (x.id == r.id) = false := beq_eq_false_iff_ne.mpr hx
      rw [if_neg hi] at ih ⊢
      rw [List.map_cons, List.find?_cons, List.find?_cons, h1, ← ih]
      simp only [Bool.false_eq_true, if_false]

/-- The copy kept of a record is the one written last; the copies of the others stay. -/
theorem Store.keep_find (r : StoredRecord) (id : RecordId) (st : Store) :
    (st.keep r).records.find? (fun x => x.id == id) = if id = r.id then some r else st.records.find? fun x => x.id == id := by
  unfold Store.keep
  split
  · next h => rw [find_replaced, h]; rfl
  · next h =>
    have none_of : st.records.find? (fun x => x.id == r.id) = none := by simpa using h
    by_cases hi : id = r.id
    · simp [List.find?_append, hi, none_of]
    · have : (r.id == id) = false := beq_eq_false_iff_ne.mpr (Ne.symm hi)
      simp [List.find?_append, hi, this]

/-- In a blank store every record fails its check (R183). -/
theorem Store.read_blank (id : RecordId) : Store.blank.read id = none := rfl

/-- A record reads as it was written last, and writing one leaves every other as it was (R183). -/
theorem Store.read_put (c : Content) (id : RecordId) (st : Store) :
    (st.put c).read id = if id = c.id then some c else st.read id := by
  have h := st.keep_find (.whole c) id
  unfold Store.read Store.put
  rw [h]
  split
  · next e => rw [if_pos (show id = c.id from e)]; simp only [Option.bind_some, StoredRecord.whole_passes]; rfl
  · next e => rw [if_neg (show ¬ id = c.id from e)]

/-- A torn record fails its check, and no other record is touched (R183). -/
theorem Store.read_tear (c : Content) (id : RecordId) (st : Store) :
    (st.tear c).read id = if id = c.id then none else st.read id := by
  have h := st.keep_find (.torn c) id
  unfold Store.read Store.tear
  rw [h]
  split
  · next e => rw [if_pos (show id = c.id from e)]; simp only [Option.bind_some, StoredRecord.torn_fails]; rfl
  · next e => rw [if_neg (show ¬ id = c.id from e)]

/-! ### Magnitudes (R2) -/

/-- `rootFrom` finds the largest number whose square times the unit is at most `p`, when it lies between `r` and `r + 2 ^ bits`. -/
theorem rootFrom_spec (unit p : Nat) : ∀ bits r : Nat, r ^ 2 * unit ≤ p → p < (r + 2 ^ bits) ^ 2 * unit →
    (rootFrom unit p bits r) ^ 2 * unit ≤ p ∧ p < (rootFrom unit p bits r + 1) ^ 2 * unit := by
  intro bits
  induction bits with
  | zero => intro r h1 h2; exact ⟨h1, by simpa [rootFrom] using h2⟩
  | succ bits ih =>
    intro r h1 h2
    unfold rootFrom
    split
    · next h => exact ih _ h (by rw [Nat.add_assoc, ← Nat.two_mul, ← Nat.pow_succ']; exact h2)
    · next h => exact ih _ h1 (Nat.lt_of_not_le h)

/-- A window of zero samples has the magnitude 0. -/
theorem magnitude_zeroWindow : magnitude zeroWindow = 0 := by decide +kernel

/-! ### The wires (R197) -/

/-- The levels sampled at the rising edges of SCK are the bits sent. -/
theorem spiSample_wave (bits : List Bool) :
    ∀ before, spiSample before (bits.flatMap fun b => [⟨false, b⟩, ⟨true, b⟩]) = bits := by
  induction bits with
  | nil => intro before; rfl
  | cons b rest ih => intro before; simp [spiSample, ih]

theorem spiSample_spiWave (bytes : List Byte) : spiSample false (spiWave bytes) = bytes.flatMap spiBits := spiSample_wave _ _

/-- A character takes ten bit times. -/
theorem uartWave_length (bytes : List Byte) : (uartWave bytes).length = 10 * bytes.length := by
  induction bytes with
  | nil => rfl
  | cons b rest ih => simp [uartWave, uartBits] at ih ⊢; omega

/-! ### Alerts (R177) -/

/-- An occurrence sets its own sticky bit and no mask bit. -/
theorem AlertSet.raise_spec (f : Flag) (a : AlertSet) :
    (a.raise f).sticky = a.sticky ||| f.bit ∧ (a.raise f).mask = a.mask := ⟨rfl, rfl⟩

/-! ### Settings activation and LOCKOUT (R42, R43, R50) -/

/-- The activation test does nothing, or activates a staged copy at a quiet moment. -/
theorem State.activationTest_cases (s : State) :
    s.activationTest = s ∨
      ∃ staged, s.sqc.staged = some staged ∧ s.sqc.quiet = true ∧ s.activationTest = s.activate staged := by
  unfold State.activationTest
  split
  · next staged h =>
    by_cases hq : s.sqc.quiet = true
    · exact .inr ⟨staged, h, hq, by simp [hq]⟩
    · exact .inl (by simp [hq])
  · exact .inl rfl

/-- Activation touches the SQC, the store queue, the alert sets and the report pool. -/
theorem State.activate_frame (staged : Settings) (s : State) :
    (s.activate staged).mdr = s.mdr ∧ (s.activate staged).au = s.au ∧ (s.activate staged).bcu = s.bcu
      ∧ (s.activate staged).lmu = s.lmu ∧ (s.activate staged).oeb = s.oeb ∧ (s.activate staged).oru = s.oru
      ∧ (s.activate staged).clock = s.clock ∧ (s.activate staged).powered = s.powered := by
  simp [State.activate]

theorem State.activate_sqc (staged : Settings) (s : State) :
    (s.activate staged).sqc =
      { s.sqc with active := staged, staged := none, shot := min s.sqc.shot staged.trips } := by
  simp [State.activate]

/-- LOCKOUT is entered once: in LOCKOUT a further cause changes nothing (R50). -/
theorem State.enterLockout_lockout {s : State} {held cause : LockoutCause} {origin : Origin}
    (h : s.sqc.sequence = .lockout held) : s.enterLockout cause origin = s := by
  simp [State.enterLockout, h]

/-! ### The arbiter (R66 to R68) -/

/-- What a trip request does, by what is in flight (Table 4-3). -/
theorem State.requestTripWith_cases (origin : Origin) (element : Option Element) (currents : Currents) (s : State) :
    (s.mdr.op = none ∧ s.requestTripWith origin element currents = s.beginTrip origin element currents)
      ∨ (∃ op, s.mdr.op = some op ∧ op.kind = .trip ∧
          s.requestTripWith origin element currents =
            if op.origins.contains origin then s
            else s.withMdr fun m => { m with op := some { op with origins := op.origins ++ [origin] } })
      ∨ (∃ op, s.mdr.op = some op ∧ op.kind = .close ∧
          s.requestTripWith origin element currents = s.cutClose origin element currents op) := by
  unfold State.requestTripWith
  cases h : s.mdr.op with
  | none => exact .inl ⟨rfl, rfl⟩
  | some op =>
    cases hk : op.kind with
    | trip => exact .inr (.inl ⟨op, rfl, hk, by simp [hk]⟩)
    | close => exact .inr (.inr ⟨op, rfl, hk, by simp [hk]⟩)

/-- A close fires exactly when no condition of the permit fails; otherwise nothing changes (R68). -/
theorem State.requestClose_cases (origin : Origin) (s : State) :
    (s.closeFailed origin = [] ∧ s.requestClose origin = (s.beginClose origin, []))
      ∨ (s.closeFailed origin ≠ [] ∧ s.requestClose origin = (s, s.closeFailed origin)) := by
  unfold State.requestClose
  cases h : s.closeFailed origin with
  | nil => exact .inl ⟨rfl, rfl⟩
  | cons a l => exact .inr ⟨by simp, rfl⟩

/-- The latch after setting it is set; setting it again changes nothing (R81). -/
theorem State.setLatch_latch (s : State) : s.setLatch.mdr.latch = true := by
  unfold State.setLatch
  split
  · assumption
  · rfl

/-! ### The link (R150) -/

/-- After a change of score the standing follows it. -/
theorem State.restand_standing (s : State) :
    s.restand.rpu.standing = standingOf s.rpu.settings.warnLevel s.rpu.score := by
  unfold State.restand
  dsimp only
  split
  · next h => exact h.symm
  · rfl

/-! ### What does not touch the radio supply and the answer lists -/

/-- The radio supply, the answer list and the other fields of transmission play no part in making an alarm. -/
theorem Rpu.alarm_frame (r : Rpu) (now : Stamp) (id : AlarmId) (payload : List Byte) (radio : Radio) (holdoff wait : Option Nat)
    (answers : List Answer) :
    ({ r with radio := radio, holdoff := holdoff, channelWait := wait, answers := answers } : Rpu).alarm now id payload
      = { r.alarm now id payload with radio := radio, holdoff := holdoff, channelWait := wait, answers := answers } := by
  unfold Rpu.alarm
  dsimp only
  split
  · rfl
  · split <;> rfl

theorem Rpu.evict_frame (r : Rpu) (radio : Radio) (holdoff wait : Option Nat) (answers : List Answer) :
    ({ r with radio := radio, holdoff := holdoff, channelWait := wait, answers := answers } : Rpu).evict
      = { r.evict with radio := radio, holdoff := holdoff, channelWait := wait, answers := answers } := by
  have count : ({ r with radio := radio, holdoff := holdoff, channelWait := wait, answers := answers } : Rpu).eventOrMeasureCount
      = r.eventOrMeasureCount := rfl
  unfold Rpu.evict
  rw [count]
  dsimp only
  split
  · rfl
  · split <;> rfl

theorem Rpu.event_frame (r : Rpu) (now : Stamp) (kind : EventKind) (payload : List Byte) (radio : Radio) (holdoff wait : Option Nat)
    (answers : List Answer) :
    ({ r with radio := radio, holdoff := holdoff, channelWait := wait, answers := answers } : Rpu).event now kind payload
      = { r.event now kind payload with radio := radio, holdoff := holdoff, channelWait := wait, answers := answers } := by
  unfold Rpu.event
  rw [Rpu.evict_frame]
  rfl

/-- What an alarm leaves of the RPU. -/
theorem Rpu.alarm_keeps (r : Rpu) (now : Stamp) (id : AlarmId) (payload : List Byte) :
    (r.alarm now id payload).radio = r.radio ∧ (r.alarm now id payload).holdoff = r.holdoff
      ∧ (r.alarm now id payload).channelWait = r.channelWait ∧ (r.alarm now id payload).answers = r.answers := by
  unfold Rpu.alarm
  split
  · exact ⟨rfl, rfl, rfl, rfl⟩
  · split <;> exact ⟨rfl, rfl, rfl, rfl⟩

theorem Rpu.evict_keeps (r : Rpu) :
    r.evict.radio = r.radio ∧ r.evict.holdoff = r.holdoff ∧ r.evict.channelWait = r.channelWait ∧ r.evict.answers = r.answers := by
  unfold Rpu.evict
  split
  · exact ⟨rfl, rfl, rfl, rfl⟩
  · split <;> exact ⟨rfl, rfl, rfl, rfl⟩

/-- What an event leaves of the RPU. -/
theorem Rpu.event_keeps (r : Rpu) (now : Stamp) (kind : EventKind) (payload : List Byte) :
    (r.event now kind payload).radio = r.radio ∧ (r.event now kind payload).holdoff = r.holdoff
      ∧ (r.event now kind payload).channelWait = r.channelWait ∧ (r.event now kind payload).answers = r.answers := by
  exact r.evict_keeps

theorem State.raise_supplyAs (f : Flag) (t s : State) : (t.raise f).supplyAs s = (t.supplyAs s).raise f := rfl
theorem State.raise_answersAs (f : Flag) (t s : State) : (t.raise f).answersAs s = (t.answersAs s).raise f := rfl

theorem State.place_supplyAs (id : RecordId) (t s : State) : (t.place id).supplyAs s = (t.supplyAs s).place id := by
  cases id <;> rfl

theorem State.place_answersAs (id : RecordId) (t s : State) : (t.place id).answersAs s = (t.answersAs s).place id := by
  cases id <;> rfl

theorem State.alarm_supplyAs (id : AlarmId) (payload : List Byte) (t s : State) :
    (t.alarm id payload).supplyAs s = (t.supplyAs s).alarm id payload := by
  have h := t.rpu.alarm_frame t.stamp id payload s.rpu.radio s.rpu.holdoff s.rpu.channelWait t.rpu.answers
  have k := (t.rpu.alarm_keeps t.stamp id payload).2.2.2
  simp only [State.supplyAs, State.alarm] at *
  refine congrArg (fun r => ({ t with rpu := r, ports := { t.ports with lPartial := s.ports.lPartial } } : State)) ?_
  refine Eq.trans ?_ h.symm
  rw [← k]

theorem State.event_supplyAs (kind : EventKind) (payload : List Byte) (t s : State) :
    (t.event kind payload).supplyAs s = (t.supplyAs s).event kind payload := by
  have h := t.rpu.event_frame t.stamp kind payload s.rpu.radio s.rpu.holdoff s.rpu.channelWait t.rpu.answers
  have k := (t.rpu.event_keeps t.stamp kind payload).2.2.2
  simp only [State.supplyAs, State.event] at *
  refine congrArg (fun r => ({ t with rpu := r, ports := { t.ports with lPartial := s.ports.lPartial } } : State)) ?_
  refine Eq.trans ?_ h.symm
  rw [← k]

theorem State.alarm_answersAs (id : AlarmId) (payload : List Byte) (t s : State) :
    (t.alarm id payload).answersAs s = (t.answersAs s).alarm id payload := by
  have h := t.rpu.alarm_frame t.stamp id payload s.rpu.radio s.rpu.holdoff s.rpu.channelWait s.rpu.answers
  simp only [State.answersAs, State.supplyAs, State.alarm] at *
  exact congrArg (fun r => ({ t with
    ports := { t.ports with
      cAnswers := s.ports.cAnswers, pAnswers := s.ports.pAnswers, lPartial := s.ports.lPartial }, rpu := r } : State)) h.symm

theorem State.event_answersAs (kind : EventKind) (payload : List Byte) (t s : State) :
    (t.event kind payload).answersAs s = (t.answersAs s).event kind payload := by
  have h := t.rpu.event_frame t.stamp kind payload s.rpu.radio s.rpu.holdoff s.rpu.channelWait s.rpu.answers
  simp only [State.answersAs, State.supplyAs, State.event] at *
  exact congrArg (fun r => ({ t with
    ports := { t.ports with
      cAnswers := s.ports.cAnswers, pAnswers := s.ports.pAnswers, lPartial := s.ports.lPartial }, rpu := r } : State)) h.symm

/-- After an alarm is asked for, one of its identity is queued or held with its payload (R136). -/
theorem Rpu.alarm_mem (r : Rpu) (now : Stamp) (id : AlarmId) (payload : List Byte) :
    ∃ x ∈ (r.alarm now id payload).qAlarm ++ (r.alarm now id payload).held, x.kind = .alarm id ∧ x.payload = payload := by
  have merged {l : List Report} (h : l.any (fun x => x.kind == .alarm id) = true) :
      ∃ x ∈ l.map (Report.merge id payload), x.kind = .alarm id ∧ x.payload = payload := by
    obtain ⟨x, hx, hk⟩ := List.any_eq_true.mp h
    refine ⟨Report.merge id payload x, List.mem_map_of_mem hx, ?_⟩
    have hk' : x.kind = .alarm id := by simpa using hk
    simp [Report.merge, hk']
  unfold Rpu.alarm
  split
  · rename_i h
    obtain ⟨x, hx, hk⟩ := merged h
    exact ⟨x, List.mem_append_left _ hx, hk⟩
  · split
    · rename_i h
      obtain ⟨x, hx, hk⟩ := merged h
      exact ⟨x, List.mem_append_right _ hx, hk⟩
    · exact ⟨r.fresh now (.alarm id) payload 1, by simp, rfl, rfl⟩

/-! ### The source list and the kept measurements (R14, R139) -/

/-- New settings delist the channels that have left the list and leave the others as they are. -/
theorem Lmu.replaceSettings_channel (new : TrackerSettings) (l : Lmu) (c : Channel) :
    (l.replaceSettings new).channel c =
      if c ∈ l.settings.sources ∧ c ∉ new.sources then (l.channel c).delist else l.channel c := by
  cases c <;> simp [Lmu.channel, Lmu.replaceSettings, TrackerSettings.leave]

/-- A delisted channel keeps its measurement of the line; its period is absent and it is not good. -/
theorem VoltageChannel.delist_spec (v : VoltageChannel) :
    v.delist.period = none ∧ v.delist.goodSince = none ∧ { v.delist with cycles := v.cycles, goodSince := v.goodSince } = v :=
  ⟨rfl, rfl, rfl⟩

/-- After a measurement update the kept period and tracker state are those in force. -/
theorem State.measureLine_measured (r : Readings) (s : State) :
    (s.measureLine r).lmu.measuredPeriod = (s.measureLine r).lmu.period
    ∧ (s.measureLine r).lmu.measuredTracker = (s.measureLine r).lmu.tracker := ⟨rfl, rfl⟩

/-! ### Contacts (Table 5-1, R89, R90, R110, R113) -/

section
variable {α : Type} (k : Contact α) {s : State}

/-- A reading that does not stand long enough yet is not taken. -/
theorem Contact.settle_standing (h : ∀ x, k.stand s = some x → s.now < x.ends) : k.settle s = s := by
  unfold Contact.settle
  split
  · rename_i x hx
    rw [if_neg (Nat.not_le.mpr (h x hx))]
  · rfl

/-- A reading whose stand is over is taken, and its stand ends. -/
theorem Contact.settle_over {x : Stand α} (h : k.stand s = some x) (ended : x.ends ≤ s.now) :
    k.settle s = k.take x.reading (k.keep none s) := by
  simp [Contact.settle, h, ended]

/-- The command of a reading that stands brings the running time up and takes it; `reach` touches no stand. -/
theorem Contact.hear_stood [DecidableEq α] {reading : α} {d : Nat} (h : k.stand s = some ⟨reading, d⟩)
    (same : k.stand (s.reach d) = k.stand s) : k.hear reading s = k.take reading (k.keep none (s.reach d)) := by
  have ended : d ≤ (s.reach d).now := Nat.le_max_left _ _
  simp [Contact.hear, h, k.settle_over (same.trans h) ended]

/-- The command of any other reading is the contact's change. -/
theorem Contact.hear_change [DecidableEq α] {reading : α} (h : ∀ d, k.stand s ≠ some ⟨reading, d⟩) :
    k.hear reading s = k.changes reading s := by
  unfold Contact.hear
  split
  · rename_i x hx
    refine if_neg fun e => h x.ends ?_
    rw [hx, ← e]
  · rfl

/-- A change while no other reading has stood its time begins a stand, or ends the one there was. -/
theorem Contact.changes_standing [DecidableEq α] {reading : α} (h : ∀ x, k.stand s = some x → s.now < x.ends) :
    k.changes reading s = k.keep (if k.inForce s = some reading then none else some ⟨reading, s.now + k.time⟩) s := by
  simp [Contact.changes, k.settle_standing h, Contact.next]

end

end Sys2Proof.Machine
end

