-- ==== Sys2Proof/WellFormed.lean ====
section
/-! DEFINITION. Which commands the outside world can send: a request's fields fit the bytes its frame gives them, and its note and lists have a length a body may have (R191), and a reading lies in the range the rules give the input (R83, R112). `exec` has a meaning for every command, well-formed or not. -/

namespace Sys2Proof

/-- A number that fits `bytes` bytes of a frame. -/
def fits (bytes n : Nat) : Bool := n < 256 ^ bytes

/-- One number for each width, each fitting its own (R191). -/
def fitsAll (widths fields : List Nat) : Bool :=
  fields.length == widths.length && (widths.zip fields).all fun p => fits p.1 p.2

/-- Battery voltage, current and temperature lie in the ranges of R112. -/
def batteryReadingsOk (v : Nat) (i t : Int) : Bool :=
  v ≤ 40000 && (-60000 ≤ i && i ≤ 60000) && (-400 ≤ t && t ≤ 850)

/-- The command's operands are ones its frame or its input can carry. -/
def Instr.wellFormed : Instr → Bool
  | .tagPlace _ _ kind crew note => fits 1 kind && fits 2 crew && note.length ≤ 24
  | .tagRemove _ _ slot crew => fits 1 slot && fits 2 crew
  | .recloseBlock _ _ value => fits 1 value
  | .settingsWrite _ _ fields => fitsAll Machine.settingsWidths fields
  | .settingsRead _ _ which => fits 1 which
  | .curveLoad _ _ curve points =>
      fits 1 curve && points.length == 8 && points.all fun p => fits 2 p.1 && fits 4 p.2
  | .mechanismSettings _ _ fields => fitsAll Machine.mechanismWidths fields
  | .batterySettings _ _ fields => fitsAll Machine.batteryWidths fields
  | .batteryTest _ _ mode => fits 1 mode
  | .readRecord _ _ number => fits 2 number
  | .readCounters _ _ limit => limit.all (fits 4)
  | .timeSet _ _ seconds millis => fits 4 seconds && fits 2 millis
  | .trackerSources _ _ sources freq volts squelch =>
      1 ≤ sources.length && sources.length ≤ 4 && sources.all (fits 1) && fits 2 freq && fits 2 volts && fits 1 squelch
  | .linkSettings _ _ fields => fitsAll Machine.linkWidths fields
  | .ack _ number => fits 2 number
  | .sourceCycleComplete _ length => 0 < length
  | .capacitorMeasurement v => v ≤ 300000
  | .batteryMeasurement v i t => batteryReadingsOk v i t
  | .restTimerExpiry v => v ≤ 40000
  | .loadTimerExpiry v i => batteryReadingsOk v i 0
  | .notBeforeTimeReached number => fits 2 number
  | _ => true

end Sys2Proof
end

