-- ==== Sys2Proof/Tests/Slice0.lean ====
section
/-! SUPPORT. Own tests: ill-formed commands, values from the spec's tables and worked examples, single steps, and for every statement with hypotheses a state that meets them. -/

set_option Elab.async false

namespace Sys2Proof.Tests

open Sys2Proof Sys2Proof.Machine

/-! ### States for the tests -/

/-- A part in service: closed in READY, REMOTE, no tags, a full bank, AC present, the radio on, nothing waiting to be written. -/
def good : State :=
  let r := State.reset
  { r with
    sqc := { r.sqc with sequence := .ready, reported := true }
    mdr := { r.mdr with poles := ⟨.closed, .closed, .closed⟩, latch := false, vcap := 220000, estimate := 164560 }
    oeb := { r.oeb with hotActive := false }
    au :=
      { r.au with
        tags := [], placements := 0, mode := .remoteMode, modeTaken := true, handlePulled := false, buttonPressed := false }
    bcu := { r.bcu with acPresent := true, acQualified := true, measured := true }
    rpu := { r.rpu with qAlarm := [], qEvent := [], radio := .on, holdoff := some 0 }
    nvs := ⟨r.nvs.store, [], none⟩ }

/-- The same part with its poles open, in the sequence state. -/
def opened (q : Sequence) : State :=
  { good with sqc := { good.sqc with sequence := q }, mdr := { good.mdr with poles := ⟨.opened, .opened, .opened⟩ } }

def inMode (mode : ControlMode) (s : State) : State := { s with au := { s.au with mode := mode } }

def withOp (op : Operation) (s : State) : State :=
  { s with
    mdr := { s.mdr with op := some op, tripDrive := op.drivesTrip, closeDrive := op.drivesClose }
    bcu := { s.bcu with opInFlight := true } }

def withPoles (p : Poles) (s : State) : State := { s with mdr := { s.mdr with poles := p } }

def inSequence (q : Sequence) (s : State) : State := { s with sqc := { s.sqc with sequence := q } }

def withTest (phase : TestPhase) (port : Option Port) (s : State) : State :=
  { s with bcu := { s.bcu with
      test := some ⟨if port.isSome then .attended else .background, port, phase, 0, none⟩, charger := .testHold
      stored := { s.bcu.stored with pending := true } } }

def tripOp : Operation := ⟨.trip, [.c], .pulse, false, 0, 164560, false, none, ⟨0, 0, 0, 0⟩, 7⟩
def closeOp : Operation := ⟨.close, [.c], .pulse, false, 0, 164560, false, none, ⟨0, 0, 0, 0⟩, 7⟩

def allClosed : Contacts := ⟨⟨true, false⟩, ⟨true, false⟩, ⟨true, false⟩⟩
def allOpen : Contacts := ⟨⟨false, true⟩, ⟨false, true⟩, ⟨false, true⟩⟩
def mixed : Contacts := ⟨⟨true, false⟩, ⟨true, false⟩, ⟨false, true⟩⟩

/-- The same sample four times. -/
def flat (value : Int) (clipped : Bool) : Samples := ⟨⟨value, clipped⟩, ⟨value, clipped⟩, ⟨value, clipped⟩, ⟨value, clipped⟩⟩

/-- Samples of a fault from phase A to phase B that the front end clips; nothing on phase C and on the voltages. -/
def readings : Readings :=
  let still := flat 0 false
  ⟨flat 20000000 true, flat (-20000000) true, still, still, still, still, still, still, still⟩

def hotTag : Tag := ⟨0, .hotLine, .p, 4127, ⟨0, 0, true⟩, [], 0⟩

def report (object number : Nat) (kind : ReportKind) : Report := ⟨object, kind, number, ⟨0, 0, true⟩, number, [], 0, none, 1⟩

/-- The next state of a command. -/
def after (c : Instr) (s : State) : State :=
  match exec c s with
  | .next t => t
  | _ => s

/-- The result code of the newest answer on a port. -/
def answered (port : Port) (s : State) : Option Code := (s.newestAnswer port).map Answer.code

/-! ### Ill-formed commands -/

/-- One ill-formed command for each check of `Instr.wellFormed`. -/
def illFormed : List Instr :=
  [.tagPlace .c 1 256 1 [], .tagPlace .c 1 1 65536 [], .tagPlace .c 1 1 1 (List.replicate 25 0x20), .tagRemove .c 1 256 1,
   .tagRemove .c 1 0 65536, .recloseBlock .c 1 256, .settingsWrite .c 1 [1], .settingsWrite .c 1 (65536 :: List.replicate 32 0),
   .settingsWrite .c 1 ([0, 0, 256] ++ List.replicate 30 0),
   .settingsRead .c 1 256, .curveLoad .c 1 256 curveD1, .curveLoad .c 1 5 [(1, 1)],
   .curveLoad .c 1 5 (List.replicate 8 (65536, 1)), .curveLoad .c 1 5 (List.replicate 8 (1, 4294967296))]

def illFormedToo : List Instr :=
  [.mechanismSettings .c 1 [1], .mechanismSettings .c 1 [65536, 2, 3, 4], .batterySettings .c 1 [1],
   .batterySettings .c 1 (List.replicate 14 0 ++ [256]), .batteryTest .c 1 256, .readRecord .c 1 65536,
   .readCounters .c 1 (some 4294967296), .timeSet .c 1 4294967296 0, .timeSet .c 1 0 65536,
   .trackerSources .c 1 [] 0 0 0, .trackerSources .c 1 [1, 2, 3, 4, 5] 0 0 0, .trackerSources .c 1 [256] 0 0 0, .trackerSources .c 1 [1] 65536 0 0,
   .trackerSources .c 1 [1] 0 65536 0, .trackerSources .c 1 [1] 0 0 256]

def illFormedEvents : List Instr :=
  [.linkSettings .c 1 [1], .linkSettings .c 1 (List.replicate 10 0 ++ [256]), .ack 1 65536, .sourceCycleComplete .vaS 0,
   .capacitorMeasurement 300001, .batteryMeasurement 40001 0 0, .batteryMeasurement 0 60001 0, .batteryMeasurement 0 0 851,
   .restTimerExpiry 40001, .loadTimerExpiry 0 (-60001), .notBeforeTimeReached 65536]

theorem test_wellFormed_refuses_requests : (illFormed ++ illFormedToo).all (fun c => !c.wellFormed) = true := by decide +kernel
theorem test_wellFormed_refuses_events : illFormedEvents.all (fun c => !c.wellFormed) = true := by decide +kernel
theorem test_wellFormed_takes_a_crew_tag : (Instr.tagPlace .p 1 1 4127 [0x53]).wellFormed = true := by decide +kernel

/-! ### Reset -/

/-- 10.6: the state after reset is the one a power-on with a blank store leaves. -/
theorem test_reset_is_the_factory_power_on : exec (.powerOn none) (.dark .blank true 0 []) = .next State.reset := by rfl

/-- R63, R88: the SQC starts in OPEN with the counter at 0, the MDR with nothing in flight. -/
theorem test_reset_sequence :
    State.reset.sqc.sequence = .opened ∧ State.reset.sqc.shot = 0 ∧ State.reset.mdr.op = none ∧ State.reset.mdr.latch = true := by
  decide +kernel

/-! ### Values of the spec's tables and worked examples -/

/-- R196: the check string. -/
theorem test_crc_check_string : crc [0x31, 0x32, 0x33, 0x34, 0x35, 0x36, 0x37, 0x38, 0x39] = 0x29B1 := by decide +kernel

/-- R196: the register after each byte of a STATUS READ. -/
theorem test_crc_registers :
    crc [0xA5] = 0x04BF ∧ crc [0xA5, 0x00] = 0xFF84 ∧ crc [0xA5, 0x00, 0x02] = 0xBAB2 ∧ crc [0xA5, 0x00, 0x02, 0x01] = 0xA4B0 := by
  decide +kernel

/-- R196: the complete frame. -/
theorem test_status_read_frame : frame [0x01, 0x10] = [0xA5, 0x00, 0x02, 0x01, 0x10, 0x57, 0x5F] := by decide +kernel

/-- R83: a full bank, and the voltage at which a close becomes possible again. -/
theorem test_energy_of_the_bank : energyOf 6800 220000 = 164560 ∧ energyOf 6800 171499 = 100000 ∧ energyOf 6800 171498 < 100000 := by
  decide +kernel

/-- 2.11: D2 at M = 250 and dial 50 operates in 1,500 ms; 3.11: F1 at M = 250 is 75 ms. -/
theorem test_curve_times : operateTime (curveTime curveD2 250) 50 0 = 1500 ∧ curveTime curveF1 250 = 75 := by decide +kernel

/-- 2.13: the multiple is clamped, and so is the operate time. -/
theorem test_limits_of_the_arithmetic : multiple 20000 400 = 4000 ∧ curveTime curveF1 4000 = 20 ∧ operateTime 20 5 0 = 20 := by decide +kernel

/-- 2.11, 2.12: one update of 2,083 µs adds 1,388 at 1,500 ms, and decays by 1,041 at 2,000 ms. -/
theorem test_integration_and_decay : integrate 2083 1500 0 = 1388 ∧ decay Settings.default 2083 416400 = 415359 := by decide +kernel

/-- Table 6-2. -/
theorem test_compensation :
    [250, 0, -195, -300, 500, 530].map (compensated 27000) = [27000, 27900, 28584, 28620, 26100, 26100]
      ∧ [250, 0, -195, -300, 500, 530].map (compensated 28800) = [28800, 29700, 30000, 30000, 27900, 27900] := by decide +kernel

/-- R147: with the defaults the gaps are 5, 10 and 20 s; with a retry base of 60,000 ms, 120 s from the second on. -/
theorem test_backoff :
    [1, 2, 3].map (fun n => LinkSettings.default.backoff n) = [5000000, 10000000, 20000000]
      ∧ ({ LinkSettings.default with retryBase := 60000 } : LinkSettings).backoff 2 = 120000000 := by decide +kernel

/-- R143: 50 ms for slot 0 and 350 ms for slot 15. -/
theorem test_holdoff : holdoffLength 0 = 50000 ∧ holdoffLength 15 = 350000 := by decide +kernel

/-- R11: the nominal periods at 60 Hz and 50 Hz, and the frequency of the first. -/
theorem test_nominal_periods :
    TrackerSettings.default.nominalPeriod = 16667 ∧ ({ TrackerSettings.default with nominalFreq := 5000 } : TrackerSettings).nominalPeriod = 20000
      ∧ frequencyOf 16667 = 6000 := by decide +kernel

/-- 8.8: 8,000 A add 6,400 to a pole's wear, and pass the limit. -/
theorem test_wear : wearAdd 1995000 8000 = 2001400 ∧ passed 2000000 2001400 false = true := by decide +kernel

/-! ### Single steps: requests -/

/-- R69, 3.11: the trip pulse debits E_trip. -/
theorem test_trip_debits : (after (.trip .c 1) good).mdr.estimate = 134560 ∧ answered .c (after (.trip .c 1) good) = some .accepted := by
  decide +kernel

/-- 5.9: a CLOSE from the panel with a tag present is answered TAG. -/
theorem test_close_meets_a_tag :
    answered .p (after (.close .p 1) (inMode .localMode { opened .opened with au := { good.au with tags := [hotTag] } })) = some .mode
      ∨ answered .p (after (.close .p 1) { opened .opened with au := { good.au with tags := [hotTag], mode := .localMode } }) = some .tag := by
  decide +kernel

/-- 5.9: SELECT CLOSE in LOCAL is answered MODE. -/
theorem test_selectClose_in_local : answered .l (after (.selectClose (.l 1) 1) (inMode .localMode (opened (.lockout .tag)))) = some .mode := by
  decide +kernel

/-- R103: an OPERATE CLOSE of another reference is answered NOT_SELECTED. -/
theorem test_operateClose_of_another_reference :
    answered .c (after (.operateClose .c 2 9) { opened .opened with au := { good.au with selection := some ⟨.c, 8, 0, 10⟩ } })
      = some .notSelected := by decide +kernel

/-- 5.9: a HOT_LINE tag in an interval takes slot 0 and ends the sequence. -/
theorem test_tagPlace_in_an_interval :
    let t := after (.tagPlace .p 1 1 4127 [0x53]) (opened (.interval 6000000))
    t.sqc.sequence = .lockout .tag ∧ t.oeb.hotActive = true ∧ t.newestAnswer .p = some ⟨0x07, 1, .done, [0]⟩ := by decide +kernel

/-- 5.9: an L-port party may not lift a tag the crew placed at the door; the crew may. -/
theorem test_tagRemove_authority :
    let s := { good with au := { good.au with tags := [hotTag] } }
    answered .l (after (.tagRemove (.l 1) 1 0 4127) s) = some .authority ∧ (after (.tagRemove .p 1 0 4127) s).au.tags = [] := by decide +kernel

/-- R95: the fail-safe entry, of crew 0, leaves by the SUPERVISOR key alone. -/
theorem test_tagRemove_failSafe :
    let s := { good with au := { good.au with tags := [.failSafe 0] } }
    let held := { s with au := { s.au with supervisorHeld := true } }
    answered .p (after (.tagRemove .p 1 0 0) s) = some .authority ∧ (after (.tagRemove .p 1 0 0) s).au.tags = s.au.tags
      ∧ answered .p (after (.tagRemove .p 1 0 0) held) = some .done ∧ (after (.tagRemove .p 1 0 0) held).au.tags = [] := by decide +kernel

/-- R132, R191, Table 6-6: 2 FAILs in one byte, 300 hot hours in two, and a margin of -30 mV in four, each with its normalized value and the
threshold of Table 6-7; an absent raw value is its presence byte alone. -/
theorem test_attribute_bytes :
    let b := BatteryRecord.default
    b.attributeEnc 3 ⟨some 2, 40, 40⟩ = [3, 1, 1, 2, 40, 40, 40]
      ∧ b.attributeEnc 7 ⟨some 300, 97, 97⟩ = [7, 2, 1, 0x01, 0x2C, 97, 97, 30]
      ∧ b.attributeEnc 2 ⟨some (-30), 98, 98⟩ = [2, 1, 1, 0xFF, 0xFF, 0xFF, 0xE2, 98, 98, 20]
      ∧ b.attributeEnc 6 .fresh = [6, 2, 0, 100, 100, 50] := by decide +kernel

/-- R41: a fast count above the trips to lockout names field 16. -/
theorem test_settingsWrite_names_the_field :
    let fields := [400, 100, 1, 100, 0, 3, 50, 0, 1, 100, 0, 2, 100, 0, 2, 3, 2000, 10000, 15000, 30000, 2, 2000, 0, 2, 3, 0, 2, 3, 1,
      200, 50, 50, 30000]
    (after (.settingsWrite .c 1 fields) good).newestAnswer .c = some ⟨0x0B, 1, .invalid, [16]⟩ := by decide +kernel

/-- R36: M_1 is at least 101, so 100 names field 2. -/
theorem test_curveLoad_first_multiple :
    (after (.curveLoad .c 1 5 ((100, 180) :: curveF1.drop 1)) good).newestAnswer .c = some ⟨0x0D, 1, .invalid, [2]⟩ := by decide +kernel

/-- R82: the key is needed. -/
theorem test_faultReset_needs_the_key :
    let s := { good with mdr := { good.mdr with latch := true } }
    answered .p (after (.mechanismFaultReset .p 1) s) = some .authority
      ∧ (after (.mechanismFaultReset .p 1) { s with au := { s.au with supervisorHeld := true } }).mdr.latch = false := by decide +kernel

/-- R120: a test before an hour in FLOAT is refused with condition 3. -/
theorem test_batteryTest_not_floating :
    (after (.batteryTest .c 1 2) good).newestAnswer .c = some ⟨0x11, 1, .conditions, [3]⟩ := by decide +kernel

/-- R166: a new limit marks the poles above it. -/
theorem test_readCounters_with_a_limit :
    let s := { good with oru := { good.oru with counters := { good.oru.counters with wear := ⟨2001400, 5, 5⟩ } } }
    (after (.readCounters .c 1 (some 2000000)) s).oru.counters.marks = ⟨true, false, false⟩ := by decide +kernel

/-- R172: a frame with a wrong CRC is answered FRAME_ERROR with kind 0x80 and reference 0. -/
theorem test_badFrame_crc :
    (after (.badFrame .c [0xA5, 0x00, 0x02, 0x01, 0x10, 0x57, 0x50]) good).ports.cAnswers = [⟨0, 0, .frameError, []⟩]
      ∧ (Answer.frameError).fields.head? = some 0x80 := by decide +kernel

/-! ### Single steps: events -/

/-- 3.11: the first trip completes into a 2,000 ms interval, and the fourth in LOCKOUT with cause SHOTS. -/
theorem test_trip_completes :
    let s (n : Nat) := withOp { tripOp with origins := [.protection] }
      { good with sqc := { good.sqc with sequence := .tripping .protection false, shot := n } }
    (after (.poleIndicationChange allOpen) (s 1)).sqc.sequence = .interval 2000000
      ∧ (after (.poleIndicationChange allOpen) (s 4)).sqc.sequence = .lockout .shots := by decide +kernel

/-- 3.11: at 98,260 mJ the close is refused for energy alone, and the wait limit starts. -/
theorem test_interval_expires_short_of_energy :
    let s := { opened (.interval 12264000) with mdr := { (opened .opened).mdr with estimate := 98260 } }
    (after .recloseIntervalExpiry s).sqc.sequence = .energyWait 42264000 := by decide +kernel

/-- 3.11: 171,520 mV gives 100,024 mJ, and the close fires and is debited. -/
theorem test_energy_wait_ends_with_a_close :
    let t := after (.capacitorMeasurement 171520) (opened (.energyWait 42264000))
    t.sqc.sequence = .closing .reclose ∧ t.mdr.estimate = 30024 := by decide +kernel

/-- R70: a trip pulse that reaches 40 ms with a pole closed settles. -/
theorem test_trip_pulse_ends :
    let t := after .tripPulseEnd (withOp tripOp good)
    t.mdr.tripDrive = false ∧ t.mdr.op.map Operation.phase = some .settle ∧ t.now = 40000 := by decide +kernel

/-- R71: the retrip is fired and debited. -/
theorem test_retrip :
    let t := after .tripSettleExpiry (withOp { tripOp with phase := .settle } good)
    t.mdr.tripDrive = true ∧ t.mdr.op.map Operation.phase = some .retripPulse ∧ t.mdr.estimate = 134560 := by decide +kernel

/-- R75: a close whose poles never moved has FAILED. -/
theorem test_close_fails :
    let t := after .closeSettleExpiry (withOp { closeOp with phase := .settle } (opened (.closing .command)))
    t.mdr.latch = true ∧ t.sqc.sequence = .lockout .mechanism ∧ t.oru.ring.map OpRecord.outcome = [none, some .failed] := by decide +kernel

/-- R80: a pole that rises to CLOSED is tripped. -/
theorem test_unexpected_close :
    let t := after (.poleIndicationChange mixed) (opened .opened)
    t.mdr.op.map Operation.origins = some [.discordance] ∧ t.mdr.latch = true := by decide +kernel

/-- R110: a press of the pushbutton trips, and a button already pressed places no request. -/
theorem test_pushbutton_needs_a_release :
    let pressing (before : Bool) : State := { good with au := { good.au with buttonPressed := before, buttonStand := some ⟨true, 20000⟩ } }
    (after .tripPushbutton (pressing false)).mdr.tripDrive = true
      ∧ (after .tripPushbutton (pressing true)).mdr.tripDrive = false := by decide +kernel

/-- Table 5-5: the CONTROL key turned to LOCAL at 3,200 ms changes the mode at 3,300 ms. -/
theorem test_control_key_stands_100_ms :
    let at3200 : State := good.reach 3200000
    let turned := after (.controlKeyChange .localMode) at3200
    turned.au.mode = .remoteMode ∧ turned.due = []
      ∧ (turned.reach 3300000).due = [.controlKeyChange .localMode]
      ∧ (after (.controlKeyChange .localMode) turned).au.mode = .localMode
      ∧ (after (.controlKeyChange .localMode) turned).now = 3300000 := by decide +kernel

/-- R89: a reading that reverts within the 100 ms leaves the mode as it was. -/
theorem test_control_key_reverts :
    let back := after (.controlKeyChange .remoteMode) (after (.controlKeyChange .localMode) good)
    back.au.keyStand = none ∧ back.au.mode = .remoteMode
      ∧ (after (.controlKeyChange .localMode) back).au.mode = .remoteMode := by decide +kernel

/-- Table 10-2: a record without a pulse has an idle store write COUNTERS and then RECORD_RING. -/
theorem test_record_writes_counters_first :
    let t := (good.newRecord .lockout .tag none none none).1
    t.nvs.writing.map (fun w => w.content.id) = some .counters ∧ t.nvs.queue.map Content.id = [.recordRing] := by decide +kernel

/-- R117: 21,900 mV takes NORMAL to CRITICAL, and 22,700 mV takes it on to LOW. -/
theorem test_tiers :
    let t := after (.batteryMeasurement 21900 0 250) good
    t.bcu.tier = .critical ∧ (after (.batteryMeasurement 22700 0 250) t).bcu.tier = .low := by decide +kernel

/-- R116: at V_abs(T) the charger leaves BULK for ABSORB. -/
theorem test_absorb :
    (after (.batteryMeasurement 28800 2000 250) { good with bcu := { good.bcu with charger := .bulk } }).bcu.charger = .absorb 1000000 := by
  decide +kernel

/-- R123: a current below 1,000 mA fails the test with LOAD_OPEN. -/
theorem test_load_open :
    let s := withTest (.load 5) none good
    (after (.loadTimerExpiry 24000 (-500)) s).bcu.stored.history.map TestEntry.cause = [some .loadOpen] := by decide +kernel

/-- R146: a matched ACK in SILENT sets the score to 150. -/
theorem test_ack_in_silent :
    let s := { good with rpu := { good.rpu with
      inFlight := some (report 0 5 (.alarm .lockout)), score := 208, standing := .silent } }
    (after (.ack 1 5) s).rpu.score = 150 ∧ (after (.ack 1 5) s).rpu.standing = .weak := by decide +kernel

/-- R185: a write that fails its read-back is written once more. -/
theorem test_write_is_repeated :
    let s := { good with nvs := ⟨good.nvs.store, [], some ⟨.authority true, false⟩⟩ }
    (after (.storeWriteComplete (.fails true)) s).nvs.writing = some ⟨.authority true, true⟩
      ∧ (after (.storeWriteComplete .passes) s).nvs.store.authority = some true := by decide +kernel

/-- R193: the answer leaves its list when its last byte has been shifted out. -/
theorem test_answer_read :
    let s := { good with ports := { good.ports with cAnswers := [⟨1, 0x10, .done, []⟩] } }
    (after (.answerRead 8) s).ports.cAnswers = [] ∧ (after (.answerRead 7) s).ports.cAnswers.length = 1
      ∧ (after (.answerRead 0) s).ports.miso = .bytes [0xFF] := by decide +kernel

/-- R193: with no answer waiting, or under RESET_IN whatever is sent, every byte after the status byte is 0x00. -/
theorem test_empty_indication :
    let held := { good with ports := { good.ports with resetIn := true } }
    (after (.answerRead 2) good).ports.miso.line 3 = [0xFF, 0x00, 0x00] ∧ (after (.trip .c 1) held).ports.miso = .empty
      ∧ (after (.badFrame .c [0x00]) held).ports.miso = .empty := by decide +kernel

/-- R171: two frames in one stretch of bytes are both taken, and a partial frame fails 20 ms after its last byte. -/
theorem test_byte_stream :
    let t := after (.badFrame .p (frame [0x01, 0x10] ++ frame [0x1C, 0x11] ++ [0xA5, 0x00])) good
    t.ports.pAnswers.map Answer.code = [.done, .unknown] ∧ t.ports.pPartial = [0xA5, 0x00]
      ∧ (after (.frameGapTimeout .p []) t).ports.pAnswers.length = 3 ∧ (after (.frameGapTimeout .p []) t).now = 20001 := by decide +kernel

/-- R191: the bytes of a good frame act as the request they carry. -/
theorem test_good_frame_acts :
    checkPortFrame .c (frame ([0x07, 0x21, 0x01, 0x10, 0x1F, 0x01, 0x53])) = .good (.tagPlace .c 0x21 1 4127 [0x53])
      ∧ (after (.badFrame .c (frame [0x02, 0x10])) good).mdr.tripDrive = true := by decide +kernel

/-- R183: the content of a record passes with the CRC over id, length and content, and not with another. -/
theorem test_stored_record :
    StoredRecord.passes ⟨.authority, 1, .authority true, crc [0x0C, 0x00, 0x01, 0x01]⟩ = true
      ∧ StoredRecord.passes ⟨.authority, 1, .authority true, 0⟩ = false
      ∧ StoredRecord.passes ⟨.authority, 2, .authority true, crc [0x0C, 0x00, 0x02, 0x01]⟩ = false := by decide +kernel

/-- R2: a steady current has no fundamental component; a wave of one cycle in the window with a peak of 100 A measures 70 A or 71 A, in root mean
square 70.7 A. -/
theorem test_magnitude :
    magnitude (List.replicate 32 ⟨5000000, false⟩) = 0
      ∧ rootFrom powerUnit (power (cosines.map fun c => ⟨c / 10000, false⟩)) 15 0 = 70 := by decide +kernel

/-- R2, R3: a clipped phase reads 20,000 A; two clipped phases in opposition leave the residual at 0, marked and not forced. -/
theorem test_clipping :
    let l := (after (.measurementUpdate readings) good).lmu
    (l.ia.value, l.ia.saturated) = (20000, true) ∧ (l.ic.value, l.ic.saturated) = (0, false) ∧ (l.ig.value, l.ig.saturated) = (0, true) := by
  decide +kernel

/-- R1, R9: a source good for 500 ms locks the tracker. -/
theorem test_source_lock :
    let v : VoltageChannel := { good.lmu.vaS with live := true, cycles := [16667, 16667, 16667, 16667], goodSince := some 0 }
    (after .sourceLockQualified { good with lmu := { good.lmu with vaS := v } }).lmu.tracker = .locked .vaS
      ∧ (after .sourceLockQualified { good with
        clock := { good.clock with running := 900000 }
        lmu := { good.lmu with vaS := { v with goodSince := some 1 }, vbS := v } }).lmu.tracker = .locked .vbS := by decide +kernel

/-- R14: a channel that leaves the source list loses its cycles and its good-since time; the locked source then gives way to HOLDOVER. -/
theorem test_delisted_source :
    let v : VoltageChannel := { good.lmu.vaS with live := true, cycles := [16667, 16667, 16667, 16667], goodSince := some 0 }
    let t := after (.trackerSources .c 1 [2] 6000 7200 20) { good with lmu := { good.lmu with tracker := .locked .vaS, vaS := v } }
    t.lmu.vaS.cycles = [] ∧ t.lmu.vaS.goodSince = none ∧ t.lmu.vaS.live = true ∧ t.lmu.tracker = .holdover 10000000 := by decide +kernel

/-- R139, Table 7-5: a pulse debits the estimate, and the ENERGY set still carries the one of the last capacitor measurement. -/
theorem test_energy_snapshot_is_of_the_measurement :
    let t := after .measurementTimerExpiry (after (.trip .c 1) (after (.capacitorMeasurement 220000) good))
    t.mdr.estimate = 134560 ∧ (t.rpu.qMeasure.getLast?.map fun x => x.payload.take 8) = some (be 4 220000 ++ be 4 164560) := by decide +kernel

/-- R167, R190: the fail-safe entry's placed time is 0, with the TIME_UNSET mark of a power-on. -/
theorem test_failSafe_placed_time : (Tag.failSafe 0).placed.enc = [0, 0, 0, 0, 0x80, 0] := by decide +kernel

/-- R124: the fourth suspension ends the test as INTERRUPTED. -/
theorem test_fourth_suspension :
    let s (n : Nat) := { good with bcu := { good.bcu with test := some ⟨.background, none, .rest 10000000, n, none⟩, charger := .testHold } }
    (after (.trip .c 1) (s 2)).bcu.test = some ⟨.background, none, .suspended 120000000, 3, none⟩
      ∧ (after (.trip .c 1) (s 3)).bcu.stored.history.map TestEntry.cause = [some .interrupted] := by decide +kernel


/-! ### States that meet the hypotheses of the statements

One theorem for each statement with hypotheses. Each conjunct is one clause: a state and operands that meet its hypotheses together, at a bound of a range where it has one. -/

/-- `State.taken` as a test. -/
def takenB (c : Instr) (port : Port) (s : State) : Bool :=
  match c.request with
  | some (kind, src, _) =>
    s.powered && decide (s.arrival src = .from port) && (!(s.ports.hold port).isSome || kind.passesHold) && kind.permitted port
  | none => false

theorem taken_iff (c : Instr) (port : Port) (s : State) : s.taken c port ↔ takenB c port s = true := by
  unfold State.taken takenB State.takes
  cases h : c.request with
  | none => simp
  | some x =>
    obtain ⟨kind, src, ref⟩ := x
    constructor
    · rintro ⟨k, u, r, e, hp, ha, hh, hm⟩
      cases e
      cases hold : (s.ports.hold port).isSome <;> simp_all
    · intro e
      simp only [Bool.and_eq_true, Bool.or_eq_true, decide_eq_true_eq, Bool.not_eq_true'] at e
      refine ⟨kind, src, ref, rfl, e.1.1.1, e.1.1.2, ?_, e.2⟩
      intro hold
      rcases e.1.2 with h' | h'
      · rw [h'] at hold; cases hold
      · exact h'

/-- `State.poolInv` as a test. -/
def poolB (s : State) : Bool := @decide s.poolInv (by unfold State.poolInv; infer_instance)

theorem poolInv_iff (s : State) : s.poolInv ↔ poolB s = true := by simp [poolB]

def withSqc (f : Sqc → Sqc) (s : State) : State := { s with sqc := f s.sqc }
def withMdr (f : Mdr → Mdr) (s : State) : State := { s with mdr := f s.mdr }
def withAu (f : Au → Au) (s : State) : State := { s with au := f s.au }
def withBcu (f : Bcu → Bcu) (s : State) : State := { s with bcu := f s.bcu }
def withRpu (f : Rpu → Rpu) (s : State) : State := { s with rpu := f s.rpu }
def withLmu (f : Lmu → Lmu) (s : State) : State := { s with lmu := f s.lmu }
def withPorts (f : Ports → Ports) (s : State) : State := { s with ports := f s.ports }
def withNvs (f : Nvs → Nvs) (s : State) : State := { s with nvs := f s.nvs }
def atTime (t : Nat) (s : State) : State := { s with clock := { s.clock with running := t } }
def tagged (tags : List Tag) (s : State) : State := withAu (fun a => { a with tags := tags }) s

def dark : State := .dark .blank true 0 []
def fullTable : List Tag := (List.range 8).map fun n => { hotTag with slot := n, crew := 4127 + n }
def lockRecord (n : Nat) : OpRecord := ⟨n, .lockout, ⟨0, 0, true⟩, 0, .protection, none, none, none, none, false⟩
def everySequence : List Sequence :=
  [.ready, .tripping .protection true, .interval 1, .energyWait 1, .closing .reclose, .reclaim (.running 1), .lockout .shots, .opened]

/-- Due: a day has passed; and a report that becomes eligible in the coming millisecond, on its last microsecond. -/
theorem witness_EmptyQueueLetsTimePass :
    let waiting := withRpu (fun r => { r with qEvent := [{ report 0 5 (.event .trip) with notBefore := some 1000 }] }) good
    (dark.pending = [] ∧ dark.powered = false)
      ∧ ((atTime 86400000000 good).pending = [] ∧ (atTime 86400000000 good).powered = true
        ∧ (atTime 86400000000 good).due = .dayIncrease :: (atTime 86400000000 good).due.tail)
      ∧ (waiting.pending = [] ∧ waiting.powered = true ∧ waiting.due = []) := by decide +kernel

theorem witness_TimeOfDayFollowsRunningTime : (⟨0, 0xFFFFFFFF, 999, true⟩ : Clock).millis < 1000 := by decide

theorem witness_RequestsTurnedAway :
    let held := withPorts (fun p => { p with cHold := some 9 }) good
    ((Instr.trip .c 1).request = some (.trip, .c, 1) ∧ dark.powered = false)
      ∧ (good.powered = true ∧ good.arrival (.l 2) = .lost ∧ (withPorts (fun p => { p with resetIn := true }) good).arrival .c = .lost)
      ∧ ((Instr.tagList .c 1).request = some (.tagList, .c, 1) ∧ held.powered = true ∧ held.arrival .c = .from .c
        ∧ (held.ports.hold .c).isSome = true ∧ RequestKind.tagList.passesHold = false)
      ∧ ((Instr.close .c 1).request = some (.close, .c, 1) ∧ good.arrival .c = .from .c ∧ (good.ports.hold .c).isSome = false
        ∧ RequestKind.close.permitted .c = false) := by decide +kernel

theorem witness_GroupRequestsActUnanswered :
    (Instr.selectClose (.l 0xFFFF) 1).request = some (.selectClose, .l 0xFFFF, 1) ∧ (Instr.trip (.l 0xFFFF) 1).request = some (.trip, .l 0xFFFF, 1)
      ∧ good.powered = true ∧ good.arrival (.l 0xFFFF) = .group := by decide +kernel

theorem witness_ReadsAnswerAndChangeNothing :
    good.taken (.statusRead .c 1) .c ∧ good.taken (.readAttributes .p 1) .p ∧ good.taken (.readTestHistory (.l 1) 1) .l
      ∧ good.taken (.readCounters (.l 1) 1 none) .l := by
  simp only [taken_iff]; decide +kernel

theorem witness_TagListGivesTheWholeTable : (tagged [hotTag] good).taken (.tagList (.l 1) 1) .l := by
  simp only [taken_iff]; decide +kernel

theorem witness_SettingsReadGivesTheCopyNamed :
    let staged := withSqc (fun q => { q with staged := some .default }) good
    good.taken (.settingsRead .p 1 1) .p ∧ (staged.taken (.settingsRead .p 1 2) .p ∧ staged.sqc.staged = some .default)
      ∧ (good.taken (.settingsRead .p 1 2) .p ∧ good.sqc.staged = none) := by
  simp only [taken_iff]; decide +kernel

theorem witness_ReadRecordFindsTheNumber :
    let s := { good with oru := { good.oru with ring := [lockRecord 65535, lockRecord 0] } }
    (lockRecord 65535 ∈ s.oru.ring ∧ (s.oru.ring.map OpRecord.number).Nodup ∧ s.taken (.readRecord .c 1 65535) .c)
      ∧ ((∀ r ∈ s.oru.ring, r.number ≠ 1) ∧ s.taken (.readRecord .c 1 1) .c)
      ∧ (s.powered = true ∧ s.arrival (.l 0xFFFF) = .group) := by
  simp only [taken_iff]; decide +kernel

theorem witness_ClearAlertsActsOnItsOwnSet :
    good.taken (.clearAlerts .c 1 0xFFFF (some 0)) .c ∧ good.taken (.clearAlerts .p 1 0x8000 none) .p := by
  simp only [taken_iff]; decide +kernel

/-! ### Trips and closes -/

theorem witness_TripFiresWithNothingInFlight :
    (∀ q ∈ everySequence, (inSequence q good).powered = true ∧ (inSequence q good).mdr.op = none
        ∧ (inSequence q good).taken (.trip (.l 1) 1) .l ∧ (inSequence q good).sqc.reported = true)
      ∧ (good.au.buttonPressed = false)
      ∧ ((withAu (fun a => { a with buttonStand := some ⟨true, 20000⟩ }) good).au.buttonStand = some ⟨true, 20000⟩) := by
  simp only [taken_iff]; decide +kernel

theorem witness_TripIsNeverRefused :
    let joined := withOp tripOp good
    let closing := withOp closeOp (opened (.closing .command))
    (joined.taken (.trip .p 1) .p ∧ joined.mdr.op = some tripOp ∧ tripOp.kind = .trip)
      ∧ (closing.taken (.trip .p 1) .p ∧ closing.mdr.op = some closeOp ∧ closeOp.kind = .close
        ∧ closing.sqc.reported = true ∧ closing.sqc.sequence = .closing .command) := by
  simp only [taken_iff]; decide +kernel

def selectRefusal (port : Port) (s : State) : Option Code :=
  firstOf
    [(s.au.mode == .localMode, Code.mode), (!s.au.tags.isEmpty, .tag), (s.au.handlePulled, .handleLock), (s.mdr.latch, .mechFault),
     (match s.sqc.sequence with
      | .opened | .lockout _ => false
      | _ => true, .busy),
     (s.au.selection.any fun x => x.owner != port, .selectedElsewhere)]

theorem witness_SelectCloseMakesASelection :
    let s := opened (.lockout .shots)
    let other := withAu (fun a => { a with selection := some ⟨.c, 8, 0, 10⟩ }) s
    (s.taken (.selectClose (.l 1) 1) .l ∧ selectRefusal .l s = none)
      ∧ (other.taken (.selectClose .c 1) .c ∧ selectRefusal .c other = none)
      ∧ (good.taken (.selectClose (.l 1) 1) .l ∧ selectRefusal .l good = some .busy)
      ∧ (other.taken (.selectClose (.l 1) 1) .l ∧ selectRefusal .l other = some .selectedElsewhere) := by
  simp only [taken_iff]; decide +kernel

theorem witness_OperateCloseSpendsTheSelection :
    let x : Selection := ⟨.l, 8, 0, 10000000⟩
    let s := withAu (fun a => { a with selection := some x }) (opened .opened)
    let poor := withMdr (fun m => { m with estimate := 99999 }) s
    let enough := withMdr (fun m => { m with estimate := 100000 }) s
    ((opened .opened).taken (.operateClose .c 2 8) .c ∧ (opened .opened).au.selection = none)
      ∧ (poor.taken (.operateClose (.l 1) 2 8) .l ∧ poor.au.selection = some x ∧ x.owner = .l ∧ x.ref = 8
        ∧ poor.closeRefusal .l = some .energy)
      ∧ (enough.taken (.operateClose (.l 1) 2 8) .l ∧ enough.au.selection = some x ∧ enough.closeRefusal .l = none) := by
  simp only [taken_iff]; decide +kernel

def panelRefusal (s : State) : Option Code :=
  firstOf
    [(s.au.mode == .remoteMode, Code.mode), (!s.au.tags.isEmpty, .tag), (s.au.handlePulled, .handleLock),
     (match s.au.panel with
      | .running _ => true
      | _ => false, .busy)]

theorem witness_PanelCloseRunsItsDelay :
    let s := inMode .localMode (opened .opened)
    let running := withAu (fun a => { a with panel := .running 10000000 }) s
    let atOnce := withRpu (fun r => { r with settings := { r.settings with panelDelay := 0 } }) s
    let latched := withMdr (fun m => { m with latch := true })
    (running.taken (.close .p 1) .p ∧ panelRefusal running = some .busy)
      ∧ (s.taken (.close .p 1) .p ∧ panelRefusal s = none ∧ s.rpu.settings.panelDelay ≠ 0)
      ∧ (atOnce.taken (.close .p 1) .p ∧ panelRefusal atOnce = none ∧ atOnce.rpu.settings.panelDelay = 0
        ∧ atOnce.closeRefusal .p = none ∧ (latched atOnce).closeRefusal .p = some .mechFault
        ∧ (latched atOnce).taken (.close .p 1) .p ∧ panelRefusal (latched atOnce) = none)
      ∧ (running.powered = true ∧ running.au.panel = .running 10000000 ∧ running.closeRefusal .p = none
        ∧ (latched running).au.panel = .running 10000000 ∧ (latched running).closeRefusal .p = some .mechFault) := by
  simp only [taken_iff]; decide +kernel

theorem witness_CancelAndExpiryEndPendingCloses :
    let x : Selection := ⟨.c, 8, 0, 10000000⟩
    let s := withAu (fun a => { a with selection := some x }) (opened .opened)
    let running := withAu (fun a => { a with panel := .running 10000000 }) (inMode .localMode (opened .opened))
    (good.taken (.cancel .c 1) .c ∧ good.au.selection = none)
      ∧ (s.taken (.cancel (.l 1) 1) .l ∧ s.au.selection = some x ∧ x.owner ≠ .l)
      ∧ (s.taken (.cancel .c 1) .c ∧ x.owner = .c)
      ∧ (running.taken (.cancel .p 1) .p ∧ running.au.panel = .running 10000000)
      ∧ (good.taken (.cancel .p 1) .p ∧ good.au.panel = .none)
      ∧ (s.powered = true ∧ s.au.selection = some x) := by
  simp only [taken_iff]; decide +kernel

/-! ### Tags and small requests -/

def tagFields (kind crew : Nat) (note : List Byte) : Option Nat :=
  firstFailing [kind == 1 || kind == 2, crew != 0, note.length ≤ 24 && note.all fun b => 0x20 ≤ b.toNat && b.toNat ≤ 0x7E]

theorem witness_TagPlaceActsThroughout :
    let one := tagged [hotTag] good
    let full := tagged fullTable good
    let long := List.replicate 24 (0x7E : Byte)
    (good.taken (.tagPlace .c 1 3 1 []) .c ∧ tagFields 3 1 [] = some 1 ∧ tagFields 0 1 [] = some 1 ∧ tagFields 1 0 [] = some 2
        ∧ tagFields 1 1 (0x20 :: long) = some 3 ∧ tagFields 1 1 [0x1F] = some 3 ∧ tagFields 1 1 [0x7F] = some 3)
      ∧ (one.taken (.tagPlace .c 1 1 4127 []) .c ∧ tagFields 1 4127 [] = none ∧ hotTag ∈ one.au.tags ∧ hotTag.crew = 4127
        ∧ hotTag.kind = .hotLine)
      ∧ (full.taken (.tagPlace .c 1 2 65535 long) .c ∧ tagFields 2 65535 long = none
        ∧ (∀ x ∈ full.au.tags, ¬ (x.crew = 65535 ∧ x.kind = .doNotClose)) ∧ ∀ n < 8, ∃ x ∈ full.au.tags, x.slot = n)
      ∧ (∀ q ∈ everySequence, (inSequence q one).taken (.tagPlace .c 1 2 4127 []) .c ∧ tagFields 2 4127 [] = none
        ∧ (∀ x ∈ one.au.tags, ¬ (x.crew = 4127 ∧ x.kind = .doNotClose)) ∧ (∀ x ∈ one.au.tags, x.slot ≠ 1)
        ∧ (∀ n < 1, ∃ x ∈ one.au.tags, x.slot = n) ∧ (inSequence q one).mdr.op = none ∧ (inSequence q one).sqc.reported = true)
      ∧ ((withOp closeOp (opened (.closing .reclose))).taken (.tagPlace .c 1 2 1 []) .c ∧ closeOp.kind = .close) := by
  simp only [taken_iff]; decide +kernel

theorem witness_TagRemoveChecksAuthority :
    let s := tagged fullTable good
    let held := withAu (fun a => { a with supervisorHeld := true }) s
    let last : Tag := { hotTag with slot := 7, crew := 4134 }
    let distant := tagged [{ last with origin := .l }] good
    s.taken (.tagRemove .p 1 8 1) .p
      ∧ (good.taken (.tagRemove .p 1 7 1) .p ∧ good.au.tags = [])
      ∧ (s.taken (.tagRemove .c 1 7 4134) .c ∧ s.au.tags.find? (fun y => y.slot == 7) = some last ∧ last.origin = .p)
      ∧ (s.taken (.tagRemove .p 1 7 1) .p ∧ last.crew ≠ 1 ∧ s.au.supervisorHeld = false)
      ∧ (s.taken (.tagRemove .p 1 7 4134) .p ∧ last.crew = 4134)
      ∧ (held.taken (.tagRemove .p 1 7 1) .p ∧ held.au.supervisorHeld = true ∧ held.au.tags.find? (fun y => y.slot == 7) = some last)
      ∧ (distant.taken (.tagRemove (.l 1) 1 7 4134) .l
        ∧ distant.au.tags.find? (fun y => y.slot == 7) = some { last with origin := .l })
      ∧ (let safe := tagged [.failSafe 7] good
        safe.taken (.tagRemove .p 1 7 0) .p ∧ safe.au.tags.find? (fun y => y.slot == 7) = some (.failSafe 7)
          ∧ (Tag.failSafe 7).crew = 0 ∧ safe.au.supervisorHeld = false) := by
  simp only [taken_iff]; decide +kernel

theorem witness_BlockTimeAndLimitRequests :
    (∀ n ∈ [0, 3, 255], good.taken (.settingsRead .p 1 n) .p)
      ∧ (∀ value ∈ [0, 1, 2, 3], good.taken (.recloseBlock .c 1 value) .c)
      ∧ ((inMode .localMode good).taken (.recloseBlock (.l 1) 1 1) .l ∧ (inMode .localMode good).au.mode = .localMode)
      ∧ (good.taken (.recloseBlock .p 1 1) .p ∧ good.au.mode = .remoteMode)
      ∧ (good.taken (.timeSet .c 1 0 1000) .c ∧ good.taken (.timeSet .c 1 4294967295 999) .c)
      ∧ (good.taken (.readCounters .p 1 (some 0)) .p ∧ good.taken (.readCounters .c 1 (some 4000000001)) .c
        ∧ good.taken (.readCounters .c 1 (some 4000000000)) .c ∧ good.taken (.readCounters .c 1 (some 0)) .c) := by
  simp only [taken_iff]; decide +kernel

/-! ### Settings, the battery, the tracker -/

def settingsBad (fields : List Nat) : Option Nat :=
  let f (k : Nat) : Nat := fields.getD (k - 1) 0
  let range (k lo hi : Nat) : Bool := lo ≤ f k ∧ f k ≤ hi
  firstFailing
    [range 1 10 2000, range 2 5 1000, range 3 1 6, range 4 5 1000, range 5 0 2000, range 6 1 6, range 7 5 1000, range 8 0 2000,
     range 9 1 6, range 10 5 1000, range 11 0 2000, range 12 1 6, range 13 5 1000, range 14 0 2000, range 15 1 4, f 16 ≤ f 15,
     range 17 300 180000, range 18 300 180000, range 19 300 180000, range 20 5000 180000, range 21 1 2, range 22 100 60000,
     f 23 = 0 ∨ range 23 200 20000, range 24 1 4, range 25 0 15, f 26 = 0 ∨ range 26 200 20000, range 27 1 4, range 28 0 15,
     range 29 1 2, range 30 10 2000, range 31 5 1000, range 32 0 500, range 33 5000 120000]

/-- Table 3-1: every setting at its lowest, and at its highest value. -/
def lowest : List Nat :=
  [10, 5, 1, 5, 0, 1, 5, 0, 1, 5, 0, 1, 5, 0, 1, 0, 300, 300, 300, 5000, 1, 100, 0, 1, 0, 0, 1, 0, 1, 10, 5, 0, 5000]
def highest : List Nat :=
  [2000, 1000, 6, 1000, 2000, 6, 1000, 2000, 6, 1000, 2000, 6, 1000, 2000, 4, 4, 180000, 180000, 180000, 180000, 2, 60000, 20000, 4, 15,
   20000, 4, 15, 2, 2000, 1000, 500, 120000]

theorem witness_SettingsWriteStagesOrActivates :
    ((inMode .localMode good).taken (.settingsWrite (.l 1) 1 lowest) .l ∧ (inMode .localMode good).au.mode = .localMode)
      ∧ (good.taken (.settingsWrite .c 1 (lowest.drop 1)) .c ∧ (lowest.drop 1).length ≠ 33)
      ∧ (good.taken (.settingsWrite .c 1 (9 :: lowest.drop 1)) .c ∧ settingsBad (9 :: lowest.drop 1) = some 1
        ∧ settingsBad (highest.take 32 ++ [120001]) = some 33)
      ∧ (∀ fields ∈ [lowest, highest], fields.length = 33 ∧ settingsBad fields = none
        ∧ (inSequence (.closing .reclose) good).taken (.settingsWrite .c 1 fields) .c
        ∧ ∀ q ∈ [Sequence.ready, .opened, .lockout .shots], (inSequence q good).taken (.settingsWrite .c 1 fields) .c
          ∧ (inSequence q good).sqc.picked = false) := by
  simp only [taken_iff]; decide +kernel

def curveBad (curve : Nat) (points : List (Nat × Nat)) : Option Nat :=
  let m (k : Nat) : Nat := (points.getD k (0, 0)).1
  let t (k : Nat) : Nat := (points.getD k (0, 0)).2
  let point (k : Nat) : List Bool :=
    [if k = 0 then 101 ≤ m 0 else m (k - 1) < m k, 10 ≤ t k && t k ≤ 600000 && (k = 0 || t k ≤ t (k - 1))]
  firstFailing ((curve == 5 || curve == 6) :: (List.range 8).flatMap point)

def mechanismBad (cap target eTrip eClose : Nat) : Option Nat :=
  firstFailing
    [1000 ≤ cap && cap ≤ 20000, 150000 ≤ target && target ≤ 250000, 5000 ≤ eTrip && eTrip ≤ 100000,
     10000 ≤ eClose && eClose ≤ 200000]

theorem witness_CurveAndMechanismRecords :
    let edge : CurveTable := [(101, 600000), (102, 600000), (103, 10), (104, 10), (105, 10), (106, 10), (107, 10), (65535, 10)]
    (good.taken (.curveLoad .c 1 5 (edge.drop 1)) .c ∧ (edge.drop 1).length ≠ 8)
      ∧ (good.taken (.curveLoad .c 1 4 edge) .c ∧ edge.length = 8 ∧ curveBad 4 edge = some 1
        ∧ curveBad 5 ((101, 600001) :: edge.drop 1) = some 3 ∧ curveBad 5 (edge.take 7 ++ [(107, 10)]) = some 16
        ∧ curveBad 5 (edge.take 7 ++ [(108, 9)]) = some 17)
      ∧ (good.taken (.curveLoad .c 1 5 edge) .c ∧ curveBad 5 edge = none)
      ∧ (good.taken (.curveLoad .c 1 6 edge) .c ∧ curveBad 6 edge = none)
      ∧ (good.taken (.mechanismSettings .c 1 [999, 150000, 5000, 10000]) .c ∧ mechanismBad 999 150000 5000 10000 = some 1
        ∧ mechanismBad 20000 250000 100000 200001 = some 4)
      ∧ (good.taken (.mechanismSettings .c 1 [1000, 150000, 5000, 10000]) .c ∧ mechanismBad 1000 150000 5000 10000 = none
        ∧ good.taken (.mechanismSettings .c 1 [20000, 250000, 100000, 200000]) .c
        ∧ mechanismBad 20000 250000 100000 200000 = none) := by
  simp only [taken_iff]; decide +kernel

theorem mechanismInv_at_rest (s : State) (h : s.mdr.op = none) (trip : s.mdr.tripDrive = false) (close : s.mdr.closeDrive = false)
    (w : s.mdr.invalidWatch = none ∧ s.mdr.mixedWatch = none) : s.mechanismInv := by
  simp [State.mechanismInv, h, trip, close, w]

theorem witness_FaultResetNeedsTheKey :
    let latched := withPoles ⟨.closed, .opened, .invalid⟩ (withMdr (fun m => { m with latch := true }) good)
    let held := withAu fun a => { a with supervisorHeld := true }
    (latched.mechanismInv ∧ latched.taken (.mechanismFaultReset .p 1) .p ∧ latched.au.supervisorHeld = false)
      ∧ ((held good).mechanismInv ∧ (held good).taken (.mechanismFaultReset .p 1) .p ∧ (held good).mdr.latch = false)
      ∧ ((held latched).mechanismInv ∧ (held latched).taken (.mechanismFaultReset .p 1) .p ∧ (held latched).au.supervisorHeld = true
        ∧ (held latched).mdr.latch = true) := by
  refine ⟨⟨mechanismInv_at_rest _ rfl rfl rfl ⟨rfl, rfl⟩, ?_⟩, ⟨mechanismInv_at_rest _ rfl rfl rfl ⟨rfl, rfl⟩, ?_⟩,
    ⟨mechanismInv_at_rest _ rfl rfl rfl ⟨rfl, rfl⟩, ?_⟩⟩ <;> simp only [taken_iff] <;> decide +kernel

def batteryBad (bulk taper vFloat vAbs interval floor rated t1 t2 t3 t4 t5 t6 t7 t8 : Nat) : Option Nat :=
  let range (lo hi n : Nat) : Bool := lo ≤ n ∧ n ≤ hi
  firstFailing
    [range 500 5000 bulk, range 100 1000 taper, range 26000 28000 vFloat, range 27000 29600 vAbs ∧ vFloat ≤ vAbs, range 0 30 interval,
     range 21000 25000 floor, range 5 200 rated, range 0 253 t1, range 0 253 t2, range 0 253 t3, range 0 253 t4, range 0 253 t5,
     range 0 253 t6, range 0 253 t7, range 0 253 t8]

theorem witness_BatteryRequestsActAtOnce :
    let low := [500, 100, 26000, 27000, 0, 21000, 5, 0, 0, 0, 0, 0, 0, 0, 0]
    let high := [5000, 1000, 28000, 28000, 30, 25000, 200, 253, 253, 253, 253, 253, 253, 253, 253]
    let tested := withTest (.rest 10000000) none good
    let key := withAu (fun a => { a with supervisorHeld := true }) good
    (good.taken (.batterySettings .c 1 low) .c ∧ batteryBad 500 100 26000 27000 0 21000 5 0 0 0 0 0 0 0 0 = none)
      ∧ (good.taken (.batterySettings .c 1 high) .c
        ∧ batteryBad 5000 1000 28000 28000 30 25000 200 253 253 253 253 253 253 253 253 = none)
      ∧ (good.taken (.batterySettings .c 1 [500, 100, 28000, 27999, 0, 21000, 5, 0, 0, 0, 0, 0, 0, 0, 254]) .c
        ∧ batteryBad 500 100 28000 27999 0 21000 5 0 0 0 0 0 0 0 254 = some 4)
      ∧ (good.taken (.batteryReplaced .p 1) .p ∧ good.au.supervisorHeld = false)
      ∧ (tested.taken (.batteryReplaced .c 1) .c ∧ tested.bcu.test ≠ none)
      ∧ (good.taken (.batteryReplaced .c 1) .c ∧ good.bcu.test = none)
      ∧ (key.taken (.batteryReplaced .p 1) .p ∧ key.au.supervisorHeld = true ∧ key.bcu.test = none) := by
  simp only [taken_iff]; decide +kernel

/-- The verdict as it stands, and both its changes. -/
theorem witness_BatteryRequestsActAtOnce_too :
    let poor := withBcu (fun b => { b with stored := { b.stored with attributes := { b.stored.attributes with
      resistance := ⟨some 200, 50, 50⟩ } } }) good
    let healed := withBcu (fun b => { b with failing := true }) good
    (good.bcu.stored.prefailing = [] ∧ good.bcu.failing = false)
      ∧ (poor.bcu.stored.settings.thresholds.getD 0 0 = 50 ∧ poor.bcu.stored.prefailing = [(1, 50)] ∧ poor.bcu.failing = false)
      ∧ (healed.bcu.stored.prefailing = [] ∧ healed.bcu.failing = true) := by decide +kernel

def linkBad (address mask slot ack most base warn probe interval select delay : Nat) : Option Nat :=
  let range (lo hi n : Nat) : Bool := lo ≤ n ∧ n ≤ hi
  firstFailing
    [range 0 0xFFFE address, range 0 0xFFFF mask, range 0 15 slot, range 1000 10000 ack, range 1 8 most, range 1000 60000 base,
     range 8 160 warn, range 10 600 probe, interval = 0 ∨ range 60 3600 interval, range 2 60 select, range 0 30 delay]

theorem witness_LinkSettingsActAtOnce :
    let low := Instr.linkSettings .c 1 [0, 0, 0, 1000, 1, 1000, 8, 10, 0, 2, 0]
    let weak := withRpu (fun r => { r with score := 8 }) good
    (good.taken (.linkSettings .c 1 [0xFFFF, 0, 0, 1000, 1, 1000, 8, 10, 59, 2, 0]) .c
        ∧ linkBad 0xFFFF 0 0 1000 1 1000 8 10 59 2 0 = some 1 ∧ linkBad 0xFFFE 0 0 1000 1 1000 8 10 59 2 0 = some 9)
      ∧ (good.taken low .c ∧ linkBad 0 0 0 1000 1 1000 8 10 0 2 0 = none ∧ standingOf 8 good.rpu.score = good.rpu.standing)
      ∧ (weak.taken low .c ∧ standingOf 8 weak.rpu.score ≠ weak.rpu.standing)
      ∧ linkBad 0xFFFE 0xFFFF 15 10000 8 60000 160 600 3600 60 30 = none := by
  simp only [taken_iff]; decide +kernel

/-! ### Battery tests -/

/-- A part an hour in FLOAT. -/
def floated (s : State) : State := atTime 3600000000 (withBcu (fun b => { b with charger := .float 0 none }) s)

def testRefusal (s : State) : Option (Code × List Byte) :=
  firstOf
    [(s.bcu.test.isSome, (Code.busy, ([] : List Byte))), (!s.bcu.acPresent, (.conditions, [2])),
     (!(match s.bcu.charger with
      | .float since _ => decide (since + 3600000000 ≤ s.now)
      | _ => false), (.conditions, [3])),
     (s.bcu.tier != .normal, (.conditions, [4])), (s.mdr.rechargeSince.isSome, (.conditions, [5])),
     (s.mdr.estimate < s.mdr.settings.eClose + s.mdr.settings.eTrip, (.conditions, [6])),
     (!(match s.sqc.sequence with
      | .ready | .opened | .lockout _ => true
      | _ => false), (.conditions, [7]))]

theorem witness_BatteryTestStartsOnItsConditions :
    let s := floated good
    let poor := floated (withMdr (fun m => { m with estimate := 99999 }) good)
    (s.taken (.batteryTest (.l 1) 1 1) .l) ∧ (s.taken (.batteryTest .c 1 0) .c ∧ s.taken (.batteryTest .c 1 3) .c)
      ∧ (good.taken (.batteryTest .c 1 1) .c ∧ testRefusal good = some (.conditions, [3]))
      ∧ (poor.taken (.batteryTest (.l 1) 1 2) .l ∧ testRefusal poor = some (.conditions, [6]))
      ∧ (s.taken (.batteryTest (.l 1) 1 2) .l ∧ testRefusal s = none)
      ∧ (s.taken (.batteryTest .c 1 1) .c ∧ s.taken (.batteryTest .p 1 1) .p) := by
  simp only [taken_iff]; decide +kernel

theorem witness_AbortsAndSuspensionsEndTests :
    let background := withTest (.suspended 120000000) none good
    let attended := withPorts (fun p => { p with pHold := some 9 }) (withTest (.rest 10000000) (some .p) good)
    (background.bcu.test = some ⟨.background, none, .suspended 120000000, 0, none⟩ ∧ background.taken (.abortTest (.l 1) 1) .l
        ∧ background.powered = true)
      ∧ (attended.bcu.test = some ⟨.attended, some .p, .rest 10000000, 0, none⟩ ∧ attended.ports.pHold = some 9
        ∧ attended.taken (.abortTest .p 1) .p)
      ∧ (good.taken (.abortTest .c 1) .c ∧ good.bcu.test = none) := by
  simp only [taken_iff]; decide +kernel

/-- The third and the fourth suspension, by the end of REST, a recharge and an operation; and both ways in which a test starts again. -/
theorem witness_AbortsAndSuspensionsEndTests_too :
    let suspendedSo (n : Nat) (phase : TestPhase) (s : State) := withBcu (fun b => { b with
      test := some ⟨.background, none, phase, n, none⟩, charger := .testHold }) s
    let busy := withOp closeOp (suspendedSo 3 (.rest 10000000) good)
    let load := suspendedSo 3 (.load 30000000) good
    let waiting := withBcu (fun b => { b with recharging := true }) (withMdr (fun m => { m with rechargeSince := some 0 })
      (suspendedSo 3 (.suspended 120000000) good))
    let opening := withOp tripOp (suspendedSo 1 (.suspended 120000000) good)
    let attended := withPorts (fun p => { p with cHold := some 9 }) (withTest (.suspended 120000000) (some .c) good)
    (attended.bcu.test = some ⟨.attended, some .c, .suspended 120000000, 0, none⟩ ∧ attended.ports.cHold = some 9
        ∧ attended.taken (.abortTest .c 1) .c ∧ attended.taken (.abortTest .p 1) .p ∧ attended.powered = true)
      ∧ (busy.bcu.test = some ⟨.background, none, .rest 10000000, 3, none⟩ ∧ busy.bcu.opInFlight = true)
      ∧ (∀ n ∈ [0, 2, 3], (suspendedSo n (.load 30000000) good).bcu.test = some ⟨.background, none, .load 30000000, n, none⟩)
      ∧ (load.powered = true ∧ load.sqc.sequence = .ready ∧ load.mdr.rechargeSince = none ∧ 214999 + 5000 < load.mdr.settings.target
        ∧ load.bcu.tier ≠ .disconnect ∧ load.mdr.op = none ∧ load.au.buttonPressed = false
        ∧ (withAu (fun a => { a with buttonStand := some ⟨true, 20000⟩ }) load).bcu.test = load.bcu.test)
      ∧ (waiting.mdr.rechargeSince = some 0 ∧ waiting.mdr.settings.target ≤ 220000 ∧ waiting.bcu.opInFlight = false
        ∧ (withOp tripOp waiting).bcu.opInFlight = true)
      ∧ (opening.sqc.reported = true ∧ opening.mdr.op = some tripOp ∧ tripOp.kind = .trip ∧ (polesOf allOpen).allOpen = true
        ∧ opening.mdr.poles ≠ polesOf allOpen ∧ opening.bcu.recharging = false ∧ (withOp tripOp waiting).bcu.recharging = true) := by
  simp only [taken_iff]; decide +kernel

/-- A withheld answer at each port that can have one, at the end of LOAD. -/
theorem witness_TestPhasesEndAsTimed_too :
    let atC := withPorts (fun p => { p with cHold := some 9 }) (withTest (.load 30000000) (some .c) good)
    let atP := withPorts (fun p => { p with pHold := some 9 }) (withTest (.load 30000000) (some .p) good)
    (atC.powered = true ∧ atC.bcu.test = some ⟨.attended, some .c, .load 30000000, 0, none⟩ ∧ atC.ports.cHold = some 9)
      ∧ (atP.powered = true ∧ atP.bcu.test = some ⟨.attended, some .p, .load 30000000, 0, none⟩ ∧ atP.ports.pHold = some 9) := by
  decide +kernel

theorem witness_TestPhasesEndAsTimed :
    let rest := withTest (.rest 10000000) none good
    let busy := withOp closeOp rest
    let load := withTest (.load 30000000) none good
    (rest.powered = true ∧ rest.bcu.test = some ⟨.background, none, .rest 10000000, 0, none⟩ ∧ rest.bcu.opInFlight = false
        ∧ rest.bcu.recharging = false)
      ∧ (busy.bcu.test = some ⟨.background, none, .rest 10000000, 0, none⟩ ∧ busy.bcu.opInFlight = true)
      ∧ (load.bcu.test = some ⟨.background, none, .load 30000000, 0, none⟩ ∧ (-999 : Int).natAbs < 1000 ∧ 1000 ≤ (-1000 : Int).natAbs) := by
  decide +kernel

theorem witness_BatteryCountsAndSchedule :
    let due := withBcu (fun b => { b with nextAttempt := some ⟨3600000000, true⟩ }) good
    let full := withBcu (fun b => { b with floatCount := 86400, hotCount := 3600 }) good
    good.powered = true
      ∧ (due.bcu.nextAttempt = some ⟨3600000000, true⟩ ∧ (due.reach 3600000000).precondition = some .notFloating)
      ∧ ((floated due).bcu.nextAttempt = some ⟨3600000000, true⟩ ∧ ((floated due).reach 3600000000).precondition = none)
      ∧ (full.powered = true ∧ 86400 ≤ full.bcu.floatCount ∧ 3600 ≤ full.bcu.hotCount) := by decide +kernel

/-- A source good since the time, at 60 Hz. -/
def goodSource (since : Nat) : VoltageChannel := ⟨7200, true, zeroWindow, none, [16667, 16667, 16667, 16667], 0, some since⟩

def trackerBad (sources : List Nat) (freq volts squelch : Nat) : Option Nat :=
  firstFailing
    [1 ≤ sources.length ∧ sources.length ≤ 4 ∧ sources.Nodup ∧ (∀ n ∈ sources, 1 ≤ n ∧ n ≤ 6), freq = 5000 ∨ freq = 6000,
     1000 ≤ volts ∧ volts ≤ 20000, 10 ≤ squelch ∧ squelch ≤ 50]

theorem witness_TrackerSourcesActAtOnce :
    let c (sources : List Nat) := Instr.trackerSources .c 1 sources 5000 1000 10
    let locked := withLmu (fun l => { l with tracker := .locked .vaS, vaS := goodSource 1, vbS := goodSource 1 }) good
    let alone := withLmu (fun l => { l with tracker := .locked .vaS }) good
    let ripe := withLmu (fun l => { l with vcL := goodSource 0 }) (atTime 500000 good)
    (good.taken (.trackerSources .c 1 [1, 1] 5000 1000 10) .c ∧ trackerBad [1, 1] 5000 1000 10 = some 1
        ∧ trackerBad [1, 2, 3, 4, 5] 5000 1000 10 = some 1 ∧ trackerBad [7] 5000 1000 10 = some 1 ∧ trackerBad [1] 5500 1000 10 = some 2
        ∧ trackerBad [6] 6000 20000 51 = some 4)
      ∧ (locked.taken (c [1]) .c ∧ trackerBad [1] 5000 1000 10 = none ∧ locked.lmu.tracker = .locked .vaS
        ∧ (locked.lmu.channel .vaS).good = true)
      ∧ (locked.taken (c [6, 2]) .c ∧ trackerBad [6, 2] 5000 1000 10 = none ∧ (locked.lmu.channel .vcL).good = false
        ∧ (locked.lmu.channel .vbS).good = true
        ∧ Channel.vaS ∈ locked.lmu.settings.sources ∧ Channel.vaS ∉ [6, 2].map channelOf ∧ locked.lmu.vaS.goodSince = some 1)
      ∧ (alone.taken (c [1, 2, 3, 4]) .c ∧ trackerBad [1, 2, 3, 4] 5000 1000 10 = none
        ∧ ∀ d ∈ [Channel.vaS, .vbS, .vcS, .vaL], (alone.lmu.channel d).good = false ∧ (alone.lmu.channel d).goodSince = none)
      ∧ (good.taken (c [6]) .c ∧ trackerBad [6] 5000 1000 10 = none ∧ good.lmu.tracker = .nominal
        ∧ (good.lmu.channel .vcL).goodSince = none)
      ∧ ((withLmu (fun l => { l with tracker := .holdover 10000000 }) good).taken (c [6]) .c)
      ∧ (ripe.taken (c [6]) .c ∧ ripe.lmu.tracker = .nominal ∧ (ripe.lmu.channel .vcL).goodSince = some 0 ∧ 0 + 500000 ≤ ripe.now) := by
  simp only [taken_iff]; decide +kernel

/-! ### The ports -/

theorem witness_BadFramesAreAnsweredByPort :
    let partly := withPorts (fun p => { p with pPartial := [0xA5] }) good
    let wrong : List Byte := [0xA5, 0x00, 0x02, 0x01, 0x10, 0x57, 0x50]
    let unknown := frame [0x1C, 0x10]
    let long := frame [0x02, 0x10, 0x00]
    let inner := frame [0x17, 0x10, 0x02]
    let radio (t : Byte) : List Byte := [0xA5, 0x00, 0x05, t, 0x00, 0x01, 0x01, 0x10, 0x00, 0x00]
    let told := frame [0x01, 0x00, 0x01, 0x02, 0x10]
    let acked := frame [0x04, 0x00, 0x01, 0xFF, 0xFF]
    let received := withPorts (fun p => { p with lPartial := [0xA5] }) good
    (good.powered = true ∧ (withPorts (fun p => { p with resetIn := true }) good).ports.resetIn = true)
      ∧ (good.ports.resetIn = false ∧ wrong.head? ≠ some 0x5A ∧ frameOk (within 2 300) wrong = false)
      ∧ (frameOk (within 2 300) unknown = true ∧ (unknown.drop 3).take (unknown.length - 5) = [0x1C, 0x10]
        ∧ ∀ k ∈ RequestKind.all, k.code ≠ 0x1C)
      ∧ (frameOk (within 2 300) long = true ∧ (long.drop 3).take (long.length - 5) = [0x02, 0x10, 0x00]
        ∧ RequestKind.trip.code = 0x02 ∧ RequestKind.trip.lengthOk 1 = false)
      ∧ (frameOk (within 2 300) inner = true ∧ (inner.drop 3).take (inner.length - 5) = [0x17, 0x10, 0x02]
        ∧ RequestKind.readCounters.code = 0x17 ∧ RequestKind.readCounters.lengthOk 1 = true
        ∧ RequestKind.readCounters.decode .c 0x10 [0x02] = none)
      ∧ (frameOk (within 2 300) (frame [0x02, 0x10]) = true ∧ RequestKind.trip.lengthOk 0 = true
        ∧ RequestKind.trip.decode .c 0x10 [] = some (.trip .c 0x10))
      ∧ (([0xA5, 0x00, 0x02] : List Byte).head? = some 0xA5 ∧ ([0xA5, 0x00, 0x02] : List Byte).length < 2 + 5
        ∧ partly.now ≤ partly.ports.pLast + 20000)
      ∧ (received.ports.lPartial ≠ [] ∧ (withRpu (fun r => { r with radio := .off }) good).rpu.hears = false)
      ∧ (frameOk (within 5 300) told = true ∧ (told.drop 3).take (told.length - 5) = 0x01 :: be 2 good.rpu.settings.address.toNat ++ [0x02, 0x10])
      ∧ (frameOk (· == 5) acked = true ∧ (acked.drop 3).take (acked.length - 5) = 0x04 :: be 2 1 ++ be 2 65535)
      ∧ (good.ports.pPartial = [] ∧ wrong.head? = some 0xA5 ∧ 3 ≤ wrong.length ∧ ofBytes ((wrong.drop 1).take 2) + 5 = wrong.length)
      ∧ (partly.powered = true ∧ partly.ports.resetIn = false ∧ partly.ports.pPartial.head? = some 0xA5)
      ∧ (good.rpu.hears = true ∧ good.ports.lPartial = [] ∧ (∀ t ∈ [1, 2, 3], (radio t).head? = some 0xA5
        ∧ ofBytes (((radio t).drop 1).take 2) + 5 = (radio t).length ∧ frameOk (within 5 300) (radio t) = false)
        ∧ ((radio 1).drop 3).head? = some 0x01 ∧ ((radio 2).drop 3).head? = some 0x02 ∧ ((radio 3).drop 3).head? = some 0x03) := by
  decide +kernel

/-- L-port requests that fail on their kind or their body, group frames that are accepted and not, and an ACK with a bad check. -/
theorem witness_BadFramesAreAnsweredByPort_too :
    let fields (bytes : List Byte) : List Byte := (bytes.drop 3).take (bytes.length - 5)
    let unknown := frame [0x01, 0x00, 0x01, 0x1C, 0x10]
    let long := frame [0x01, 0x00, 0x01, 0x02, 0x10, 0x00]
    let all := frame [0x01, 0xFF, 0xFF, 0x02, 0x10]
    let other := frame [0x01, 0x00, 0x02, 0x02, 0x10]
    let acked : List Byte := [0xA5, 0x00, 0x05, 0x04, 0x00, 0x01, 0xFF, 0xFF, 0x00, 0x00]
    (∀ bytes ∈ [unknown, long, all, other, acked], bytes.head? = some 0xA5 ∧ 3 ≤ bytes.length
        ∧ ofBytes ((bytes.drop 1).take 2) + 5 = bytes.length)
      ∧ (∀ bytes ∈ [unknown, long, all, other], frameOk (within 5 300) bytes = true)
      ∧ (good.rpu.hears = true ∧ good.ports.lPartial = [] ∧ good.rpu.settings.address = 1 ∧ good.rpu.settings.mask = 0xFFFF)
      ∧ (fields unknown = 0x01 :: be 2 good.rpu.settings.address.toNat ++ [0x1C, 0x10] ∧ ∀ k ∈ RequestKind.all, k.code ≠ 0x1C)
      ∧ (fields long = 0x01 :: be 2 good.rpu.settings.address.toNat ++ [0x02, 0x10, 0x00] ∧ RequestKind.trip.code = 0x02
        ∧ RequestKind.trip.lengthOk 1 = false)
      ∧ (fields all = 0x01 :: be 2 (0xFFFF : Word16).toNat ++ [0x02, 0x10]
        ∧ RequestKind.trip.decode (.l 0xFFFF) 0x10 [] = some (.trip (.l 0xFFFF) 0x10) ∧ RequestKind.trip.lengthOk 0 = true)
      ∧ (fields other = 0x01 :: be 2 (2 : Word16).toNat ++ [0x02, 0x10]
        ∧ ¬ ((2 : Word16) = 0xFFFF ∨ ((2 : Word16) ^^^ good.rpu.settings.address) &&& good.rpu.settings.mask = 0))
      ∧ (frameOk (· == 5) acked = false ∧ (acked.drop 3).head? = some 0x04) := by decide +kernel

theorem witness_AnswersAreCollectedInOrder :
    let a : Answer := ⟨1, 0x10, .done, []⟩
    let s := withPorts (fun p => { p with cAnswers := [a], pAnswers := [a] }) good
    s.powered = true ∧ s.ports.resetIn = false ∧ s.ports.cAnswers = [a] ∧ 7 < a.frame.length ∧ a.frame.length ≤ 8
      ∧ good.ports.cAnswers = [] ∧ s.ports.pAnswers = [a] := by decide +kernel

theorem witness_InterfaceResetClearsThePorts :
    let attended := withTest (.rest 10000000) (some .c) good
    let background := withTest (.rest 10000000) none good
    (good.powered = true ∧ good.ports.resetIn = false ∧ good.bcu.test = none)
      ∧ (attended.ports.resetIn = false ∧ attended.bcu.test.map TestRun.mode = some .attended)
      ∧ (background.ports.resetIn = false ∧ background.bcu.test.map TestRun.mode = some .background) := by decide +kernel

theorem witness_InterfaceResetLeavesTheSequence : exec .resetInAsserted good = .next (after .resetInAsserted good) := by rfl

/-! ### Power and the store -/

def pendingTest : BatteryRecord := { BatteryRecord.default with pending := true }
def lostStore : Store := (Store.blank.put (.battery pendingTest)).put (.shutdownMark true)
def keptStore : Store :=
  (((Store.blank.put (.tagSlot 0 none)).put (.tagSlot 7 (some hotTag))).put (.battery .default)).put (.counters .zero)

theorem lostStore_reads : lostStore.battery = some pendingTest ∧ lostStore.shutdownMark = some true :=
  have h (st : Store) (b : BatteryRecord) (m : Bool) : ((st.put (.battery b)).put (.shutdownMark m)).battery = some b
      ∧ ((st.put (.battery b)).put (.shutdownMark m)).shutdownMark = some m := by
    simp [Store.battery, Store.shutdownMark, Store.read_put, Content.id]
  h .blank pendingTest true

theorem keptStore_reads : keptStore.slot 0 = some none ∧ keptStore.slot 7 = some (some hotTag) ∧ keptStore.slot 1 = none
    ∧ keptStore.battery = some .default ∧ keptStore.counters = some .zero :=
  have h (st : Store) (x y : Option Tag) (b : BatteryRecord) (k : Counters) :
      let u := (((st.put (.tagSlot 0 x)).put (.tagSlot 7 y)).put (.battery b)).put (.counters k)
      u.slot 0 = some x ∧ u.slot 7 = some y ∧ u.slot 1 = st.slot 1 ∧ u.battery = some b ∧ u.counters = some k := by
    simp [Store.slot, Store.battery, Store.counters, Store.read_put, Content.id]
  h .blank none (some hotTag) .default .zero

/-- A store in which every record passes its check. -/
def wholeStore : Store :=
  ([.activeSettings .default, .userCurve1 curveD1, .userCurve2 curveD2, .tagSlot 0 none, .tagSlot 1 none, .tagSlot 2 none, .tagSlot 3 none,
    .tagSlot 4 none, .tagSlot 5 none, .tagSlot 6 none, .tagSlot 7 none, .authority false, .mechanism .substitute, .counters .zero,
    .recordRing [], .battery .default, .link .default, .tracker .default, .shutdownMark false] : List Content).foldl (fun st c => st.put c) .blank

def allIds : List RecordId :=
  [.activeSettings, .userCurve1, .userCurve2] ++ (List.range 8).map .tagSlot
    ++ [.authority, .mechanism, .counters, .recordRing, .battery, .link, .tracker, .shutdownMark]

theorem witness_PowerOnRestoresAndStarts_too :
    (State.dark wholeStore true 0 []).powered = false ∧ (State.dark wholeStore true 0 []).nvs.store = wholeStore
      ∧ (∀ id ∈ allIds, (wholeStore.read id).isSome = true) ∧ (∀ n < 8, wholeStore.slot n = some none) := by
  refine ⟨rfl, rfl, ?_, ?_⟩
  · simp [allIds, List.range_succ, wholeStore, Store.read_put, Content.id]
  · intro n h
    have : n ∈ List.range 8 := by simpa using h
    simp only [List.range_succ, List.range_zero] at this
    simp at this
    rcases this with rfl | rfl | rfl | rfl | rfl | rfl | rfl | rfl <;> simp [Store.slot, wholeStore, Store.read_put, Content.id]

/-- The stores hold each record once, under its own id. -/
theorem witness_PowerOnRestoresAndStarts_ok :
    dark.nvs.store.keyed = true ∧ wholeStore.keyed = true ∧ lostStore.keyed = true ∧ keptStore.keyed = true ∧ good.powered = true := by decide +kernel

theorem witness_PowerOnRestoresAndStarts :
    (dark.powered = false ∧ dark.nvs.store.slot 0 = none ∧ dark.nvs.store.counters = none)
      ∧ ((State.dark lostStore false 1 []).powered = false ∧ (State.dark lostStore false 1 []).nvs.store = lostStore
        ∧ lostStore.battery = some pendingTest ∧ lostStore.shutdownMark = some true)
      ∧ ((State.dark keptStore true 0 []).powered = false ∧ (State.dark keptStore true 0 []).nvs.store = keptStore
        ∧ keptStore.slot 0 = some none ∧ keptStore.slot 7 = some (some hotTag) ∧ keptStore.slot 1 = none
        ∧ keptStore.battery = some .default ∧ keptStore.counters = some .zero) :=
  ⟨⟨rfl, rfl, rfl⟩, ⟨rfl, rfl, lostStore_reads⟩, rfl, rfl, keptStore_reads⟩

theorem witness_StoreWritesCompleteOrFail :
    let first := withNvs (fun n => { n with writing := some ⟨.authority true, false⟩ }) good
    let second := withNvs (fun n => { n with queue := [.counters .zero], writing := some ⟨.authority true, true⟩ }) good
    let clearing := withNvs (fun n => { n with store := n.store.put (.shutdownMark true), writing := some ⟨.shutdownMark false, false⟩ }) good
    let setting := withNvs (fun n => { n with writing := some ⟨.shutdownMark true, true⟩ }) clearing
    (clearing.powered = true ∧ clearing.nvs.writing = some ⟨.shutdownMark false, false⟩ ∧ clearing.bcu.shutdown = .none)
      ∧ (setting.powered = true ∧ setting.nvs.writing = some ⟨.shutdownMark true, true⟩ ∧ setting.bcu.shutdown = .none
        ∧ setting.nvs.store.shutdownMark = some true)
      ∧ (first.powered = true ∧ first.nvs.writing = some ⟨.authority true, false⟩ ∧ first.bcu.shutdown = .none)
      ∧ (second.powered = true ∧ second.nvs.writing = some ⟨.authority true, true⟩ ∧ second.bcu.shutdown = .none) := by decide +kernel

/-- A loss of power without supply, with no write in progress, and in a shutdown that waits for a write or writes its mark. -/
theorem witness_StoreWritesCompleteOrFail_too :
    let marking (w : Writing) := withBcu (fun b => { b with shutdown := .mark, tier := .disconnect })
      (withNvs (fun n => ⟨n.store, [.shutdownMark true], some w⟩) good)
    (dark.powered = false) ∧ (good.powered = true ∧ good.nvs.writing = none)
      ∧ ((marking ⟨.authority true, false⟩).powered = true ∧ (marking ⟨.authority true, false⟩).nvs.writing = some ⟨.authority true, false⟩)
      ∧ ((marking ⟨.shutdownMark false, false⟩).nvs.writing = some ⟨.shutdownMark false, false⟩) := by decide +kernel

/-- The queue runs down to its last entry, and the mark waits behind the write in progress. -/
theorem witness_ShutdownGoesThroughItsSteps_too :
    let at_ (phase : Shutdown) (queue : List Content) :=
      withBcu (fun b => { b with shutdown := phase, tier := .disconnect })
        (withNvs (fun n => ⟨n.store, queue, some ⟨.authority true, false⟩⟩) good)
    (∀ queue ∈ [[Content.counters .zero], [.counters .zero, .recordRing []]], (at_ (.store 15000000) queue).powered = true
        ∧ (at_ (.store 15000000) queue).bcu.shutdown = .store 15000000 ∧ (at_ (.store 15000000) queue).nvs.queue = queue
        ∧ (at_ (.store 15000000) queue).nvs.writing = some ⟨.authority true, false⟩)
      ∧ (∀ rest ∈ [[], [Content.counters .zero]], (at_ .mark (.shutdownMark true :: rest)).bcu.shutdown = .mark
        ∧ (at_ .mark (.shutdownMark true :: rest)).nvs.writing = some ⟨.authority true, false⟩
        ∧ (at_ .mark (.shutdownMark true :: rest)).nvs.queue = .shutdownMark true :: rest
        ∧ Content.authority true ≠ .shutdownMark true) := by decide +kernel

theorem witness_ShutdownGoesThroughItsSteps :
    let at_ (phase : Shutdown) (queue : List Content) (writing : Option Writing) :=
      withBcu (fun b => { b with shutdown := phase, tier := .disconnect }) (withNvs (fun n => ⟨n.store, queue, writing⟩) good)
    let w : Writing := ⟨.authority true, false⟩
    let waiting := withRpu (fun r => { r with lastCall := .waiting }) (at_ (.radio 10000000) [] none)
    let radio := at_ (.radio 10000000) [.counters .zero] (some w)
    (radio.powered = true ∧ radio.bcu.shutdown = .radio 10000000 ∧ radio.nvs.queue ≠ [] ∧ radio.rpu.lastCall ≠ .waiting)
      ∧ (waiting.bcu.shutdown = .radio 10000000 ∧ waiting.rpu.lastCall = .waiting)
      ∧ ((at_ (.store 15000000) [] none).bcu.shutdown = .store 15000000 ∧ (at_ (.store 15000000) [] none).nvs.writing = none)
      ∧ ((at_ (.store 15000000) [] (some w)).nvs.writing = some w ∧ (at_ (.store 15000000) [] (some w)).nvs.queue = [])
      ∧ ((at_ .mark [] (some ⟨.shutdownMark true, true⟩)).bcu.shutdown = .mark
        ∧ (at_ .mark [] (some ⟨.shutdownMark true, true⟩)).nvs.writing = some ⟨.shutdownMark true, true⟩) := by decide +kernel

/-! ### Measurement, protection, the tracker -/

theorem witness_MeasurementUpdateReadsTheLine :
    let waiting := withLmu (fun l => { l with vaS := { l.vaS with qualifiedFrom := some 0 } }) good
    let live := withLmu (fun l => { l with vaS := goodSource 0 }) good
    let at_ := good.reach (good.lmu.lastUpdate + good.lmu.interval)
    let threshold := good.lmu.settings.squelch * good.lmu.settings.nominalVolts / 100
    good.powered = true ∧ threshold = 1440 ∧ 1439 < threshold ∧ good.lmu.vaS.live = false ∧ good.lmu.vaS.qualifiedFrom = none
      ∧ (waiting.lmu.vaS.live = false ∧ waiting.lmu.vaS.qualifiedFrom = some 0 ∧ ¬ 0 + 500000 ≤ at_.now)
      ∧ (live.powered = true ∧ live.lmu.vaS.live = true)
      ∧ (∃ x ∈ (after (.measurementUpdate readings) good).lmu.ia.window, x.clipped = true)
      ∧ (let locked := withLmu (fun l => { l with tracker := .locked .vaS }) live
        locked.lmu.tracker = .locked .vaS ∧ ((after (.measurementUpdate readings) locked).lmu.channel .vaS).good = false
          ∧ locked.rpu.eventOrMeasureCount < 20
          ∧ (after (.measurementUpdate readings) locked).rpu.nextNumber = (locked.rpu.nextNumber + 1) % 65536)
      ∧ good.lmu.tracker = .nominal := by decide +kernel

theorem witness_DecisionsTripInReadyAndReclaim :
    let sharp (s : State) : State := withSqc (fun q => { q with active := { q.active with ip := ⟨1000, 1, 15⟩ } }) s
    let still : Samples := flat 0 false
    let result (r : Readings) (s : State) :=
      let measured := (s.reach (s.lmu.lastUpdate + s.lmu.interval)).measureLine r
      (s.oeb.update s.sqc.active s.sqc.shot s.lmu.interval measured.lmu.currents).2
    let quiet : Readings := ⟨still, still, still, still, still, still, still, still, still⟩
    let timing (run progress : Nat) : State := { good with oeb := { good.oeb with pa := ⟨progress, true, run⟩ } }
    let counts (n : Notice) : Bool := 2 ≤ n.run && 50000 ≤ n.progress
    let staged := withSqc (fun q => { q with staged := some .default }) good
    (∀ q ∈ everySequence, (sharp (inSequence q good)).powered = true ∧ (result readings (sharp (inSequence q good))).decision ≠ []
        ∧ (sharp (inSequence q good)).sqc.reported = true ∧ (sharp (inSequence q good)).mdr.op = none)
      ∧ ((timing 2 50000).powered = true ∧ (result quiet (timing 2 50000)).decision = []
        ∧ (result quiet (timing 2 50000)).notices.find? counts = some ⟨.pa, 2, 50000⟩ ∧ (timing 2 50000).sqc.active.coordination = true
        ∧ (timing 2 50000).sqc.sequence = .ready ∧ (timing 2 50000).sqc.shot + 1 ≤ (timing 2 50000).sqc.active.fast)
      ∧ ((result quiet (timing 1 50000)).notices.find? counts = none ∧ (result quiet (timing 2 49999)).notices.find? counts = none)
      ∧ (∀ q ∈ [Sequence.reclaim (.running 30000000), .reclaim (.paused 5), .opened], (inSequence q good).powered = true
        ∧ (inSequence q good).sqc.reported = true ∧ (result quiet (inSequence q good)).decision = []
        ∧ (result quiet (inSequence q good)).notices.find? counts = none)
      ∧ (staged.sqc.sequence = .ready ∧ (result quiet staged).picked = false ∧ staged.sqc.staged = some .default) := by decide +kernel

theorem witness_TimedElementsFollowTheirCurves :
    (20 ≤ (600 * 100 + 50) / 100 + 0 ∧ (600 * 100 + 50) / 100 + 0 ≤ 600000)
      ∧ ((⟨0, false, 0⟩ : Timed).picked = false ∧ (⟨0, true, 1⟩ : Timed).picked = true)
      ∧ (Settings.default.ip.setting = 0 ∧ (⟨200, 1, 1⟩ : InstantSettings).setting ≠ 0 ∧ (⟨200, 1, 1⟩ : InstantSettings).setting ≤ 200
        ∧ 199 < (⟨200, 1, 1⟩ : InstantSettings).setting)
      ∧ (State.reset.oeb.hotActive = true ∧ good.oeb.hotActive = false)
      ∧ curveD2.length = 8
      ∧ (∀ k < 7, (curveD2.getD k (0, 0)).1 < (curveD2.getD (k + 1) (0, 0)).1
        ∧ (curveD2.getD (k + 1) (0, 0)).2 ≤ (curveD2.getD k (0, 0)).2)
      ∧ 110 ≤ (curveD2.getD 0 (0, 0)).1 ∧ (curveD2.getD 7 (0, 0)).1 ≤ 4000
      ∧ (curveD2.getD 6 (0, 0)).1 ≤ 3999 ∧ 3999 < (curveD2.getD 7 (0, 0)).1 := by decide +kernel

theorem witness_TrackerFollowsItsSources :
    let v := goodSource 0
    let locked := withLmu (fun l => { l with tracker := .locked .vaS, vaS := v, vbS := v }) good
    let holding := withLmu (fun l => { l with
      tracker := .holdover 10000000, vaS := v, settings := { l.settings with sources := [.vaS] } }) good
    let two := withLmu (fun l => { l with vaS := goodSource 1, vbS := v, vcS := v }) good
    (locked.powered = true ∧ locked.lmu.tracker = .locked .vaS ∧ Channel.vaS ∈ locked.lmu.settings.sources)
      ∧ ((locked.lmu.channel .vaS).cycles ≠ [] ∧ (locked.lmu.channel .vbS).cycles ≠ [] ∧ locked.lmu.tracker ≠ .locked .vbS)
      ∧ (holding.powered = true ∧ (∀ d ∈ [Channel.vaS, .vbS, .vcS, .vaL, .vbL, .vcL], holding.lmu.tracker ≠ .locked d)
        ∧ holding.lmu.settings.sources = [.vaS] ∧ (holding.lmu.channel .vaS).goodSince = some 0)
      ∧ holding.lmu.tracker = .holdover 10000000
      ∧ (({ v with cycles := [30001, 16667, 16667, 16667], goodSince := none } : VoltageChannel).cycles.length = 4
        ∧ ¬ 4000 ≤ roundDiv 100000000 (roundDiv [40001, 30000, 30000, 30000].sum 4))
      ∧ (two.powered = true ∧ (∀ d ∈ [Channel.vaS, .vbS, .vcS, .vaL, .vbL, .vcL], two.lmu.tracker ≠ .locked d)
        ∧ (∀ d ∈ two.lmu.settings.sources, ∀ other ∈ (two.lmu.channel d).goodSince, 0 ≤ other)
        ∧ two.lmu.settings.sources.find? (fun d => (two.lmu.channel d).goodSince == some 0) = some .vbS) := by decide +kernel

/-! ### Reports and the radio -/

def lockoutReport : Report := report 0 5 (.alarm .lockout)
def tripReport : Report := report 0 5 (.event .trip)
def loadReport : Report := report 0 5 (.measure .load)

/-- A report in flight with its ack timer running. -/
def flying (x : Report) : State := withRpu (fun r => { r with inFlight := some x, ackTimer := some 3000000 }) good

theorem witness_ReportsAreAcknowledgedOrFail :
    let silent := withRpu (fun r => { r with score := 200, standing := .silent }) (flying lockoutReport)
    let twin := withRpu (fun r => { r with qAlarm := [report 1 6 (.alarm .lockout)] }) (flying lockoutReport)
    let heldTwin := withRpu (fun r => { r with held := [report 1 6 (.alarm .lockout)] }) (flying lockoutReport)
    let spent := { lockoutReport with attempts := 3 }
    (good.powered = true ∧ good.rpu.inFlight = none ∧ good.rpu.settings.address ≠ 2)
      ∧ ((flying lockoutReport).rpu.hears = true ∧ (flying lockoutReport).rpu.settings.address = 1
        ∧ (flying lockoutReport).rpu.inFlight = some lockoutReport ∧ lockoutReport.number = 5)
      ∧ (silent.rpu.hears = true ∧ silent.rpu.inFlight = some lockoutReport ∧ silent.rpu.standing = .silent)
      ∧ (∀ x ∈ [lockoutReport, tripReport, loadReport, spent], (flying x).powered = true ∧ (flying x).rpu.ackTimer = some 3000000
        ∧ (flying x).rpu.inFlight = some x ∧ (flying x).poolInv ∧ (flying x).rpu.singleTrial = false)
      ∧ (twin.poolInv ∧ twin.rpu.inFlight = some lockoutReport ∧ (twin.rpu.qAlarm.any fun y => y.kind == lockoutReport.kind) = true)
      ∧ (heldTwin.poolInv ∧ heldTwin.rpu.inFlight = some lockoutReport
        ∧ (heldTwin.rpu.held.any fun y => y.kind == lockoutReport.kind) = true)
      ∧ (min 8 (lockoutReport.attempts + 1) < good.rpu.settings.maxAttempts ∧ good.rpu.settings.maxAttempts ≤ min 8 (spent.attempts + 1)) := by
  simp only [poolInv_iff]; decide +kernel

/-- An alarm to merge queued, held and neither; and the pool with room, and full with its oldest in each of the three places. -/
theorem witness_ReportsAreAcknowledgedOrFail_too :
    let many (kind : ReportKind) : List Report := (List.range 24).map fun n => report n n kind
    let queued := withRpu (fun r => { r with qAlarm := [lockoutReport] }) good
    let held := withRpu (fun r => { r with held := [lockoutReport] }) good
    let snapshots := withRpu (fun r => { r with qMeasure := [loadReport], qEvent := (many (.event .trip)).drop 1 }) good
    let events := withRpu (fun r => { r with qEvent := many (.event .trip), lost := 255 }) good
    let heldEvents := withRpu (fun r => { r with held := many (.event .trip) }) good
    (∀ s ∈ [good, queued, held, snapshots, events, heldEvents], s.poolInv)
      ∧ ((queued.rpu.qAlarm.any fun x => x.kind == .alarm .lockout) = true ∧ (held.rpu.held.any fun x => x.kind == .alarm .lockout) = true
        ∧ (held.rpu.qAlarm.any fun x => x.kind == .alarm .lockout) = false
        ∧ (good.rpu.qAlarm ++ good.rpu.held).any (fun x => x.kind == .alarm .lockout) = false)
      ∧ (good.rpu.eventOrMeasureCount < 24)
      ∧ (24 ≤ snapshots.rpu.eventOrMeasureCount ∧ oldest snapshots.rpu.qMeasure = some loadReport
        ∧ (snapshots.rpu.qMeasure.any fun x => x.kind == .measure .load) = true
        ∧ (snapshots.rpu.qMeasure.any fun x => x.kind == .measure .energy) = false)
      ∧ (24 ≤ events.rpu.eventOrMeasureCount ∧ events.rpu.qMeasure = [] ∧ oldest events.rpu.qEvent = some (report 0 0 (.event .trip)))
      ∧ (24 ≤ heldEvents.rpu.eventOrMeasureCount ∧ heldEvents.rpu.qMeasure = [] ∧ heldEvents.rpu.qEvent = []
        ∧ oldest (heldEvents.rpu.held.filter fun x => x.kind.isEvent) = some (report 0 0 (.event .trip))) := by
  simp only [poolInv_iff]; decide +kernel

/-- In CRITICAL an event waits; with a report in flight nothing is taken; and the channel wait in DISCONNECT. -/
theorem witness_FramesStartAndEnd_narrowed :
    let critical := withBcu (fun b => { b with tier := .critical }) (withRpu (fun r => { r with qEvent := [tripReport] }) good)
    let lastCall := withBcu (fun b => { b with tier := .disconnect }) (withRpu (fun r => { r with
      held := [report 3 8 (.alarm .batteryDisconnect)], lastCall := .waiting, channelWait := some 10000000 }) good)
    (critical.poolInv ∧ critical.powered = true ∧ critical.rpu.tx = none ∧ critical.rpu.carrier = false ∧ critical.rpu.radio = .on
        ∧ critical.rpu.holdoff = some 0 ∧ critical.bcu.tier = .critical ∧ critical.rpu.answers = [] ∧ critical.rpu.inFlight = none
        ∧ critical.rpu.standing = .good ∧ critical.rpu.qAlarm = [])
      ∧ ((flying lockoutReport).poolInv ∧ (flying lockoutReport).rpu.inFlight ≠ none ∧ (flying lockoutReport).rpu.answers = [])
      ∧ (lastCall.poolInv ∧ lastCall.powered = true ∧ lastCall.rpu.channelWait = some 10000000 ∧ lastCall.rpu.inFlight = none
        ∧ lastCall.rpu.singleTrial = false ∧ lastCall.rpu.ackTimer = none ∧ lastCall.bcu.tier = .disconnect
        ∧ lastCall.rpu.lastCall = .waiting ∧ lastCall.rpu.qAlarm = [] ∧ lastCall.rpu.held = [report 3 8 (.alarm .batteryDisconnect)]) := by
  simp only [poolInv_iff]; decide +kernel

theorem witness_FramesStartAndEnd :
    let base := withRpu (fun r => { r with qAlarm := [{ lockoutReport with notBefore := some 0 }] }) good
    let events := withRpu (fun r => { r with qAlarm := [{ lockoutReport with notBefore := some 1 }], qEvent := [report 1 6 (.event .trip)] }) good
    let silent := withRpu (fun r => { r with score := 200, standing := .silent, probe := .expired, held := [lockoutReport] }) good
    let a : Answer := ⟨1, 0x10, .done, []⟩
    let answering := withRpu (fun r => { r with answers := [a], channelWait := some 10000000 }) base
    let sending (item : TxItem) := withRpu (fun r => { r with tx := some ⟨item, [], 10000⟩ }) (flying lockoutReport)
    let last := withNvs (fun n => { n with queue := [.counters .zero] })
      (withBcu (fun b => { b with shutdown := .radio 10000000 }) (sending (.report lockoutReport.object true)))
    (∀ s ∈ [base, events, silent, answering], s.powered = true ∧ s.poolInv ∧ s.rpu.tx = none ∧ s.rpu.carrier = false ∧ s.rpu.radio = .on
        ∧ s.rpu.holdoff = some 0 ∧ s.bcu.tier = .normal ∧ s.rpu.inFlight = none)
      ∧ answering.rpu.answers = [a]
      ∧ ((base.rpu.qAlarm.find? fun x => x.notBefore.all fun t => t ≤ (base.reach 0).now) = base.rpu.qAlarm.head?)
      ∧ ((events.rpu.qAlarm.find? fun x => x.notBefore.all fun t => t ≤ (events.reach 0).now) = none
        ∧ (events.rpu.qEvent.find? fun x => x.notBefore.all fun t => t ≤ (events.reach 0).now) = events.rpu.qEvent.head?)
      ∧ (silent.rpu.standing = .silent ∧ silent.rpu.probe = .expired
        ∧ oldest ((silent.rpu.qAlarm ++ silent.rpu.held).filter fun y => y.kind.isAlarm) = some lockoutReport)
      ∧ ((sending .answer).rpu.tx = some ⟨.answer, [], 10000⟩)
      ∧ ((sending (.report lockoutReport.object false)).rpu.tx = some ⟨.report lockoutReport.object false, [], 10000⟩
        ∧ (sending (.report lockoutReport.object false)).rpu.inFlight = some lockoutReport)
      ∧ (last.rpu.tx = some ⟨.report lockoutReport.object true, [], 10000⟩ ∧ last.rpu.inFlight = some lockoutReport
        ∧ last.bcu.shutdown = .radio 10000000 ∧ last.nvs.queue ≠ [])
      ∧ (answering.rpu.channelWait = some 10000000 ∧ answering.bcu.tier ≠ .disconnect) := by
  simp only [poolInv_iff]; decide +kernel

/-- A snapshot to send, the transmission of R154, and channel waits over an alarm, an event, a snapshot and a probe. -/
theorem witness_FramesStartAndEnd_too :
    let snapshots := withRpu (fun r => { r with qMeasure := [loadReport] }) good
    let lastCall := withBcu (fun b => { b with tier := .disconnect })
      (withRpu (fun r => { r with qAlarm := [report 3 8 (.alarm .batteryDisconnect)], lastCall := .waiting }) good)
    let alarm := withRpu (fun r => { r with qAlarm := [lockoutReport], channelWait := some 10000000 }) good
    let event := withRpu (fun r => { r with qEvent := [tripReport], channelWait := some 10000000 }) good
    let probe := withRpu (fun r => { r with score := 200, standing := .silent, probe := .expired }) alarm
    (snapshots.poolInv ∧ snapshots.rpu.holdoff = some 0 ∧ snapshots.rpu.qAlarm = [] ∧ snapshots.rpu.qEvent = []
        ∧ snapshots.rpu.qMeasure = [loadReport] ∧ loadReport.notBefore = none)
      ∧ (lastCall.poolInv ∧ lastCall.rpu.tx = none ∧ lastCall.rpu.radio = .on ∧ lastCall.rpu.holdoff = some 0 ∧ lastCall.bcu.tier = .disconnect
        ∧ lastCall.rpu.lastCall = .waiting ∧ lastCall.rpu.inFlight = none ∧ lastCall.rpu.qAlarm = [report 3 8 (.alarm .batteryDisconnect)])
      ∧ (alarm.poolInv ∧ event.poolInv ∧ alarm.rpu.channelWait = some 10000000 ∧ event.rpu.channelWait = some 10000000
        ∧ alarm.rpu.qAlarm = [lockoutReport] ∧ event.rpu.qAlarm = [] ∧ event.rpu.qEvent = [tripReport] ∧ alarm.rpu.answers = []
        ∧ alarm.rpu.inFlight = none ∧ alarm.rpu.singleTrial = false ∧ alarm.rpu.ackTimer = none ∧ alarm.bcu.tier = .normal
        ∧ lockoutReport.notBefore = none)
      ∧ (probe.poolInv ∧ probe.rpu.standing = .silent ∧ probe.rpu.probe = .expired
        ∧ oldest ((probe.rpu.qAlarm ++ probe.rpu.held).filter fun y => y.kind.isAlarm) = some lockoutReport) := by
  simp only [poolInv_iff]; decide +kernel

theorem witness_RadioTimersRun :
    let s := withRpu (fun r => { r with
      probe := .running 60000000, radio := .warming 500000, listen := .waiting 60000000
      qAlarm := [{ lockoutReport with notBefore := some 5000000 }] }) good
    let listening := withRpu (fun r => { r with listen := .opened 62000000 120000000 }) good
    s.powered = true ∧ s.rpu.measureTimer = some 900000000 ∧ s.rpu.probe = .running 60000000 ∧ s.rpu.radio = .warming 500000
      ∧ s.bcu.tier = .normal ∧ good.rpu.radio = .on ∧ true ≠ good.rpu.carrier ∧ s.rpu.listen = .waiting 60000000
      ∧ listening.rpu.listen = .opened 62000000 120000000
      ∧ s.rpu.qAlarm = [{ lockoutReport with notBefore := some 5000000 }]
      ∧ (good.rpu.standing = .good ∧ good.rpu.qMeasure = [] ∧ good.rpu.eventOrMeasureCount ≤ 20) := by decide +kernel

theorem witness_RadioSupplyFollowsTheTier :
    let critical := withBcu (fun b => { b with tier := .critical }) good
    let silent := withRpu (fun r => { r with radio := .off, holdoff := none, listen := .waiting 60000000 }) critical
    let waiting := withRpu (fun r => { r with channelWait := some 9000000 }) good
    let opens := after .listenWindowOpen silent
    (exec (.carrierDetectChange true) good = .next (after (.carrierDetectChange true) good) ∧ good.powered = true
        ∧ (after (.carrierDetectChange true) good).powered = true ∧ true ≠ good.rpu.carrier)
      ∧ (exec .listenWindowOpen silent = .next opens ∧ silent.rpu.radio = .off ∧ opens.rpu.radio ≠ .off ∧ opens.rpu.carrier = false)
      ∧ (after .radioWarmupEnd critical).rpu.radio = .off
      ∧ (good.rpu.channelWait = none ∧ (after (.tagList (.l 1) 1) good).rpu.answers.isEmpty = false
        ∧ (after (.tagList (.l 1) 1) good).rpu.tx = none ∧ (after (.tagList (.l 1) 1) good).rpu.radio = .on)
      ∧ waiting.rpu.channelWait = some 9000000 ∧ (after (.tagList (.l 1) 1) waiting).rpu.radio = .on := by
  refine ⟨⟨rfl, rfl, rfl, ?_⟩, ⟨rfl, ?_⟩, ?_⟩ <;> decide +kernel

/-! ### The mechanism and the sequence -/

theorem witness_CapacitorMeasurementKeepsTheAccount :
    let watching (w : LowWatch) := withMdr (fun m => { m with lowWatch := w }) good
    let recharging := withMdr (fun m => { m with rechargeSince := some 0 }) good
    (good.powered = true ∧ good.sqc.sequence = .ready ∧ good.mdr.rechargeSince = none ∧ 214999 + 5000 < good.mdr.settings.target
        ∧ ¬ 215000 + 5000 < good.mdr.settings.target ∧ good.bcu.tier ≠ .disconnect)
      ∧ (recharging.mdr.rechargeSince = some 0 ∧ recharging.mdr.settings.target ≤ 220000)
      ∧ (6800 * (93933 * 93933) / 2000000000 < good.mdr.settings.eTrip ∧ good.mdr.settings.eTrip ≤ 6800 * (93934 * 93934) / 2000000000
        ∧ good.mdr.poles.anyClosed = true)
      ∧ (good.mdr.lowWatch = .stopped ∧ (watching (.running 60000000)).mdr.lowWatch = .running 60000000
        ∧ (watching .raised).mdr.lowWatch = .raised) := by decide +kernel

theorem witness_SequenceTimersEndTheirStates :
    let interval := opened (.interval 2000000)
    let waiting := opened (.energyWait 32000000)
    let poor := withMdr (fun m => { m with estimate := 99999 }) interval
    let staged := withSqc (fun q => { q with staged := some .default }) (inSequence (.reclaim (.running 30000000)) good)
    (∀ s ∈ [interval, waiting, poor, staged], s.poolInv)
      ∧ (interval.powered = true ∧ interval.sqc.sequence = .interval 2000000 ∧ interval.au.tags = [] ∧ interval.au.handlePulled = false
        ∧ interval.au.block = false ∧ interval.mdr.op = none ∧ interval.mdr.latch = false ∧ interval.mdr.poles.allOpen = true
        ∧ interval.mdr.settings.eClose + interval.mdr.settings.eTrip ≤ interval.mdr.estimate)
      ∧ (poor.sqc.sequence = .interval 2000000 ∧ poor.mdr.estimate < poor.mdr.settings.eClose + poor.mdr.settings.eTrip)
      ∧ ((tagged [hotTag] interval).au.tags ≠ [] ∧ (tagged [hotTag] waiting).au.tags ≠ [])
      ∧ ((withPoles ⟨.closed, .opened, .opened⟩ interval).mdr.poles.allOpen = false
        ∧ (withPoles ⟨.closed, .opened, .opened⟩ waiting).mdr.poles.allOpen = false)
      ∧ (waiting.powered = true ∧ waiting.sqc.sequence = .energyWait 32000000 ∧ 100000 ≤ 6800 * (171499 * 171499) / 2000000000
        ∧ 6800 * (171498 * 171498) / 2000000000 < 100000)
      ∧ ((inSequence (.reclaim (.running 30000000)) good).sqc.staged = none)
      ∧ (staged.sqc.sequence = .reclaim (.running 30000000) ∧ staged.sqc.staged = some .default ∧ staged.sqc.picked = false) := by
  simp only [poolInv_iff]; decide +kernel

/-- Among them a trip whose currents take two poles past the wear limit. -/
theorem witness_TripsCompleteWithAllPolesOpen :
    let worn := { good with oru := { good.oru with counters := { good.oru.counters with limit := 2000000, wear := ⟨1995000, 1993600, 0⟩ } } }
    let heavy : Operation := { tripOp with currents := ⟨8000, 8001, 8000, 0⟩ }
    ((withOp heavy worn).poolInv ∧ (withOp heavy worn).mdr.op = some heavy ∧ 2000000 < 1995000 + 8000 * 8000 / 10000
        ∧ 2000000 < 1993600 + 8001 * 8001 / 10000 ∧ ¬ 2000000 < 1993600 + 8000 * 8000 / 10000)
      ∧
    ∀ q ∈ [Sequence.tripping .protection true, .tripping .command false, .tripping .tag false, .tripping .discordance false, .opened,
      .lockout .shots],
      let s := withOp tripOp (inSequence q good)
      s.powered = true ∧ s.sqc.reported = true ∧ s.mdr.op = some tripOp ∧ tripOp.kind = .trip ∧ (polesOf allOpen).allOpen = true
        ∧ s.mdr.poles ≠ polesOf allOpen := by
  simp only [poolInv_iff]; decide +kernel

theorem witness_TripPulsesAndWindowsEnd :
    let op (phase : Phase) (retrip : Bool) : Operation := { tripOp with phase := phase, retrip := retrip }
    let s (phase : Phase) (retrip : Bool) : State := withOp (op phase retrip) good
    (∀ x ∈ [(Phase.pulse, false), (.settle, false), (.retripPulse, true), (.retripSettle, true)],
      (s x.1 x.2).powered = true ∧ (s x.1 x.2).poolInv ∧ (s x.1 x.2).mdr.op = some (op x.1 x.2) ∧ (op x.1 x.2).kind = .trip ∧ (op x.1 x.2).phase = x.1
        ∧ (op x.1 x.2).retrip = x.2 ∧ (s x.1 x.2).mdr.poles.allOpen = false)
      ∧ ((withOp tripOp (opened .opened)).mdr.op = some tripOp ∧ tripOp.phase = .pulse
        ∧ (withOp tripOp (opened .opened)).mdr.poles.allOpen = true)
      ∧ ((s .retripSettle true).sqc.sequence = .ready ∧ (inSequence (.lockout .shots) (s .retripSettle true)).sqc.sequence = .lockout .shots) := by
  simp only [poolInv_iff]; decide +kernel

theorem witness_ClosesCompleteOrFail :
    let s (kind : CloseKind) := withOp closeOp (opened (.closing kind))
    let settling := withOp { closeOp with phase := .settle } (opened (.closing .reclose))
    (∀ kind ∈ [CloseKind.reclose, .command], (s kind).powered = true ∧ (s kind).sqc.reported = true ∧ (s kind).mdr.op = some closeOp
        ∧ closeOp.kind = .close ∧ (polesOf allClosed).allClosed = true ∧ (s kind).mdr.poles ≠ polesOf allClosed
        ∧ (s kind).au.tags = [] ∧ (tagged [hotTag] (s kind)).au.tags ≠ [] ∧ closeOp.phase = .pulse)
      ∧ ((withOp closeOp (opened .opened)).mdr.op = some closeOp)
      ∧ (settling.mdr.op = some { closeOp with phase := .settle } ∧ settling.mdr.poles.allOpen = true)
      ∧ ((withPoles (polesOf mixed) settling).mdr.poles.allOpen = false ∧ (withPoles (polesOf mixed) settling).mdr.poles.allClosed = false) := by
  decide +kernel

theorem witness_PoleEventsWithNothingInFlight :
    let fresh := withSqc (fun q => { q with sequence := .opened, reported := false }) good
    let partly := withPoles ⟨.invalid, .closed, .closed⟩ good
    (∀ s ∈ [fresh, good, opened .opened, partly], s.poolInv)
      ∧ (fresh.powered = true ∧ fresh.sqc.reported = false ∧ fresh.mdr.op = none ∧ fresh.sqc.sequence = .opened
        ∧ (polesOf allClosed).allClosed = true ∧ (polesOf allOpen).allOpen = true
        ∧ (polesOf mixed).allClosed = false ∧ (polesOf mixed).allOpen = false ∧ (polesOf mixed).anyClosed = true)
      ∧ (good.sqc.reported = true ∧ good.mdr.poles = polesOf allClosed)
      ∧ (good.mdr.op = none ∧ good.mdr.poles ≠ polesOf allOpen)
      ∧ ((opened .opened).mdr.poles ≠ polesOf mixed ∧ (opened .opened).mdr.poles.risen (polesOf mixed) = true)
      ∧ (good.mdr.poles ≠ polesOf mixed ∧ (polesOf mixed).allOpen = false ∧ good.mdr.poles.risen (polesOf mixed) = false
        ∧ good.mdr.latch = false)
      ∧ ((withMdr (fun m => { m with invalidWatch := some 200000, mixedWatch := some 200000 }) partly).mdr.op = none
        ∧ (withMdr (fun m => { m with invalidWatch := some 200000, mixedWatch := some 200000 }) partly).mdr.latch = false) := by
  simp only [poolInv_iff]; decide +kernel

theorem witness_DoorSwitchesAreKept :
    good.powered = true ∧ good.au.mode = .remoteMode ∧ good.au.modeTaken = true ∧ State.reset.powered = true
      ∧ State.reset.au.mode = .localMode ∧ State.reset.au.modeTaken = false := by decide +kernel

/-- Every input with a reading that stands, one that has stood, and none; a running panel close delay under a key that turns. -/
theorem witness_DoorSwitchesAreKept_too :
    let waiting (b : Bool) (s : State) : State := { s with au := { s.au with
      keyStand := some ⟨if b then .localMode else .remoteMode, 100000⟩, supervisorStand := some ⟨b, 100000⟩
      handleStand := some ⟨b, 20000⟩, buttonStand := some ⟨b, 20000⟩ } }
    let panel (s : State) : State := { s with au := { s.au with panel := .running 5000000 } }
    (good.powered = true ∧ good.au.keyStand = none ∧ good.au.supervisorStand = none ∧ good.au.handleStand = none
        ∧ good.au.buttonStand = none)
      ∧ (∀ b ∈ [true, false], (waiting b good).powered = true ∧ (waiting b good).now < 20000
        ∧ 100000 ≤ ((waiting b good).reach 100000).now ∧ ((waiting b good).reach 100000).powered = true)
      ∧ ((waiting true good).au.keyStand = some ⟨.localMode, 100000⟩ ∧ good.au.mode ≠ .localMode)
      ∧ ((waiting false State.reset).au.keyStand = some ⟨.remoteMode, 100000⟩ ∧ (panel (waiting true good)).au.panel = .running 5000000) := by
  decide +kernel

/-! ### AC supply and battery -/

theorem witness_AcReadingsAndBatteryTimers :
    let standing (b : Bool) (s : State) : State := withBcu (fun k => { k with acStand := some ⟨b, 2000000⟩ }) s
    let off := withBcu (fun b => { b with acPresent := false }) good
    let first := withBcu (fun b => { b with acPresent := false, acQualified := false }) good
    let tested := withTest (.rest 10000000) none good
    let running (charger : Charger) := withBcu (fun b => { b with charger := charger, disconnectSince := some 0 }) off
    (∀ s ∈ [good, off, first, tested, running .off, standing true good, standing false tested], s.poolInv)
      ∧ (∀ s ∈ [good, off, first, tested], s.powered = true ∧ s.bcu.acStand = none ∧ ∀ b ∈ [true, false],
          (standing b s).bcu.acStand = some ⟨b, 2000000⟩ ∧ (standing b s).now < 2000000 ∧ 2000000 ≤ ((standing b s).reach 2000000).now)
      ∧ (good.powered = true ∧ good.bcu.acPresent = true ∧ good.bcu.test = none)
      ∧ (off.powered = true ∧ off.bcu.acPresent = false ∧ off.bcu.acQualified = true)
      ∧ (first.bcu.acPresent = false ∧ first.bcu.acQualified = false)
      ∧ (tested.bcu.acPresent = true ∧ tested.bcu.test = some ⟨.background, none, .rest 10000000, 0, none⟩)
      ∧ ((running (.absorb 0)).bcu.charger = .absorb 0 ∧ (running (.float 0 (some 0))).bcu.charger = .float 0 (some 0)
        ∧ (running .off).powered = true ∧ (running .off).bcu.disconnectSince = some 0 ∧ (running .off).bcu.tier ≠ .disconnect) := by
  simp only [poolInv_iff]; decide +kernel

/-- Each tier decision is met on its bound by a measurement; and a measurement in LOAD. -/
theorem witness_BatteryMeasurementDecidesTheTier :
    let load := withTest (.load 20000000) none good
    (good.poolInv ∧ load.poolInv)
      ∧ (good.powered = true ∧ good.bcu.tier = .normal ∧ (after (.batteryMeasurement 22999 0 250) good).bcu.tier = .low
        ∧ (after (.batteryMeasurement 21999 0 250) good).bcu.tier = .critical ∧ (after (.batteryMeasurement 23000 0 250) good).bcu.tier = .normal)
      ∧ (load.powered = true ∧ load.bcu.charger = .testHold ∧ load.bcu.inLoad = true) := by
  simp only [poolInv_iff]; decide +kernel

/-! ### Invariants -/

/-- A command in front of the queue. -/
def queued (c : Instr) (s : State) : State := { s with pending := [c] }

theorem witness_StepsKeepRecordsSequenceAndLink :
    let s := withRpu (fun r => { r with inFlight := some (report 0 5 (.alarm .lockout)), score := 48, standing := .weak })
      (withNvs (fun n => { n with queue := [.counters .zero, .recordRing []] }) good)
    step (queued (.ack 1 5) s) = .next (after (.ack 1 5) s) ∧ (queued (.ack 1 5) s).recordsInv ∧ (queued (.ack 1 5) s).sequenceInv
      ∧ (queued (.ack 1 5) s).linkInv := by
  refine ⟨rfl, ?_, ⟨(rfl : good.sqc.shot = 0), by decide +kernel, by decide +kernel⟩, ?_⟩
  · simp only [State.recordsInv]; decide +kernel
  · simp only [State.linkInv]; decide +kernel

theorem witness_StepsKeepAuthority :
    let s := queued (.tagRemove .p 1 7 4134) (tagged fullTable good)
    step s = .next (after (.tagRemove .p 1 7 4134) (tagged fullTable good)) ∧ s.authorityInv := by
  refine ⟨rfl, ?_⟩
  simp only [State.authorityInv]; decide +kernel

theorem witness_StepsKeepLoadAndCoils :
    let load := queued (.trip .c 1) (withBcu (fun b => { b with loadOn := true }) (withTest (.load 20000000) none good))
    let pulse := queued .closePulseEnd (withOp closeOp (opened (.closing .reclose)))
    (step load = .next (after (.trip .c 1) { load with pending := [] }) ∧ load.loadInv)
      ∧ (step pulse = .next (after .closePulseEnd { pulse with pending := [] }) ∧ pulse.mechanismInv) := by
  refine ⟨⟨rfl, ?_⟩, rfl, ?_, ?_, ?_, ?_⟩
  · simp only [State.loadInv]; decide +kernel
  · decide +kernel
  · decide +kernel
  · rintro op ⟨⟩; decide +kernel
  · decide +kernel

theorem witness_StepsKeepThePool :
    let s := withRpu (fun r => { r with qAlarm := [report 1 6 (.alarm .lowEnergy)], held := [report 2 7 (.event .trip)] })
      (flying lockoutReport)
    step (queued .ackTimeout s) = .next (after .ackTimeout s) ∧ (queued .ackTimeout s).poolInv := by
  refine ⟨rfl, ?_⟩
  simp only [poolInv_iff]; decide +kernel

/-- A step that starts a close: the reclose interval ends in front of a full bank. -/
theorem witness_ClosePulsesNeedThePermit :
    let s := { opened (.interval 2000000) with pending := [.recloseIntervalExpiry] }
    step s = .next (after .recloseIntervalExpiry { s with pending := [] }) ∧ s.mdr.closeDrive = false
      ∧ (after .recloseIntervalExpiry { s with pending := [] }).mdr.closeDrive = true := ⟨rfl, rfl, by decide +kernel⟩

end Sys2Proof.Tests
end

section
/-! PROOFS. The reclose sequence: what the interface reset leaves of it (R64). -/

namespace Sys2Proof.Machine

/-- A command whose effect leaves the SQC alone leaves it alone with the supply present (the re-judging of R152 does not reach the SQC) and
without it. -/
theorem act_keeps_sqc {f : State → State} {s t : State} (hf : (f s).sqc = s.sqc) (h : act f s = .next t) :
    t.sqc = s.sqc := by
  cases hp : s.powered with
  | true =>
    obtain rfl : (f s).rejudge = t := Host.Outcome.next.inj ((act_powered hp).symm.trans h)
    exact (State.rejudge_sqc _).trans hf
  | false =>
    obtain rfl : s = t := Host.Outcome.next.inj ((act_unpowered hp).symm.trans h)
    rfl

/-- Steps 1 to 6 of R181 write the ports, the radio's answers and the test's mode, and drop the closes that wait. -/
@[simp] theorem State.interfaceReset_sqc (s : State) : s.interfaceReset.sqc = s.sqc :=
  State.dropCloses_sqc _ _

/-- The effect of RESET_IN_ASSERTED is R181's, unless the reset is active already. -/
theorem exec_resetInAsserted (s : State) :
    exec .resetInAsserted s = act (fun s => if s.ports.resetIn then s else s.interfaceReset) s := rfl

theorem resetInAsserted_keeps_sqc {s t : State} (h : exec .resetInAsserted s = .next t) : t.sqc = s.sqc := by
  rw [exec_resetInAsserted] at h
  refine act_keeps_sqc ?_ h
  split
  · rfl
  · exact s.interfaceReset_sqc

/-- Settles O33: the whole record of the SQC is kept, so each of its fields is. -/
theorem interfaceResetLeavesTheSequence : Obligations.InterfaceResetLeavesTheSequence := by
  intro s t h
  have hsqc : t.sqc = s.sqc := resetInAsserted_keeps_sqc h
  simp only [hsqc, and_self]

end Sys2Proof.Machine
end

section
/-! PROOFS. Tags and selection: the read-out of the tag table (R97). -/

namespace Sys2Proof.Machine

/-- A request whose owner only reads the state is answered DONE with what it read and changes nothing. -/
theorem State.completes_of_read {c : Instr} {s : State} {kind : RequestKind} {src : Source} {ref : Byte} {port : Port}
    {owner : Port → State → Taken} {body : List Byte} (hc : c.request = some (kind, src, ref))
    (he : exec c s = act (respond kind src ref owner) s) (ho : owner port s = .done body s) (ht : s.taken c port) :
    s.completes c port .done body s := by
  have hreply : (owner port s).reply = some (.done, body) := congrArg Taken.reply ho
  have hstate : (owner port s).state = s := congrArg Taken.state ho
  refine State.completes_of hc he (State.taken_elim hc ht) hreply ?_ ?_
  · rw [hstate]; rfl
  · intro q; rw [hstate]

theorem exec_tagList (src : Source) (ref : Byte) (s : State) :
    exec (.tagList src ref) s = act (respond .tagList src ref fun _ s => .done (encList Tag.enc s.au.tags) s) s := rfl

/-- Every port may ask for the tag table (Table 9-1). -/
theorem tagList_permitted (port : Port) : RequestKind.tagList.permitted port = true := by
  cases port <;> rfl

/-- The body of the answer, field by field of Table 5-2: the count of entries, then the entries in the table's order. -/
theorem encList_tagEnc (tags : List Tag) :
    encList Tag.enc tags = BitVec.ofNat 8 tags.length :: tags.flatMap fun t =>
      [BitVec.ofNat 8 t.slot, t.kind.code, portCode t.origin] ++ be 2 t.crew ++ t.placed.enc
        ++ BitVec.ofNat 8 t.note.length :: t.note := rfl

/-- Settles O7: TAG LIST is a request whose owner only reads the table. -/
theorem tagListGivesTheWholeTable : Obligations.TagListGivesTheWholeTable := by
  refine ⟨tagList_permitted, fun src ref port s ht => ?_⟩
  rw [← encList_tagEnc]
  exact State.completes_of_read rfl (exec_tagList src ref s) rfl ht

end Sys2Proof.Machine
end

section
/-! PROOFS. What each operation of the blocks leaves as it was: one lemma for each operation, in the order of the model's files. -/

namespace Sys2Proof.Machine

/-! ### What announcements leave of the RPU and the ports -/

/-- The RPU without its report pool: alarms, events and snapshots leave it as it is. -/
def Rpu.unpooled (r : Rpu) : Rpu :=
  { r with qAlarm := [], qEvent := [], qMeasure := [], held := [], nextNumber := 0, nextOrder := 0, lost := 0 }

/-- The RPU without the report in flight, the link's score and their timers: failed attempts leave it as it is. -/
def Rpu.channel (r : Rpu) : Rpu :=
  { r with
    inFlight := none, singleTrial := false, score := 0, standing := .good, ackTimer := none, probe := .stopped, listen := .stopped
    lastCall := .none }

/-- The ports without their sticky bits: occurrences leave them as they are. -/
def Ports.unflagged (p : Ports) : Ports := { p with cAlerts := ⟨0, p.cAlerts.mask⟩, pAlerts := ⟨0, p.pAlerts.mask⟩ }

/-- The ports without their answers and holds. -/
def Ports.unanswered (p : Ports) : Ports := { p with cAnswers := [], pAnswers := [], cHold := none, pHold := none }

@[simp] theorem Ports.raise_unflagged (f : Flag) (p : Ports) : (p.raise f).unflagged = p.unflagged := rfl

@[simp] theorem Rpu.alarm_unpooled (now : Stamp) (id : AlarmId) (payload : List Byte) (r : Rpu) :
    (r.alarm now id payload).unpooled = r.unpooled := by
  unfold Rpu.alarm
  repeat' split
  all_goals rfl

@[simp] theorem Rpu.evict_unpooled (r : Rpu) : r.evict.unpooled = r.unpooled := by
  unfold Rpu.evict
  repeat' split
  all_goals rfl

@[simp] theorem Rpu.event_unpooled (now : Stamp) (kind : EventKind) (payload : List Byte) (r : Rpu) :
    (r.event now kind payload).unpooled = r.unpooled := r.evict_unpooled

@[simp] theorem Rpu.snapshot_unpooled (now : Stamp) (set : MeasureSet) (payload : List Byte) (r : Rpu) :
    (r.snapshot now set payload).unpooled = r.unpooled := by
  unfold Rpu.snapshot
  split
  · rfl
  · exact r.evict_unpooled

/-! ### Shared operations -/

@[simp] theorem State.reserve_frame (s : State) :
    (s.reserve.1).clock = s.clock ∧ (s.reserve.1).lmu = s.lmu ∧ (s.reserve.1).oeb = s.oeb
      ∧ (s.reserve.1).sqc = s.sqc ∧ (s.reserve.1).mdr = s.mdr ∧ (s.reserve.1).au = s.au ∧ (s.reserve.1).bcu = s.bcu
      ∧ (s.reserve.1).rpu = s.rpu ∧ (s.reserve.1).ports = s.ports ∧ (s.reserve.1).powered = s.powered
      ∧ (s.reserve.1).freeIndex = s.freeIndex ∧ (s.reserve.1).pending = s.pending := by
  simp [State.reserve]

@[simp] theorem State.judgeWear_frame (s : State) :
    (s.judgeWear).clock = s.clock ∧ (s.judgeWear).lmu = s.lmu ∧ (s.judgeWear).oeb = s.oeb
      ∧ (s.judgeWear).sqc = s.sqc ∧ (s.judgeWear).mdr = s.mdr ∧ (s.judgeWear).au = s.au ∧ (s.judgeWear).bcu = s.bcu
      ∧ (s.judgeWear).rpu.unpooled = s.rpu.unpooled ∧ (s.judgeWear).ports = s.ports ∧ (s.judgeWear).nvs = s.nvs
      ∧ (s.judgeWear).powered = s.powered ∧ (s.judgeWear).freeIndex = s.freeIndex ∧ (s.judgeWear).pending = s.pending := by
  unfold State.judgeWear
  dsimp only
  repeat' split
  all_goals simp

@[simp] theorem State.record_frame (r : OpRecord) (s : State) :
    (s.record r).clock = s.clock ∧ (s.record r).lmu = s.lmu ∧ (s.record r).oeb = s.oeb ∧ (s.record r).sqc = s.sqc
      ∧ (s.record r).mdr = s.mdr ∧ (s.record r).au = s.au ∧ (s.record r).bcu = s.bcu
      ∧ (s.record r).rpu.unpooled = s.rpu.unpooled ∧ (s.record r).ports = s.ports ∧ (s.record r).powered = s.powered
      ∧ (s.record r).freeIndex = s.freeIndex ∧ (s.record r).pending = s.pending := by
  unfold State.record
  dsimp only
  repeat' split
  all_goals simp

@[simp] theorem State.newRecord_frame (k : RecordKind) (o : Origin) (e : Option Element) (c : Option Currents) (n : Option Nat) (s : State) :
    ((s.newRecord k o e c n).1).clock = s.clock ∧ ((s.newRecord k o e c n).1).lmu = s.lmu
      ∧ ((s.newRecord k o e c n).1).oeb = s.oeb ∧ ((s.newRecord k o e c n).1).sqc = s.sqc
      ∧ ((s.newRecord k o e c n).1).mdr = s.mdr ∧ ((s.newRecord k o e c n).1).au = s.au
      ∧ ((s.newRecord k o e c n).1).bcu = s.bcu ∧ ((s.newRecord k o e c n).1).rpu.unpooled = s.rpu.unpooled
      ∧ ((s.newRecord k o e c n).1).ports = s.ports ∧ ((s.newRecord k o e c n).1).powered = s.powered
      ∧ ((s.newRecord k o e c n).1).freeIndex = s.freeIndex ∧ ((s.newRecord k o e c n).1).pending = s.pending := by
  simp [State.newRecord]

/-! ### Line Measurement Unit -/

@[simp] theorem State.setTracker_frame (t : Tracker) (period : Nat) (s : State) :
    (s.setTracker t period).clock = s.clock ∧ (s.setTracker t period).oeb = s.oeb
      ∧ (s.setTracker t period).sqc = s.sqc ∧ (s.setTracker t period).mdr = s.mdr ∧ (s.setTracker t period).au = s.au
      ∧ (s.setTracker t period).bcu = s.bcu ∧ (s.setTracker t period).rpu.unpooled = s.rpu.unpooled
      ∧ (s.setTracker t period).oru = s.oru ∧ (s.setTracker t period).ports.unflagged = s.ports.unflagged
      ∧ (s.setTracker t period).nvs = s.nvs ∧ (s.setTracker t period).powered = s.powered
      ∧ (s.setTracker t period).freeIndex = s.freeIndex ∧ (s.setTracker t period).pending = s.pending := by
  simp [State.setTracker]

@[simp] theorem State.lockTo_frame (c : Channel) (s : State) :
    (s.lockTo c).clock = s.clock ∧ (s.lockTo c).oeb = s.oeb ∧ (s.lockTo c).sqc = s.sqc ∧ (s.lockTo c).mdr = s.mdr
      ∧ (s.lockTo c).au = s.au ∧ (s.lockTo c).bcu = s.bcu ∧ (s.lockTo c).rpu.unpooled = s.rpu.unpooled
      ∧ (s.lockTo c).oru = s.oru ∧ (s.lockTo c).ports.unflagged = s.ports.unflagged ∧ (s.lockTo c).nvs = s.nvs
      ∧ (s.lockTo c).powered = s.powered ∧ (s.lockTo c).freeIndex = s.freeIndex ∧ (s.lockTo c).pending = s.pending := by
  simp [State.lockTo]

@[simp] theorem State.keepLock_frame (s : State) :
    (s.keepLock).clock = s.clock ∧ (s.keepLock).oeb = s.oeb ∧ (s.keepLock).sqc = s.sqc ∧ (s.keepLock).mdr = s.mdr
      ∧ (s.keepLock).au = s.au ∧ (s.keepLock).bcu = s.bcu ∧ (s.keepLock).rpu.unpooled = s.rpu.unpooled
      ∧ (s.keepLock).oru = s.oru ∧ (s.keepLock).ports.unflagged = s.ports.unflagged ∧ (s.keepLock).nvs = s.nvs
      ∧ (s.keepLock).powered = s.powered ∧ (s.keepLock).freeIndex = s.freeIndex ∧ (s.keepLock).pending = s.pending := by
  unfold State.keepLock
  repeat' split
  all_goals simp

@[simp] theorem State.tryLock_frame (s : State) :
    (s.tryLock).clock = s.clock ∧ (s.tryLock).oeb = s.oeb ∧ (s.tryLock).sqc = s.sqc ∧ (s.tryLock).mdr = s.mdr
      ∧ (s.tryLock).au = s.au ∧ (s.tryLock).bcu = s.bcu ∧ (s.tryLock).rpu.unpooled = s.rpu.unpooled
      ∧ (s.tryLock).oru = s.oru ∧ (s.tryLock).ports.unflagged = s.ports.unflagged ∧ (s.tryLock).nvs = s.nvs
      ∧ (s.tryLock).powered = s.powered ∧ (s.tryLock).freeIndex = s.freeIndex ∧ (s.tryLock).pending = s.pending := by
  unfold State.tryLock
  repeat' split
  all_goals simp

@[simp] theorem State.measureLine_frame (r : Readings) (s : State) :
    (s.measureLine r).clock = s.clock ∧ (s.measureLine r).oeb = s.oeb ∧ (s.measureLine r).sqc = s.sqc
      ∧ (s.measureLine r).mdr = s.mdr ∧ (s.measureLine r).au = s.au ∧ (s.measureLine r).bcu = s.bcu
      ∧ (s.measureLine r).rpu.unpooled = s.rpu.unpooled ∧ (s.measureLine r).oru = s.oru
      ∧ (s.measureLine r).ports.unflagged = s.ports.unflagged ∧ (s.measureLine r).nvs = s.nvs
      ∧ (s.measureLine r).powered = s.powered ∧ (s.measureLine r).freeIndex = s.freeIndex
      ∧ (s.measureLine r).pending = s.pending := by
  simp [State.measureLine]

@[simp] theorem State.followSource_frame (c : Channel) (s : State) :
    (s.followSource c).clock = s.clock ∧ (s.followSource c).oeb = s.oeb ∧ (s.followSource c).sqc = s.sqc
      ∧ (s.followSource c).mdr = s.mdr ∧ (s.followSource c).au = s.au ∧ (s.followSource c).bcu = s.bcu
      ∧ (s.followSource c).rpu = s.rpu ∧ (s.followSource c).oru = s.oru ∧ (s.followSource c).ports = s.ports
      ∧ (s.followSource c).nvs = s.nvs ∧ (s.followSource c).powered = s.powered
      ∧ (s.followSource c).freeIndex = s.freeIndex ∧ (s.followSource c).pending = s.pending := by
  unfold State.followSource
  split <;> simp

/-! ### Report Unit -/

@[simp] theorem State.restand_frame (s : State) :
    (s.restand).clock = s.clock ∧ (s.restand).lmu = s.lmu ∧ (s.restand).oeb = s.oeb ∧ (s.restand).sqc = s.sqc
      ∧ (s.restand).mdr = s.mdr ∧ (s.restand).au = s.au ∧ (s.restand).bcu = s.bcu
      ∧ (s.restand).rpu.unpooled.channel = s.rpu.unpooled.channel ∧ (s.restand).oru = s.oru
      ∧ (s.restand).ports.unflagged = s.ports.unflagged ∧ (s.restand).nvs = s.nvs ∧ (s.restand).powered = s.powered
      ∧ (s.restand).freeIndex = s.freeIndex ∧ (s.restand).pending = s.pending := by
  unfold State.restand
  dsimp only
  split <;> simp [Rpu.channel, Rpu.unpooled]

@[simp] theorem State.setScore_frame (n : Nat) (s : State) :
    (s.setScore n).clock = s.clock ∧ (s.setScore n).lmu = s.lmu ∧ (s.setScore n).oeb = s.oeb
      ∧ (s.setScore n).sqc = s.sqc ∧ (s.setScore n).mdr = s.mdr ∧ (s.setScore n).au = s.au
      ∧ (s.setScore n).bcu = s.bcu ∧ (s.setScore n).rpu.unpooled.channel = s.rpu.unpooled.channel
      ∧ (s.setScore n).oru = s.oru ∧ (s.setScore n).ports.unflagged = s.ports.unflagged ∧ (s.setScore n).nvs = s.nvs
      ∧ (s.setScore n).powered = s.powered ∧ (s.setScore n).freeIndex = s.freeIndex
      ∧ (s.setScore n).pending = s.pending := by
  exact State.restand_frame _

@[simp] theorem Rpu.dispose_unpooled (now : Nat) (single : Bool) (x : Report) (r : Rpu) :
    (r.dispose now single x).unpooled = r.unpooled := by
  unfold Rpu.dispose
  dsimp only
  repeat' split
  all_goals rfl

@[simp] theorem Rpu.takeOut_unpooled (x : Report) (r : Rpu) : (r.takeOut x).unpooled = r.unpooled := rfl
@[simp] theorem Rpu.releaseHeld_unpooled (r : Rpu) : r.releaseHeld.unpooled = r.unpooled := rfl

@[simp] theorem State.charge_frame (single : Bool) (x : Report) (s : State) :
    (s.charge single x).clock = s.clock ∧ (s.charge single x).lmu = s.lmu ∧ (s.charge single x).oeb = s.oeb
      ∧ (s.charge single x).sqc = s.sqc ∧ (s.charge single x).mdr = s.mdr ∧ (s.charge single x).au = s.au
      ∧ (s.charge single x).bcu = s.bcu ∧ (s.charge single x).rpu.unpooled.channel = s.rpu.unpooled.channel
      ∧ (s.charge single x).oru = s.oru ∧ (s.charge single x).ports.unflagged = s.ports.unflagged
      ∧ (s.charge single x).nvs = s.nvs ∧ (s.charge single x).powered = s.powered
      ∧ (s.charge single x).freeIndex = s.freeIndex ∧ (s.charge single x).pending = s.pending := by
  simp [State.charge]

@[simp] theorem State.chargeInFlight_frame (s : State) :
    (s.chargeInFlight).clock = s.clock ∧ (s.chargeInFlight).lmu = s.lmu ∧ (s.chargeInFlight).oeb = s.oeb
      ∧ (s.chargeInFlight).sqc = s.sqc ∧ (s.chargeInFlight).mdr = s.mdr ∧ (s.chargeInFlight).au = s.au
      ∧ (s.chargeInFlight).bcu = s.bcu ∧ (s.chargeInFlight).rpu.unpooled.channel = s.rpu.unpooled.channel
      ∧ (s.chargeInFlight).oru = s.oru ∧ (s.chargeInFlight).ports.unflagged = s.ports.unflagged
      ∧ (s.chargeInFlight).nvs = s.nvs ∧ (s.chargeInFlight).powered = s.powered
      ∧ (s.chargeInFlight).freeIndex = s.freeIndex ∧ (s.chargeInFlight).pending = s.pending := by
  unfold State.chargeInFlight
  split
  · exact State.charge_frame _ _ _
  · simp

@[simp] theorem State.acknowledge_frame (n : Nat) (s : State) :
    (s.acknowledge n).clock = s.clock ∧ (s.acknowledge n).lmu = s.lmu ∧ (s.acknowledge n).oeb = s.oeb
      ∧ (s.acknowledge n).sqc = s.sqc ∧ (s.acknowledge n).mdr = s.mdr ∧ (s.acknowledge n).au = s.au
      ∧ (s.acknowledge n).bcu = s.bcu ∧ (s.acknowledge n).rpu.unpooled.channel = s.rpu.unpooled.channel
      ∧ (s.acknowledge n).oru = s.oru ∧ (s.acknowledge n).ports.unflagged = s.ports.unflagged
      ∧ (s.acknowledge n).nvs = s.nvs ∧ (s.acknowledge n).powered = s.powered
      ∧ (s.acknowledge n).freeIndex = s.freeIndex ∧ (s.acknowledge n).pending = s.pending := by
  unfold State.acknowledge
  split
  · split
    · exact State.setScore_frame _ { s with rpu := { s.rpu with inFlight := none, singleTrial := false, ackTimer := none } }
    · simp
  · simp

@[simp] theorem State.tierToRpu_frame (old new : Tier) (s : State) :
    (s.tierToRpu old new).clock = s.clock ∧ (s.tierToRpu old new).lmu = s.lmu ∧ (s.tierToRpu old new).oeb = s.oeb
      ∧ (s.tierToRpu old new).sqc = s.sqc ∧ (s.tierToRpu old new).mdr = s.mdr ∧ (s.tierToRpu old new).au = s.au
      ∧ (s.tierToRpu old new).bcu = s.bcu ∧ (s.tierToRpu old new).rpu.unpooled.channel = s.rpu.unpooled.channel
      ∧ (s.tierToRpu old new).oru = s.oru ∧ (s.tierToRpu old new).ports = s.ports ∧ (s.tierToRpu old new).nvs = s.nvs
      ∧ (s.tierToRpu old new).powered = s.powered ∧ (s.tierToRpu old new).freeIndex = s.freeIndex
      ∧ (s.tierToRpu old new).pending = s.pending := by
  exact ⟨rfl, rfl, rfl, rfl, rfl, rfl, rfl, rfl, rfl, rfl, rfl, rfl, rfl, rfl⟩

@[simp] theorem State.askLastCall_frame (s : State) :
    (s.askLastCall).clock = s.clock ∧ (s.askLastCall).lmu = s.lmu ∧ (s.askLastCall).oeb = s.oeb
      ∧ (s.askLastCall).sqc = s.sqc ∧ (s.askLastCall).mdr = s.mdr ∧ (s.askLastCall).au = s.au
      ∧ (s.askLastCall).bcu = s.bcu ∧ (s.askLastCall).rpu.unpooled.channel = s.rpu.unpooled.channel
      ∧ (s.askLastCall).oru = s.oru ∧ (s.askLastCall).ports.unflagged = s.ports.unflagged
      ∧ (s.askLastCall).nvs = s.nvs ∧ (s.askLastCall).powered = s.powered ∧ (s.askLastCall).freeIndex = s.freeIndex
      ∧ (s.askLastCall).pending = s.pending := by
  exact s.chargeInFlight_frame

@[simp] theorem State.snapshot_frame (set : MeasureSet) (s : State) :
    (s.snapshot set).clock = s.clock ∧ (s.snapshot set).lmu = s.lmu ∧ (s.snapshot set).oeb = s.oeb
      ∧ (s.snapshot set).sqc = s.sqc ∧ (s.snapshot set).mdr = s.mdr ∧ (s.snapshot set).au = s.au
      ∧ (s.snapshot set).bcu = s.bcu ∧ (s.snapshot set).rpu.unpooled = s.rpu.unpooled ∧ (s.snapshot set).oru = s.oru
      ∧ (s.snapshot set).ports = s.ports ∧ (s.snapshot set).nvs = s.nvs ∧ (s.snapshot set).powered = s.powered
      ∧ (s.snapshot set).freeIndex = s.freeIndex ∧ (s.snapshot set).pending = s.pending := by
  simp [State.snapshot]

@[simp] theorem State.takeSnapshots_frame (s : State) :
    (s.takeSnapshots).clock = s.clock ∧ (s.takeSnapshots).lmu = s.lmu ∧ (s.takeSnapshots).oeb = s.oeb
      ∧ (s.takeSnapshots).sqc = s.sqc ∧ (s.takeSnapshots).mdr = s.mdr ∧ (s.takeSnapshots).au = s.au
      ∧ (s.takeSnapshots).bcu = s.bcu ∧ (s.takeSnapshots).rpu.unpooled = s.rpu.unpooled
      ∧ (s.takeSnapshots).oru = s.oru ∧ (s.takeSnapshots).ports = s.ports ∧ (s.takeSnapshots).nvs = s.nvs
      ∧ (s.takeSnapshots).powered = s.powered ∧ (s.takeSnapshots).freeIndex = s.freeIndex
      ∧ (s.takeSnapshots).pending = s.pending := by
  unfold State.takeSnapshots
  split <;> simp

/-! ### Battery Care Unit -/

@[simp] theorem State.judgeVerdict_frame (s : State) :
    (s.judgeVerdict).clock = s.clock ∧ (s.judgeVerdict).lmu = s.lmu ∧ (s.judgeVerdict).oeb = s.oeb
      ∧ (s.judgeVerdict).sqc = s.sqc ∧ (s.judgeVerdict).mdr = s.mdr ∧ (s.judgeVerdict).au = s.au
      ∧ (s.judgeVerdict).rpu.unpooled = s.rpu.unpooled ∧ (s.judgeVerdict).oru = s.oru
      ∧ (s.judgeVerdict).ports.unflagged = s.ports.unflagged ∧ (s.judgeVerdict).nvs = s.nvs
      ∧ (s.judgeVerdict).powered = s.powered ∧ (s.judgeVerdict).freeIndex = s.freeIndex
      ∧ (s.judgeVerdict).pending = s.pending := by
  unfold State.judgeVerdict
  dsimp only
  repeat' split
  all_goals simp

@[simp] theorem State.withAttributes_frame (f : Attributes → Attributes) (s : State) :
    (s.withAttributes f).clock = s.clock ∧ (s.withAttributes f).lmu = s.lmu ∧ (s.withAttributes f).oeb = s.oeb
      ∧ (s.withAttributes f).sqc = s.sqc ∧ (s.withAttributes f).mdr = s.mdr ∧ (s.withAttributes f).au = s.au
      ∧ (s.withAttributes f).rpu = s.rpu ∧ (s.withAttributes f).oru = s.oru ∧ (s.withAttributes f).ports = s.ports
      ∧ (s.withAttributes f).nvs = s.nvs ∧ (s.withAttributes f).powered = s.powered
      ∧ (s.withAttributes f).freeIndex = s.freeIndex ∧ (s.withAttributes f).pending = s.pending := by
  simp [State.withAttributes]

@[simp] theorem State.attributeUpdate_frame (f : Attributes → Attributes) (s : State) :
    (s.attributeUpdate f).clock = s.clock ∧ (s.attributeUpdate f).lmu = s.lmu ∧ (s.attributeUpdate f).oeb = s.oeb
      ∧ (s.attributeUpdate f).sqc = s.sqc ∧ (s.attributeUpdate f).mdr = s.mdr ∧ (s.attributeUpdate f).au = s.au
      ∧ (s.attributeUpdate f).rpu.unpooled = s.rpu.unpooled ∧ (s.attributeUpdate f).oru = s.oru
      ∧ (s.attributeUpdate f).ports.unflagged = s.ports.unflagged ∧ (s.attributeUpdate f).powered = s.powered
      ∧ (s.attributeUpdate f).freeIndex = s.freeIndex ∧ (s.attributeUpdate f).pending = s.pending := by
  simp [State.attributeUpdate]

@[simp] theorem State.closeFloatWindow_frame (s : State) :
    (s.closeFloatWindow).clock = s.clock ∧ (s.closeFloatWindow).lmu = s.lmu ∧ (s.closeFloatWindow).oeb = s.oeb
      ∧ (s.closeFloatWindow).sqc = s.sqc ∧ (s.closeFloatWindow).mdr = s.mdr ∧ (s.closeFloatWindow).au = s.au
      ∧ (s.closeFloatWindow).rpu.unpooled = s.rpu.unpooled ∧ (s.closeFloatWindow).oru = s.oru
      ∧ (s.closeFloatWindow).ports.unflagged = s.ports.unflagged ∧ (s.closeFloatWindow).powered = s.powered
      ∧ (s.closeFloatWindow).freeIndex = s.freeIndex ∧ (s.closeFloatWindow).pending = s.pending := by
  simp [State.closeFloatWindow]

@[simp] theorem State.closeHotHour_frame (s : State) :
    (s.closeHotHour).clock = s.clock ∧ (s.closeHotHour).lmu = s.lmu ∧ (s.closeHotHour).oeb = s.oeb
      ∧ (s.closeHotHour).sqc = s.sqc ∧ (s.closeHotHour).mdr = s.mdr ∧ (s.closeHotHour).au = s.au
      ∧ (s.closeHotHour).rpu.unpooled = s.rpu.unpooled ∧ (s.closeHotHour).oru = s.oru
      ∧ (s.closeHotHour).ports.unflagged = s.ports.unflagged ∧ (s.closeHotHour).powered = s.powered
      ∧ (s.closeHotHour).freeIndex = s.freeIndex ∧ (s.closeHotHour).pending = s.pending := by
  simp [State.closeHotHour]

@[simp] theorem State.releaseHold_frame (port : Option Port) (body : List Byte) (s : State) :
    (s.releaseHold port body).clock = s.clock ∧ (s.releaseHold port body).lmu = s.lmu
      ∧ (s.releaseHold port body).oeb = s.oeb ∧ (s.releaseHold port body).sqc = s.sqc
      ∧ (s.releaseHold port body).mdr = s.mdr ∧ (s.releaseHold port body).au = s.au
      ∧ (s.releaseHold port body).bcu = s.bcu ∧ (s.releaseHold port body).rpu = s.rpu
      ∧ (s.releaseHold port body).oru = s.oru
      ∧ (s.releaseHold port body).ports.unflagged.unanswered = s.ports.unflagged.unanswered
      ∧ (s.releaseHold port body).nvs = s.nvs ∧ (s.releaseHold port body).powered = s.powered
      ∧ (s.releaseHold port body).freeIndex = s.freeIndex ∧ (s.releaseHold port body).pending = s.pending := by
  unfold State.releaseHold
  repeat' split
  all_goals simp [State.answer, Ports.unanswered, Ports.unflagged]

@[simp] theorem State.leaveTest_frame (s : State) :
    (s.leaveTest).clock = s.clock ∧ (s.leaveTest).lmu = s.lmu ∧ (s.leaveTest).oeb = s.oeb
      ∧ (s.leaveTest).sqc = s.sqc ∧ (s.leaveTest).mdr = s.mdr ∧ (s.leaveTest).au = s.au ∧ (s.leaveTest).rpu = s.rpu
      ∧ (s.leaveTest).oru = s.oru ∧ (s.leaveTest).ports = s.ports ∧ (s.leaveTest).nvs = s.nvs
      ∧ (s.leaveTest).powered = s.powered ∧ (s.leaveTest).freeIndex = s.freeIndex ∧ (s.leaveTest).pending = s.pending := by
  simp [State.leaveTest]

@[simp] theorem State.testUpdate_frame (f : Attributes → Attributes) (s : State) :
    (s.testUpdate f).clock = s.clock ∧ (s.testUpdate f).lmu = s.lmu ∧ (s.testUpdate f).oeb = s.oeb
      ∧ (s.testUpdate f).sqc = s.sqc ∧ (s.testUpdate f).mdr = s.mdr ∧ (s.testUpdate f).au = s.au
      ∧ (s.testUpdate f).rpu.unpooled = s.rpu.unpooled ∧ (s.testUpdate f).oru = s.oru
      ∧ (s.testUpdate f).ports.unflagged = s.ports.unflagged ∧ (s.testUpdate f).nvs = s.nvs
      ∧ (s.testUpdate f).powered = s.powered ∧ (s.testUpdate f).freeIndex = s.freeIndex
      ∧ (s.testUpdate f).pending = s.pending := by
  simp [State.testUpdate]

@[simp] theorem State.testUpdates_frame (res : TestResult) (vLoad : Nat) (s : State) :
    (s.testUpdates res vLoad).clock = s.clock ∧ (s.testUpdates res vLoad).lmu = s.lmu
      ∧ (s.testUpdates res vLoad).oeb = s.oeb ∧ (s.testUpdates res vLoad).sqc = s.sqc
      ∧ (s.testUpdates res vLoad).mdr = s.mdr ∧ (s.testUpdates res vLoad).au = s.au
      ∧ (s.testUpdates res vLoad).rpu.unpooled = s.rpu.unpooled ∧ (s.testUpdates res vLoad).oru = s.oru
      ∧ (s.testUpdates res vLoad).ports.unflagged = s.ports.unflagged ∧ (s.testUpdates res vLoad).nvs = s.nvs
      ∧ (s.testUpdates res vLoad).powered = s.powered ∧ (s.testUpdates res vLoad).freeIndex = s.freeIndex
      ∧ (s.testUpdates res vLoad).pending = s.pending := by
  unfold State.testUpdates
  dsimp only
  repeat' split
  all_goals simp

@[simp] theorem State.abortTest_frame (cause : TestCause) (s : State) :
    (s.abortTest cause).clock = s.clock ∧ (s.abortTest cause).lmu = s.lmu ∧ (s.abortTest cause).oeb = s.oeb
      ∧ (s.abortTest cause).sqc = s.sqc ∧ (s.abortTest cause).mdr = s.mdr ∧ (s.abortTest cause).au = s.au
      ∧ (s.abortTest cause).rpu.unpooled = s.rpu.unpooled ∧ (s.abortTest cause).oru = s.oru
      ∧ (s.abortTest cause).ports.unflagged.unanswered = s.ports.unflagged.unanswered
      ∧ (s.abortTest cause).powered = s.powered ∧ (s.abortTest cause).freeIndex = s.freeIndex
      ∧ (s.abortTest cause).pending = s.pending := by
  unfold State.abortTest
  repeat' split
  all_goals simp [State.announce]

@[simp] theorem State.suspendTest_frame (s : State) :
    (s.suspendTest).clock = s.clock ∧ (s.suspendTest).lmu = s.lmu ∧ (s.suspendTest).oeb = s.oeb
      ∧ (s.suspendTest).sqc = s.sqc ∧ (s.suspendTest).mdr = s.mdr ∧ (s.suspendTest).au = s.au
      ∧ (s.suspendTest).rpu.unpooled = s.rpu.unpooled ∧ (s.suspendTest).oru = s.oru
      ∧ (s.suspendTest).ports.unflagged.unanswered = s.ports.unflagged.unanswered
      ∧ (s.suspendTest).powered = s.powered ∧ (s.suspendTest).freeIndex = s.freeIndex
      ∧ (s.suspendTest).pending = s.pending := by
  unfold State.suspendTest
  dsimp only
  repeat' split
  all_goals simp

@[simp] theorem State.resumeTest_frame (s : State) :
    (s.resumeTest).clock = s.clock ∧ (s.resumeTest).lmu = s.lmu ∧ (s.resumeTest).oeb = s.oeb
      ∧ (s.resumeTest).sqc = s.sqc ∧ (s.resumeTest).mdr = s.mdr ∧ (s.resumeTest).au = s.au
      ∧ (s.resumeTest).rpu = s.rpu ∧ (s.resumeTest).oru = s.oru ∧ (s.resumeTest).ports = s.ports
      ∧ (s.resumeTest).nvs = s.nvs ∧ (s.resumeTest).powered = s.powered ∧ (s.resumeTest).freeIndex = s.freeIndex
      ∧ (s.resumeTest).pending = s.pending := by
  unfold State.resumeTest
  repeat' split
  all_goals simp

@[simp] theorem State.startTest_frame (mode : TestMode) (port : Option Port) (s : State) :
    (s.startTest mode port).clock = s.clock ∧ (s.startTest mode port).lmu = s.lmu
      ∧ (s.startTest mode port).oeb = s.oeb ∧ (s.startTest mode port).sqc = s.sqc
      ∧ (s.startTest mode port).mdr = s.mdr ∧ (s.startTest mode port).au = s.au ∧ (s.startTest mode port).rpu = s.rpu
      ∧ (s.startTest mode port).oru = s.oru ∧ (s.startTest mode port).ports = s.ports
      ∧ (s.startTest mode port).powered = s.powered ∧ (s.startTest mode port).freeIndex = s.freeIndex
      ∧ (s.startTest mode port).pending = s.pending := by
  simp [State.startTest]

@[simp] theorem State.endRest_frame (v : Nat) (s : State) :
    (s.endRest v).clock = s.clock ∧ (s.endRest v).lmu = s.lmu ∧ (s.endRest v).oeb = s.oeb
      ∧ (s.endRest v).sqc = s.sqc ∧ (s.endRest v).mdr = s.mdr ∧ (s.endRest v).au = s.au
      ∧ (s.endRest v).rpu.unpooled = s.rpu.unpooled ∧ (s.endRest v).oru = s.oru
      ∧ (s.endRest v).ports.unflagged.unanswered = s.ports.unflagged.unanswered ∧ (s.endRest v).powered = s.powered
      ∧ (s.endRest v).freeIndex = s.freeIndex ∧ (s.endRest v).pending = s.pending := by
  unfold State.endRest
  dsimp only
  repeat' split
  all_goals simp

@[simp] theorem State.endLoad_frame (v : Nat) (i : Int) (s : State) :
    (s.endLoad v i).clock = s.clock ∧ (s.endLoad v i).lmu = s.lmu ∧ (s.endLoad v i).oeb = s.oeb
      ∧ (s.endLoad v i).sqc = s.sqc ∧ (s.endLoad v i).mdr = s.mdr ∧ (s.endLoad v i).au = s.au
      ∧ (s.endLoad v i).rpu.unpooled = s.rpu.unpooled ∧ (s.endLoad v i).oru = s.oru
      ∧ (s.endLoad v i).ports.unflagged.unanswered = s.ports.unflagged.unanswered
      ∧ (s.endLoad v i).powered = s.powered ∧ (s.endLoad v i).freeIndex = s.freeIndex
      ∧ (s.endLoad v i).pending = s.pending := by
  unfold State.endLoad
  dsimp only
  repeat' split
  all_goals simp [State.announce]

@[simp] theorem State.operationStarted_frame (s : State) :
    (s.operationStarted).clock = s.clock ∧ (s.operationStarted).lmu = s.lmu ∧ (s.operationStarted).oeb = s.oeb
      ∧ (s.operationStarted).sqc = s.sqc ∧ (s.operationStarted).mdr = s.mdr ∧ (s.operationStarted).au = s.au
      ∧ (s.operationStarted).rpu.unpooled = s.rpu.unpooled ∧ (s.operationStarted).oru = s.oru
      ∧ (s.operationStarted).ports.unflagged.unanswered = s.ports.unflagged.unanswered
      ∧ (s.operationStarted).powered = s.powered ∧ (s.operationStarted).freeIndex = s.freeIndex
      ∧ (s.operationStarted).pending = s.pending := by
  simp [State.operationStarted]

@[simp] theorem State.operationEnded_frame (s : State) :
    (s.operationEnded).clock = s.clock ∧ (s.operationEnded).lmu = s.lmu ∧ (s.operationEnded).oeb = s.oeb
      ∧ (s.operationEnded).sqc = s.sqc ∧ (s.operationEnded).mdr = s.mdr ∧ (s.operationEnded).au = s.au
      ∧ (s.operationEnded).rpu = s.rpu ∧ (s.operationEnded).oru = s.oru ∧ (s.operationEnded).ports = s.ports
      ∧ (s.operationEnded).nvs = s.nvs ∧ (s.operationEnded).powered = s.powered
      ∧ (s.operationEnded).freeIndex = s.freeIndex ∧ (s.operationEnded).pending = s.pending := by
  simp [State.operationEnded]

@[simp] theorem State.rechargeStarted_frame (s : State) :
    (s.rechargeStarted).clock = s.clock ∧ (s.rechargeStarted).lmu = s.lmu ∧ (s.rechargeStarted).oeb = s.oeb
      ∧ (s.rechargeStarted).sqc = s.sqc ∧ (s.rechargeStarted).mdr = s.mdr ∧ (s.rechargeStarted).au = s.au
      ∧ (s.rechargeStarted).rpu.unpooled = s.rpu.unpooled ∧ (s.rechargeStarted).oru = s.oru
      ∧ (s.rechargeStarted).ports.unflagged.unanswered = s.ports.unflagged.unanswered
      ∧ (s.rechargeStarted).powered = s.powered ∧ (s.rechargeStarted).freeIndex = s.freeIndex
      ∧ (s.rechargeStarted).pending = s.pending := by
  simp [State.rechargeStarted]

@[simp] theorem State.rechargeStopped_frame (d : Option Nat) (s : State) :
    (s.rechargeStopped d).clock = s.clock ∧ (s.rechargeStopped d).lmu = s.lmu ∧ (s.rechargeStopped d).oeb = s.oeb
      ∧ (s.rechargeStopped d).sqc = s.sqc ∧ (s.rechargeStopped d).mdr = s.mdr ∧ (s.rechargeStopped d).au = s.au
      ∧ (s.rechargeStopped d).rpu.unpooled = s.rpu.unpooled ∧ (s.rechargeStopped d).oru = s.oru
      ∧ (s.rechargeStopped d).ports.unflagged = s.ports.unflagged ∧ (s.rechargeStopped d).powered = s.powered
      ∧ (s.rechargeStopped d).freeIndex = s.freeIndex ∧ (s.rechargeStopped d).pending = s.pending := by
  unfold State.rechargeStopped
  dsimp only
  repeat' split
  all_goals simp

@[simp] theorem State.attempt_frame (retry : Bool) (s : State) :
    (s.attempt retry).clock = s.clock ∧ (s.attempt retry).lmu = s.lmu ∧ (s.attempt retry).oeb = s.oeb
      ∧ (s.attempt retry).sqc = s.sqc ∧ (s.attempt retry).mdr = s.mdr ∧ (s.attempt retry).au = s.au
      ∧ (s.attempt retry).rpu = s.rpu ∧ (s.attempt retry).oru = s.oru ∧ (s.attempt retry).ports = s.ports
      ∧ (s.attempt retry).powered = s.powered ∧ (s.attempt retry).freeIndex = s.freeIndex
      ∧ (s.attempt retry).pending = s.pending := by
  unfold State.attempt
  repeat' split
  all_goals simp

@[simp] theorem State.dayPassed_frame (s : State) :
    (s.dayPassed).clock = s.clock ∧ (s.dayPassed).lmu = s.lmu ∧ (s.dayPassed).oeb = s.oeb
      ∧ (s.dayPassed).sqc = s.sqc ∧ (s.dayPassed).mdr = s.mdr ∧ (s.dayPassed).au = s.au
      ∧ (s.dayPassed).rpu.unpooled = s.rpu.unpooled ∧ (s.dayPassed).oru = s.oru
      ∧ (s.dayPassed).ports.unflagged = s.ports.unflagged ∧ (s.dayPassed).powered = s.powered
      ∧ (s.dayPassed).freeIndex = s.freeIndex ∧ (s.dayPassed).pending = s.pending := by
  unfold State.dayPassed
  dsimp only
  repeat' split
  all_goals simp

@[simp] theorem State.stopRecharge_frame (s : State) :
    (s.stopRecharge).clock = s.clock ∧ (s.stopRecharge).lmu = s.lmu ∧ (s.stopRecharge).oeb = s.oeb
      ∧ (s.stopRecharge).sqc = s.sqc ∧ (s.stopRecharge).au = s.au ∧ (s.stopRecharge).rpu.unpooled = s.rpu.unpooled
      ∧ (s.stopRecharge).oru = s.oru ∧ (s.stopRecharge).ports.unflagged = s.ports.unflagged
      ∧ (s.stopRecharge).powered = s.powered ∧ (s.stopRecharge).freeIndex = s.freeIndex
      ∧ (s.stopRecharge).pending = s.pending := by
  simp [State.stopRecharge]

@[simp] theorem State.writeMark_frame (s : State) :
    (s.writeMark).clock = s.clock ∧ (s.writeMark).lmu = s.lmu ∧ (s.writeMark).oeb = s.oeb
      ∧ (s.writeMark).sqc = s.sqc ∧ (s.writeMark).mdr = s.mdr ∧ (s.writeMark).au = s.au ∧ (s.writeMark).rpu = s.rpu
      ∧ (s.writeMark).oru = s.oru ∧ (s.writeMark).ports = s.ports ∧ (s.writeMark).powered = s.powered
      ∧ (s.writeMark).freeIndex = s.freeIndex ∧ (s.writeMark).pending = s.pending := by
  simp [State.writeMark]

@[simp] theorem State.drainStore_frame (s : State) :
    (s.drainStore).clock = s.clock ∧ (s.drainStore).lmu = s.lmu ∧ (s.drainStore).oeb = s.oeb
      ∧ (s.drainStore).sqc = s.sqc ∧ (s.drainStore).mdr = s.mdr ∧ (s.drainStore).au = s.au
      ∧ (s.drainStore).rpu = s.rpu ∧ (s.drainStore).oru = s.oru ∧ (s.drainStore).ports = s.ports
      ∧ (s.drainStore).powered = s.powered ∧ (s.drainStore).freeIndex = s.freeIndex
      ∧ (s.drainStore).pending = s.pending := by
  unfold State.drainStore
  repeat' split
  all_goals simp

@[simp] theorem State.radioDone_frame (s : State) :
    (s.radioDone).clock = s.clock ∧ (s.radioDone).lmu = s.lmu ∧ (s.radioDone).oeb = s.oeb
      ∧ (s.radioDone).sqc = s.sqc ∧ (s.radioDone).mdr = s.mdr ∧ (s.radioDone).au = s.au ∧ (s.radioDone).rpu = s.rpu
      ∧ (s.radioDone).oru = s.oru ∧ (s.radioDone).ports = s.ports ∧ (s.radioDone).powered = s.powered
      ∧ (s.radioDone).freeIndex = s.freeIndex ∧ (s.radioDone).pending = s.pending := by
  unfold State.radioDone
  repeat' split
  all_goals simp

@[simp] theorem State.beginShutdown_frame (s : State) :
    (s.beginShutdown).clock = s.clock ∧ (s.beginShutdown).lmu = s.lmu ∧ (s.beginShutdown).oeb = s.oeb
      ∧ (s.beginShutdown).sqc = s.sqc ∧ (s.beginShutdown).au = s.au
      ∧ (s.beginShutdown).rpu.unpooled.channel = s.rpu.unpooled.channel ∧ (s.beginShutdown).oru = s.oru
      ∧ (s.beginShutdown).ports.unflagged = s.ports.unflagged ∧ (s.beginShutdown).powered = s.powered
      ∧ (s.beginShutdown).freeIndex = s.freeIndex ∧ (s.beginShutdown).pending = s.pending := by
  simp [State.beginShutdown]

@[simp] theorem State.tierToTest_frame (new : Tier) (s : State) :
    (s.tierToTest new).clock = s.clock ∧ (s.tierToTest new).lmu = s.lmu ∧ (s.tierToTest new).oeb = s.oeb
      ∧ (s.tierToTest new).sqc = s.sqc ∧ (s.tierToTest new).mdr = s.mdr ∧ (s.tierToTest new).au = s.au
      ∧ (s.tierToTest new).rpu.unpooled = s.rpu.unpooled ∧ (s.tierToTest new).oru = s.oru
      ∧ (s.tierToTest new).ports.unflagged.unanswered = s.ports.unflagged.unanswered
      ∧ (s.tierToTest new).powered = s.powered ∧ (s.tierToTest new).freeIndex = s.freeIndex
      ∧ (s.tierToTest new).pending = s.pending := by
  unfold State.tierToTest
  repeat' split
  all_goals simp

@[simp] theorem State.setTier_frame (new : Tier) (s : State) :
    (s.setTier new).clock = s.clock ∧ (s.setTier new).lmu = s.lmu ∧ (s.setTier new).oeb = s.oeb
      ∧ (s.setTier new).sqc = s.sqc ∧ (s.setTier new).au = s.au
      ∧ (s.setTier new).rpu.unpooled.channel = s.rpu.unpooled.channel ∧ (s.setTier new).oru = s.oru
      ∧ (s.setTier new).ports.unflagged.unanswered = s.ports.unflagged.unanswered
      ∧ (s.setTier new).powered = s.powered ∧ (s.setTier new).freeIndex = s.freeIndex
      ∧ (s.setTier new).pending = s.pending := by
  unfold State.setTier
  dsimp only
  repeat' split
  all_goals simp

@[simp] theorem State.tierStep_frame (s : State) :
    (s.tierStep).clock = s.clock ∧ (s.tierStep).lmu = s.lmu ∧ (s.tierStep).oeb = s.oeb ∧ (s.tierStep).sqc = s.sqc
      ∧ (s.tierStep).au = s.au ∧ (s.tierStep).rpu.unpooled.channel = s.rpu.unpooled.channel ∧ (s.tierStep).oru = s.oru
      ∧ (s.tierStep).ports.unflagged.unanswered = s.ports.unflagged.unanswered ∧ (s.tierStep).powered = s.powered
      ∧ (s.tierStep).freeIndex = s.freeIndex ∧ (s.tierStep).pending = s.pending := by
  simp [State.tierStep]

@[simp] theorem State.floatStep_frame (s : State) :
    (s.floatStep).clock = s.clock ∧ (s.floatStep).lmu = s.lmu ∧ (s.floatStep).oeb = s.oeb
      ∧ (s.floatStep).sqc = s.sqc ∧ (s.floatStep).mdr = s.mdr ∧ (s.floatStep).au = s.au
      ∧ (s.floatStep).rpu.unpooled = s.rpu.unpooled ∧ (s.floatStep).oru = s.oru
      ∧ (s.floatStep).ports.unflagged = s.ports.unflagged ∧ (s.floatStep).powered = s.powered
      ∧ (s.floatStep).freeIndex = s.freeIndex ∧ (s.floatStep).pending = s.pending := by
  unfold State.floatStep
  dsimp only
  repeat' split
  all_goals simp

@[simp] theorem State.hotStep_frame (s : State) :
    (s.hotStep).clock = s.clock ∧ (s.hotStep).lmu = s.lmu ∧ (s.hotStep).oeb = s.oeb ∧ (s.hotStep).sqc = s.sqc
      ∧ (s.hotStep).mdr = s.mdr ∧ (s.hotStep).au = s.au ∧ (s.hotStep).rpu.unpooled = s.rpu.unpooled
      ∧ (s.hotStep).oru = s.oru ∧ (s.hotStep).ports.unflagged = s.ports.unflagged ∧ (s.hotStep).powered = s.powered
      ∧ (s.hotStep).freeIndex = s.freeIndex ∧ (s.hotStep).pending = s.pending := by
  unfold State.hotStep
  dsimp only
  repeat' split
  all_goals simp

@[simp] theorem State.measureBattery_frame (v : Nat) (i t : Int) (s : State) :
    (s.measureBattery v i t).clock = s.clock ∧ (s.measureBattery v i t).lmu = s.lmu
      ∧ (s.measureBattery v i t).oeb = s.oeb ∧ (s.measureBattery v i t).sqc = s.sqc
      ∧ (s.measureBattery v i t).au = s.au ∧ (s.measureBattery v i t).rpu.unpooled.channel = s.rpu.unpooled.channel
      ∧ (s.measureBattery v i t).oru = s.oru
      ∧ (s.measureBattery v i t).ports.unflagged.unanswered = s.ports.unflagged.unanswered
      ∧ (s.measureBattery v i t).powered = s.powered ∧ (s.measureBattery v i t).freeIndex = s.freeIndex
      ∧ (s.measureBattery v i t).pending = s.pending := by
  unfold State.measureBattery
  dsimp only
  repeat' split
  all_goals simp

@[simp] theorem State.announceAcLost_frame (s : State) :
    (s.announceAcLost).clock = s.clock ∧ (s.announceAcLost).lmu = s.lmu ∧ (s.announceAcLost).oeb = s.oeb
      ∧ (s.announceAcLost).sqc = s.sqc ∧ (s.announceAcLost).mdr = s.mdr ∧ (s.announceAcLost).au = s.au
      ∧ (s.announceAcLost).bcu = s.bcu ∧ (s.announceAcLost).rpu.unpooled = s.rpu.unpooled
      ∧ (s.announceAcLost).oru = s.oru ∧ (s.announceAcLost).ports.unflagged = s.ports.unflagged
      ∧ (s.announceAcLost).nvs = s.nvs ∧ (s.announceAcLost).powered = s.powered
      ∧ (s.announceAcLost).freeIndex = s.freeIndex ∧ (s.announceAcLost).pending = s.pending := by
  simp [State.announceAcLost]

@[simp] theorem State.acReading_frame (present : Bool) (s : State) :
    (s.acReading present).clock = s.clock ∧ (s.acReading present).lmu = s.lmu ∧ (s.acReading present).oeb = s.oeb
      ∧ (s.acReading present).sqc = s.sqc ∧ (s.acReading present).mdr = s.mdr ∧ (s.acReading present).au = s.au
      ∧ (s.acReading present).rpu.unpooled = s.rpu.unpooled ∧ (s.acReading present).oru = s.oru
      ∧ (s.acReading present).ports.unflagged.unanswered = s.ports.unflagged.unanswered
      ∧ (s.acReading present).powered = s.powered ∧ (s.acReading present).freeIndex = s.freeIndex
      ∧ (s.acReading present).pending = s.pending := by
  unfold State.acReading
  dsimp only
  repeat' split
  all_goals simp

/-! ### Authority Unit and Overcurrent Element Bank -/

@[simp] theorem State.changeMode_frame (mode : ControlMode) (s : State) :
    (s.changeMode mode).clock = s.clock ∧ (s.changeMode mode).lmu = s.lmu ∧ (s.changeMode mode).oeb = s.oeb
      ∧ (s.changeMode mode).sqc = s.sqc ∧ (s.changeMode mode).mdr = s.mdr ∧ (s.changeMode mode).bcu = s.bcu
      ∧ (s.changeMode mode).rpu.unpooled = s.rpu.unpooled ∧ (s.changeMode mode).oru = s.oru
      ∧ (s.changeMode mode).ports.unflagged = s.ports.unflagged ∧ (s.changeMode mode).nvs = s.nvs
      ∧ (s.changeMode mode).powered = s.powered ∧ (s.changeMode mode).freeIndex = s.freeIndex
      ∧ (s.changeMode mode).pending = s.pending := by
  simp [State.changeMode]

@[simp] theorem State.announceTags_frame (s : State) :
    (s.announceTags).clock = s.clock ∧ (s.announceTags).lmu = s.lmu ∧ (s.announceTags).oeb = s.oeb
      ∧ (s.announceTags).sqc = s.sqc ∧ (s.announceTags).mdr = s.mdr ∧ (s.announceTags).au = s.au
      ∧ (s.announceTags).bcu = s.bcu ∧ (s.announceTags).rpu.unpooled = s.rpu.unpooled ∧ (s.announceTags).oru = s.oru
      ∧ (s.announceTags).ports.unflagged = s.ports.unflagged ∧ (s.announceTags).nvs = s.nvs
      ∧ (s.announceTags).powered = s.powered ∧ (s.announceTags).freeIndex = s.freeIndex
      ∧ (s.announceTags).pending = s.pending := by
  simp [State.announceTags]

@[simp] theorem State.tagsToOeb_frame (s : State) :
    (s.tagsToOeb).clock = s.clock ∧ (s.tagsToOeb).lmu = s.lmu ∧ (s.tagsToOeb).mdr = s.mdr ∧ (s.tagsToOeb).au = s.au
      ∧ (s.tagsToOeb).bcu = s.bcu ∧ (s.tagsToOeb).rpu = s.rpu ∧ (s.tagsToOeb).oru = s.oru
      ∧ (s.tagsToOeb).ports = s.ports ∧ (s.tagsToOeb).nvs = s.nvs ∧ (s.tagsToOeb).powered = s.powered
      ∧ (s.tagsToOeb).freeIndex = s.freeIndex ∧ (s.tagsToOeb).pending = s.pending := by
  unfold State.tagsToOeb
  dsimp only
  repeat' split
  all_goals simp

/-! ### Sequence Controller -/

@[simp] theorem State.activate_frame_rest (staged : Settings) (s : State) :
    (s.activate staged).clock = s.clock ∧ (s.activate staged).lmu = s.lmu ∧ (s.activate staged).oeb = s.oeb
      ∧ (s.activate staged).mdr = s.mdr ∧ (s.activate staged).au = s.au ∧ (s.activate staged).bcu = s.bcu
      ∧ (s.activate staged).rpu.unpooled = s.rpu.unpooled ∧ (s.activate staged).oru = s.oru
      ∧ (s.activate staged).ports.unflagged = s.ports.unflagged ∧ (s.activate staged).powered = s.powered
      ∧ (s.activate staged).freeIndex = s.freeIndex ∧ (s.activate staged).pending = s.pending := by
  simp [State.activate]

@[simp] theorem State.activationTest_frame (s : State) :
    (s.activationTest).clock = s.clock ∧ (s.activationTest).lmu = s.lmu ∧ (s.activationTest).oeb = s.oeb
      ∧ (s.activationTest).mdr = s.mdr ∧ (s.activationTest).au = s.au ∧ (s.activationTest).bcu = s.bcu
      ∧ (s.activationTest).rpu.unpooled = s.rpu.unpooled ∧ (s.activationTest).oru = s.oru
      ∧ (s.activationTest).ports.unflagged = s.ports.unflagged ∧ (s.activationTest).powered = s.powered
      ∧ (s.activationTest).freeIndex = s.freeIndex ∧ (s.activationTest).pending = s.pending := by
  unfold State.activationTest
  repeat' split
  all_goals simp

@[simp] theorem State.enterLockout_frame (cause : LockoutCause) (origin : Origin) (s : State) :
    (s.enterLockout cause origin).clock = s.clock ∧ (s.enterLockout cause origin).lmu = s.lmu
      ∧ (s.enterLockout cause origin).oeb = s.oeb ∧ (s.enterLockout cause origin).mdr = s.mdr
      ∧ (s.enterLockout cause origin).au = s.au ∧ (s.enterLockout cause origin).bcu = s.bcu
      ∧ (s.enterLockout cause origin).rpu.unpooled = s.rpu.unpooled
      ∧ (s.enterLockout cause origin).ports.unflagged = s.ports.unflagged
      ∧ (s.enterLockout cause origin).powered = s.powered ∧ (s.enterLockout cause origin).freeIndex = s.freeIndex
      ∧ (s.enterLockout cause origin).pending = s.pending := by
  unfold State.enterLockout
  dsimp only
  repeat' split
  all_goals simp

@[simp] theorem State.tripStarted_frame (origins : List Origin) (s : State) :
    (s.tripStarted origins).clock = s.clock ∧ (s.tripStarted origins).lmu = s.lmu
      ∧ (s.tripStarted origins).oeb = s.oeb ∧ (s.tripStarted origins).mdr = s.mdr ∧ (s.tripStarted origins).au = s.au
      ∧ (s.tripStarted origins).bcu = s.bcu ∧ (s.tripStarted origins).rpu.unpooled = s.rpu.unpooled
      ∧ (s.tripStarted origins).ports.unflagged = s.ports.unflagged ∧ (s.tripStarted origins).powered = s.powered
      ∧ (s.tripStarted origins).freeIndex = s.freeIndex ∧ (s.tripStarted origins).pending = s.pending := by
  unfold State.tripStarted
  repeat' split
  all_goals simp

@[simp] theorem State.tripCompleted_frame (s : State) :
    (s.tripCompleted).clock = s.clock ∧ (s.tripCompleted).lmu = s.lmu ∧ (s.tripCompleted).oeb = s.oeb
      ∧ (s.tripCompleted).mdr = s.mdr ∧ (s.tripCompleted).au = s.au ∧ (s.tripCompleted).bcu = s.bcu
      ∧ (s.tripCompleted).rpu.unpooled = s.rpu.unpooled ∧ (s.tripCompleted).ports.unflagged = s.ports.unflagged
      ∧ (s.tripCompleted).powered = s.powered ∧ (s.tripCompleted).freeIndex = s.freeIndex
      ∧ (s.tripCompleted).pending = s.pending := by
  unfold State.tripCompleted
  repeat' split
  all_goals simp

@[simp] theorem State.tripEnded_frame (o : OpOutcome) (s : State) :
    (s.tripEnded o).clock = s.clock ∧ (s.tripEnded o).lmu = s.lmu ∧ (s.tripEnded o).oeb = s.oeb
      ∧ (s.tripEnded o).mdr = s.mdr ∧ (s.tripEnded o).au = s.au ∧ (s.tripEnded o).bcu = s.bcu
      ∧ (s.tripEnded o).rpu.unpooled = s.rpu.unpooled ∧ (s.tripEnded o).ports.unflagged = s.ports.unflagged
      ∧ (s.tripEnded o).powered = s.powered ∧ (s.tripEnded o).freeIndex = s.freeIndex
      ∧ (s.tripEnded o).pending = s.pending := by
  unfold State.tripEnded
  repeat' split
  all_goals simp

@[simp] theorem State.closeStarted_frame (o : Origin) (s : State) :
    (s.closeStarted o).clock = s.clock ∧ (s.closeStarted o).lmu = s.lmu ∧ (s.closeStarted o).oeb = s.oeb
      ∧ (s.closeStarted o).mdr = s.mdr ∧ (s.closeStarted o).au = s.au ∧ (s.closeStarted o).bcu = s.bcu
      ∧ (s.closeStarted o).rpu = s.rpu ∧ (s.closeStarted o).oru = s.oru ∧ (s.closeStarted o).ports = s.ports
      ∧ (s.closeStarted o).nvs = s.nvs ∧ (s.closeStarted o).powered = s.powered
      ∧ (s.closeStarted o).freeIndex = s.freeIndex ∧ (s.closeStarted o).pending = s.pending := by
  unfold State.closeStarted
  repeat' split
  all_goals simp

@[simp] theorem State.startReclaim_frame (s : State) :
    (s.startReclaim).clock = s.clock ∧ (s.startReclaim).lmu = s.lmu ∧ (s.startReclaim).oeb = s.oeb
      ∧ (s.startReclaim).mdr = s.mdr ∧ (s.startReclaim).au = s.au ∧ (s.startReclaim).bcu = s.bcu
      ∧ (s.startReclaim).rpu = s.rpu ∧ (s.startReclaim).oru = s.oru ∧ (s.startReclaim).ports = s.ports
      ∧ (s.startReclaim).nvs = s.nvs ∧ (s.startReclaim).powered = s.powered ∧ (s.startReclaim).freeIndex = s.freeIndex
      ∧ (s.startReclaim).pending = s.pending := by
  simp [State.startReclaim]

@[simp] theorem State.enterReady_frame (s : State) :
    (s.enterReady).clock = s.clock ∧ (s.enterReady).lmu = s.lmu ∧ (s.enterReady).oeb = s.oeb
      ∧ (s.enterReady).mdr = s.mdr ∧ (s.enterReady).au = s.au ∧ (s.enterReady).bcu = s.bcu
      ∧ (s.enterReady).rpu.unpooled = s.rpu.unpooled ∧ (s.enterReady).oru = s.oru
      ∧ (s.enterReady).ports.unflagged = s.ports.unflagged ∧ (s.enterReady).powered = s.powered
      ∧ (s.enterReady).freeIndex = s.freeIndex ∧ (s.enterReady).pending = s.pending := by
  simp [State.enterReady]

@[simp] theorem State.closeCompleted_frame (s : State) :
    (s.closeCompleted).clock = s.clock ∧ (s.closeCompleted).lmu = s.lmu ∧ (s.closeCompleted).oeb = s.oeb
      ∧ (s.closeCompleted).mdr = s.mdr ∧ (s.closeCompleted).au = s.au ∧ (s.closeCompleted).bcu = s.bcu
      ∧ (s.closeCompleted).rpu.unpooled = s.rpu.unpooled ∧ (s.closeCompleted).oru = s.oru
      ∧ (s.closeCompleted).ports.unflagged = s.ports.unflagged ∧ (s.closeCompleted).powered = s.powered
      ∧ (s.closeCompleted).freeIndex = s.freeIndex ∧ (s.closeCompleted).pending = s.pending := by
  unfold State.closeCompleted
  repeat' split
  all_goals simp

@[simp] theorem State.closeEnded_frame (o : OpOutcome) (s : State) :
    (s.closeEnded o).clock = s.clock ∧ (s.closeEnded o).lmu = s.lmu ∧ (s.closeEnded o).oeb = s.oeb
      ∧ (s.closeEnded o).mdr = s.mdr ∧ (s.closeEnded o).au = s.au ∧ (s.closeEnded o).bcu = s.bcu
      ∧ (s.closeEnded o).rpu.unpooled = s.rpu.unpooled ∧ (s.closeEnded o).ports.unflagged = s.ports.unflagged
      ∧ (s.closeEnded o).powered = s.powered ∧ (s.closeEnded o).freeIndex = s.freeIndex
      ∧ (s.closeEnded o).pending = s.pending := by
  unfold State.closeEnded
  repeat' split
  all_goals simp

@[simp] theorem State.pauseReclaim_frame (s : State) :
    (s.pauseReclaim).clock = s.clock ∧ (s.pauseReclaim).lmu = s.lmu ∧ (s.pauseReclaim).oeb = s.oeb
      ∧ (s.pauseReclaim).mdr = s.mdr ∧ (s.pauseReclaim).au = s.au ∧ (s.pauseReclaim).bcu = s.bcu
      ∧ (s.pauseReclaim).rpu = s.rpu ∧ (s.pauseReclaim).oru = s.oru ∧ (s.pauseReclaim).ports = s.ports
      ∧ (s.pauseReclaim).nvs = s.nvs ∧ (s.pauseReclaim).powered = s.powered ∧ (s.pauseReclaim).freeIndex = s.freeIndex
      ∧ (s.pauseReclaim).pending = s.pending := by
  unfold State.pauseReclaim
  repeat' split
  all_goals simp

@[simp] theorem State.externallyOpened_frame (s : State) :
    (s.externallyOpened).clock = s.clock ∧ (s.externallyOpened).lmu = s.lmu ∧ (s.externallyOpened).oeb = s.oeb
      ∧ (s.externallyOpened).mdr = s.mdr ∧ (s.externallyOpened).au = s.au ∧ (s.externallyOpened).bcu = s.bcu
      ∧ (s.externallyOpened).rpu = s.rpu ∧ (s.externallyOpened).oru = s.oru ∧ (s.externallyOpened).ports = s.ports
      ∧ (s.externallyOpened).nvs = s.nvs ∧ (s.externallyOpened).powered = s.powered
      ∧ (s.externallyOpened).freeIndex = s.freeIndex ∧ (s.externallyOpened).pending = s.pending := by
  unfold State.externallyOpened
  repeat' split
  all_goals simp

@[simp] theorem State.latchNoticed_frame (s : State) :
    (s.latchNoticed).clock = s.clock ∧ (s.latchNoticed).lmu = s.lmu ∧ (s.latchNoticed).oeb = s.oeb
      ∧ (s.latchNoticed).mdr = s.mdr ∧ (s.latchNoticed).au = s.au ∧ (s.latchNoticed).bcu = s.bcu
      ∧ (s.latchNoticed).rpu.unpooled = s.rpu.unpooled ∧ (s.latchNoticed).ports.unflagged = s.ports.unflagged
      ∧ (s.latchNoticed).powered = s.powered ∧ (s.latchNoticed).freeIndex = s.freeIndex
      ∧ (s.latchNoticed).pending = s.pending := by
  unfold State.latchNoticed
  repeat' split
  all_goals simp

@[simp] theorem State.coordinate_frame (n : List Notice) (s : State) :
    (s.coordinate n).clock = s.clock ∧ (s.coordinate n).lmu = s.lmu ∧ (s.coordinate n).oeb = s.oeb
      ∧ (s.coordinate n).mdr = s.mdr ∧ (s.coordinate n).au = s.au ∧ (s.coordinate n).bcu = s.bcu
      ∧ (s.coordinate n).rpu.unpooled = s.rpu.unpooled ∧ (s.coordinate n).ports = s.ports
      ∧ (s.coordinate n).powered = s.powered ∧ (s.coordinate n).freeIndex = s.freeIndex
      ∧ (s.coordinate n).pending = s.pending := by
  unfold State.coordinate
  dsimp only
  repeat' split
  all_goals simp

@[simp] theorem State.tagToSequence_frame (s : State) :
    (s.tagToSequence).clock = s.clock ∧ (s.tagToSequence).lmu = s.lmu ∧ (s.tagToSequence).oeb = s.oeb
      ∧ (s.tagToSequence).mdr = s.mdr ∧ (s.tagToSequence).au = s.au ∧ (s.tagToSequence).bcu = s.bcu
      ∧ (s.tagToSequence).rpu.unpooled = s.rpu.unpooled ∧ (s.tagToSequence).ports.unflagged = s.ports.unflagged
      ∧ (s.tagToSequence).powered = s.powered ∧ (s.tagToSequence).freeIndex = s.freeIndex
      ∧ (s.tagToSequence).pending = s.pending := by
  unfold State.tagToSequence
  repeat' split
  all_goals simp

@[simp] theorem State.takeReport_frame (p : Poles) (s : State) :
    (s.takeReport p).clock = s.clock ∧ (s.takeReport p).lmu = s.lmu ∧ (s.takeReport p).oeb = s.oeb
      ∧ (s.takeReport p).mdr = s.mdr ∧ (s.takeReport p).au = s.au ∧ (s.takeReport p).bcu = s.bcu
      ∧ (s.takeReport p).rpu.unpooled = s.rpu.unpooled ∧ (s.takeReport p).ports.unflagged = s.ports.unflagged
      ∧ (s.takeReport p).powered = s.powered ∧ (s.takeReport p).freeIndex = s.freeIndex
      ∧ (s.takeReport p).pending = s.pending := by
  unfold State.takeReport
  dsimp only
  repeat' split
  all_goals simp

/-! ### Mechanism Driver -/

@[simp] theorem State.setLatch_frame (s : State) :
    (s.setLatch).clock = s.clock ∧ (s.setLatch).lmu = s.lmu ∧ (s.setLatch).oeb = s.oeb ∧ (s.setLatch).sqc = s.sqc
      ∧ (s.setLatch).au = s.au ∧ (s.setLatch).bcu = s.bcu ∧ (s.setLatch).rpu = s.rpu ∧ (s.setLatch).oru = s.oru
      ∧ (s.setLatch).ports.unflagged = s.ports.unflagged ∧ (s.setLatch).powered = s.powered
      ∧ (s.setLatch).freeIndex = s.freeIndex ∧ (s.setLatch).pending = s.pending := by
  unfold State.setLatch
  repeat' split
  all_goals simp

@[simp] theorem State.mechanismAlarm_frame (c : MechCause) (n : Option Nat) (s : State) :
    (s.mechanismAlarm c n).clock = s.clock ∧ (s.mechanismAlarm c n).lmu = s.lmu ∧ (s.mechanismAlarm c n).oeb = s.oeb
      ∧ (s.mechanismAlarm c n).sqc = s.sqc ∧ (s.mechanismAlarm c n).mdr = s.mdr ∧ (s.mechanismAlarm c n).au = s.au
      ∧ (s.mechanismAlarm c n).bcu = s.bcu ∧ (s.mechanismAlarm c n).rpu.unpooled = s.rpu.unpooled
      ∧ (s.mechanismAlarm c n).oru = s.oru ∧ (s.mechanismAlarm c n).ports = s.ports
      ∧ (s.mechanismAlarm c n).nvs = s.nvs ∧ (s.mechanismAlarm c n).powered = s.powered
      ∧ (s.mechanismAlarm c n).freeIndex = s.freeIndex ∧ (s.mechanismAlarm c n).pending = s.pending := by
  simp [State.mechanismAlarm]

@[simp] theorem State.discordanceAlarm_frame (n : Option Nat) (s : State) :
    (s.discordanceAlarm n).clock = s.clock ∧ (s.discordanceAlarm n).lmu = s.lmu ∧ (s.discordanceAlarm n).oeb = s.oeb
      ∧ (s.discordanceAlarm n).sqc = s.sqc ∧ (s.discordanceAlarm n).mdr = s.mdr ∧ (s.discordanceAlarm n).au = s.au
      ∧ (s.discordanceAlarm n).bcu = s.bcu ∧ (s.discordanceAlarm n).rpu.unpooled = s.rpu.unpooled
      ∧ (s.discordanceAlarm n).oru = s.oru ∧ (s.discordanceAlarm n).ports = s.ports
      ∧ (s.discordanceAlarm n).nvs = s.nvs ∧ (s.discordanceAlarm n).powered = s.powered
      ∧ (s.discordanceAlarm n).freeIndex = s.freeIndex ∧ (s.discordanceAlarm n).pending = s.pending := by
  simp [State.discordanceAlarm]

@[simp] theorem State.beginTrip_frame (o : Origin) (e : Option Element) (c : Currents) (s : State) :
    (s.beginTrip o e c).clock = s.clock ∧ (s.beginTrip o e c).lmu = s.lmu
      ∧ (s.beginTrip o e c).rpu.unpooled = s.rpu.unpooled
      ∧ (s.beginTrip o e c).ports.unflagged.unanswered = s.ports.unflagged.unanswered
      ∧ (s.beginTrip o e c).powered = s.powered ∧ (s.beginTrip o e c).freeIndex = s.freeIndex
      ∧ (s.beginTrip o e c).pending = s.pending := by
  unfold State.beginTrip
  dsimp only
  repeat' split
  all_goals simp

@[simp] theorem State.beginClose_frame (o : Origin) (s : State) :
    (s.beginClose o).clock = s.clock ∧ (s.beginClose o).lmu = s.lmu ∧ (s.beginClose o).oeb = s.oeb
      ∧ (s.beginClose o).au = s.au ∧ (s.beginClose o).rpu.unpooled = s.rpu.unpooled
      ∧ (s.beginClose o).ports.unflagged.unanswered = s.ports.unflagged.unanswered
      ∧ (s.beginClose o).powered = s.powered ∧ (s.beginClose o).freeIndex = s.freeIndex
      ∧ (s.beginClose o).pending = s.pending := by
  simp [State.beginClose]

@[simp] theorem State.retrip_frame (op : Operation) (s : State) :
    (s.retrip op).clock = s.clock ∧ (s.retrip op).lmu = s.lmu ∧ (s.retrip op).sqc = s.sqc ∧ (s.retrip op).au = s.au
      ∧ (s.retrip op).bcu = s.bcu ∧ (s.retrip op).rpu = s.rpu ∧ (s.retrip op).oru = s.oru
      ∧ (s.retrip op).ports = s.ports ∧ (s.retrip op).nvs = s.nvs ∧ (s.retrip op).powered = s.powered
      ∧ (s.retrip op).freeIndex = s.freeIndex ∧ (s.retrip op).pending = s.pending := by
  simp [State.retrip]

@[simp] theorem State.handOff_frame (o : OpOutcome) (op : Operation) (s : State) :
    (s.handOff o op).clock = s.clock ∧ (s.handOff o op).lmu = s.lmu ∧ (s.handOff o op).oeb = s.oeb
      ∧ (s.handOff o op).mdr = s.mdr ∧ (s.handOff o op).au = s.au ∧ (s.handOff o op).bcu = s.bcu
      ∧ (s.handOff o op).rpu.unpooled = s.rpu.unpooled ∧ (s.handOff o op).ports.unflagged = s.ports.unflagged
      ∧ (s.handOff o op).powered = s.powered ∧ (s.handOff o op).freeIndex = s.freeIndex
      ∧ (s.handOff o op).pending = s.pending := by
  unfold State.handOff
  dsimp only
  repeat' split
  all_goals simp

@[simp] theorem State.endOperation_frame (o : OpOutcome) (op : Operation) (s : State) :
    (s.endOperation o op).clock = s.clock ∧ (s.endOperation o op).lmu = s.lmu ∧ (s.endOperation o op).oeb = s.oeb
      ∧ (s.endOperation o op).au = s.au ∧ (s.endOperation o op).rpu.unpooled = s.rpu.unpooled
      ∧ (s.endOperation o op).ports.unflagged = s.ports.unflagged ∧ (s.endOperation o op).powered = s.powered
      ∧ (s.endOperation o op).freeIndex = s.freeIndex ∧ (s.endOperation o op).pending = s.pending := by
  simp [State.endOperation]

@[simp] theorem State.cutClose_frame (o : Origin) (e : Option Element) (c : Currents) (op : Operation) (s : State) :
    (s.cutClose o e c op).clock = s.clock ∧ (s.cutClose o e c op).lmu = s.lmu
      ∧ (s.cutClose o e c op).rpu.unpooled = s.rpu.unpooled
      ∧ (s.cutClose o e c op).ports.unflagged.unanswered = s.ports.unflagged.unanswered
      ∧ (s.cutClose o e c op).powered = s.powered ∧ (s.cutClose o e c op).freeIndex = s.freeIndex
      ∧ (s.cutClose o e c op).pending = s.pending := by
  simp [State.cutClose]

@[simp] theorem State.requestTripWith_frame (o : Origin) (e : Option Element) (c : Currents) (s : State) :
    (s.requestTripWith o e c).clock = s.clock ∧ (s.requestTripWith o e c).lmu = s.lmu
      ∧ (s.requestTripWith o e c).rpu.unpooled = s.rpu.unpooled
      ∧ (s.requestTripWith o e c).ports.unflagged.unanswered = s.ports.unflagged.unanswered
      ∧ (s.requestTripWith o e c).powered = s.powered ∧ (s.requestTripWith o e c).freeIndex = s.freeIndex
      ∧ (s.requestTripWith o e c).pending = s.pending := by
  unfold State.requestTripWith
  repeat' split
  all_goals simp

@[simp] theorem State.requestTrip_frame (o : Origin) (s : State) :
    (s.requestTrip o).clock = s.clock ∧ (s.requestTrip o).lmu = s.lmu
      ∧ (s.requestTrip o).rpu.unpooled = s.rpu.unpooled
      ∧ (s.requestTrip o).ports.unflagged.unanswered = s.ports.unflagged.unanswered
      ∧ (s.requestTrip o).powered = s.powered ∧ (s.requestTrip o).freeIndex = s.freeIndex
      ∧ (s.requestTrip o).pending = s.pending := by
  simp [State.requestTrip]

@[simp] theorem State.requestClose_frame (o : Origin) (s : State) :
    ((s.requestClose o).1).clock = s.clock ∧ ((s.requestClose o).1).lmu = s.lmu ∧ ((s.requestClose o).1).oeb = s.oeb
      ∧ ((s.requestClose o).1).au = s.au ∧ ((s.requestClose o).1).rpu.unpooled = s.rpu.unpooled
      ∧ ((s.requestClose o).1).ports.unflagged.unanswered = s.ports.unflagged.unanswered
      ∧ ((s.requestClose o).1).powered = s.powered ∧ ((s.requestClose o).1).freeIndex = s.freeIndex
      ∧ ((s.requestClose o).1).pending = s.pending := by
  unfold State.requestClose
  repeat' split
  all_goals simp

@[simp] theorem State.tagToMechanism_frame (s : State) :
    (s.tagToMechanism).clock = s.clock ∧ (s.tagToMechanism).lmu = s.lmu
      ∧ (s.tagToMechanism).rpu.unpooled = s.rpu.unpooled
      ∧ (s.tagToMechanism).ports.unflagged.unanswered = s.ports.unflagged.unanswered
      ∧ (s.tagToMechanism).powered = s.powered ∧ (s.tagToMechanism).freeIndex = s.freeIndex
      ∧ (s.tagToMechanism).pending = s.pending := by
  unfold State.tagToMechanism
  repeat' split
  all_goals simp

@[simp] theorem State.tripOpened_frame (op : Operation) (s : State) :
    (s.tripOpened op).clock = s.clock ∧ (s.tripOpened op).lmu = s.lmu ∧ (s.tripOpened op).oeb = s.oeb
      ∧ (s.tripOpened op).au = s.au ∧ (s.tripOpened op).rpu.unpooled = s.rpu.unpooled
      ∧ (s.tripOpened op).ports.unflagged = s.ports.unflagged ∧ (s.tripOpened op).powered = s.powered
      ∧ (s.tripOpened op).freeIndex = s.freeIndex ∧ (s.tripOpened op).pending = s.pending := by
  simp [State.tripOpened]

@[simp] theorem State.toPhase_frame (ph : Phase) (op : Operation) (s : State) :
    (s.toPhase ph op).clock = s.clock ∧ (s.toPhase ph op).lmu = s.lmu ∧ (s.toPhase ph op).oeb = s.oeb
      ∧ (s.toPhase ph op).sqc = s.sqc ∧ (s.toPhase ph op).au = s.au ∧ (s.toPhase ph op).bcu = s.bcu
      ∧ (s.toPhase ph op).rpu = s.rpu ∧ (s.toPhase ph op).oru = s.oru ∧ (s.toPhase ph op).ports = s.ports
      ∧ (s.toPhase ph op).nvs = s.nvs ∧ (s.toPhase ph op).powered = s.powered
      ∧ (s.toPhase ph op).freeIndex = s.freeIndex ∧ (s.toPhase ph op).pending = s.pending := by
  simp [State.toPhase]

@[simp] theorem State.tripPulseOver_frame (s : State) :
    (s.tripPulseOver).lmu = s.lmu ∧ (s.tripPulseOver).oeb = s.oeb ∧ (s.tripPulseOver).au = s.au
      ∧ (s.tripPulseOver).rpu.unpooled = s.rpu.unpooled ∧ (s.tripPulseOver).ports.unflagged = s.ports.unflagged
      ∧ (s.tripPulseOver).powered = s.powered ∧ (s.tripPulseOver).freeIndex = s.freeIndex
      ∧ (s.tripPulseOver).pending = s.pending := by
  unfold State.tripPulseOver
  dsimp only
  repeat' split
  all_goals simp

@[simp] theorem State.tripWindowOver_frame (s : State) :
    (s.tripWindowOver).lmu = s.lmu ∧ (s.tripWindowOver).au = s.au ∧ (s.tripWindowOver).rpu.unpooled = s.rpu.unpooled
      ∧ (s.tripWindowOver).ports.unflagged = s.ports.unflagged ∧ (s.tripWindowOver).powered = s.powered
      ∧ (s.tripWindowOver).freeIndex = s.freeIndex ∧ (s.tripWindowOver).pending = s.pending := by
  unfold State.tripWindowOver
  dsimp only
  repeat' split
  all_goals simp

@[simp] theorem State.retripWindowOver_frame (s : State) :
    (s.retripWindowOver).lmu = s.lmu ∧ (s.retripWindowOver).oeb = s.oeb ∧ (s.retripWindowOver).au = s.au
      ∧ (s.retripWindowOver).rpu.unpooled = s.rpu.unpooled ∧ (s.retripWindowOver).ports.unflagged = s.ports.unflagged
      ∧ (s.retripWindowOver).powered = s.powered ∧ (s.retripWindowOver).freeIndex = s.freeIndex
      ∧ (s.retripWindowOver).pending = s.pending := by
  unfold State.retripWindowOver
  dsimp only
  repeat' split
  all_goals simp

@[simp] theorem State.closePulseOver_frame (s : State) :
    (s.closePulseOver).lmu = s.lmu ∧ (s.closePulseOver).oeb = s.oeb ∧ (s.closePulseOver).sqc = s.sqc
      ∧ (s.closePulseOver).au = s.au ∧ (s.closePulseOver).bcu = s.bcu ∧ (s.closePulseOver).rpu = s.rpu
      ∧ (s.closePulseOver).oru = s.oru ∧ (s.closePulseOver).ports = s.ports ∧ (s.closePulseOver).nvs = s.nvs
      ∧ (s.closePulseOver).powered = s.powered ∧ (s.closePulseOver).freeIndex = s.freeIndex
      ∧ (s.closePulseOver).pending = s.pending := by
  unfold State.closePulseOver
  repeat' split
  all_goals simp

@[simp] theorem State.closeFailedAt_frame (op : Operation) (s : State) :
    (s.closeFailedAt op).clock = s.clock ∧ (s.closeFailedAt op).lmu = s.lmu
      ∧ (s.closeFailedAt op).rpu.unpooled = s.rpu.unpooled
      ∧ (s.closeFailedAt op).ports.unflagged.unanswered = s.ports.unflagged.unanswered
      ∧ (s.closeFailedAt op).powered = s.powered ∧ (s.closeFailedAt op).freeIndex = s.freeIndex
      ∧ (s.closeFailedAt op).pending = s.pending := by
  unfold State.closeFailedAt
  dsimp only
  repeat' split
  all_goals simp

@[simp] theorem State.closeWindowOver_frame (s : State) :
    (s.closeWindowOver).lmu = s.lmu ∧ (s.closeWindowOver).rpu.unpooled = s.rpu.unpooled
      ∧ (s.closeWindowOver).ports.unflagged.unanswered = s.ports.unflagged.unanswered
      ∧ (s.closeWindowOver).powered = s.powered ∧ (s.closeWindowOver).freeIndex = s.freeIndex
      ∧ (s.closeWindowOver).pending = s.pending := by
  unfold State.closeWindowOver
  dsimp only
  repeat' split
  all_goals simp

@[simp] theorem State.externalOpen_frame (s : State) :
    (s.externalOpen).clock = s.clock ∧ (s.externalOpen).lmu = s.lmu ∧ (s.externalOpen).oeb = s.oeb
      ∧ (s.externalOpen).au = s.au ∧ (s.externalOpen).bcu = s.bcu ∧ (s.externalOpen).rpu.unpooled = s.rpu.unpooled
      ∧ (s.externalOpen).ports.unflagged = s.ports.unflagged ∧ (s.externalOpen).powered = s.powered
      ∧ (s.externalOpen).freeIndex = s.freeIndex ∧ (s.externalOpen).pending = s.pending := by
  unfold State.externalOpen
  dsimp only
  repeat' split
  all_goals simp

@[simp] theorem State.unexpectedClose_frame (s : State) :
    (s.unexpectedClose).clock = s.clock ∧ (s.unexpectedClose).lmu = s.lmu
      ∧ (s.unexpectedClose).rpu.unpooled = s.rpu.unpooled
      ∧ (s.unexpectedClose).ports.unflagged.unanswered = s.ports.unflagged.unanswered
      ∧ (s.unexpectedClose).powered = s.powered ∧ (s.unexpectedClose).freeIndex = s.freeIndex
      ∧ (s.unexpectedClose).pending = s.pending := by
  unfold State.unexpectedClose
  dsimp only
  repeat' split
  all_goals simp

@[simp] theorem State.judgePoles_frame (op : Operation) (s : State) :
    (s.judgePoles op).clock = s.clock ∧ (s.judgePoles op).lmu = s.lmu ∧ (s.judgePoles op).oeb = s.oeb
      ∧ (s.judgePoles op).au = s.au ∧ (s.judgePoles op).rpu.unpooled = s.rpu.unpooled
      ∧ (s.judgePoles op).ports.unflagged = s.ports.unflagged ∧ (s.judgePoles op).powered = s.powered
      ∧ (s.judgePoles op).freeIndex = s.freeIndex ∧ (s.judgePoles op).pending = s.pending := by
  unfold State.judgePoles
  repeat' split
  all_goals simp

@[simp] theorem State.indicationEvent_frame (p : Poles) (s : State) :
    (s.indicationEvent p).clock = s.clock ∧ (s.indicationEvent p).lmu = s.lmu
      ∧ (s.indicationEvent p).rpu.unpooled = s.rpu.unpooled
      ∧ (s.indicationEvent p).ports.unflagged.unanswered = s.ports.unflagged.unanswered
      ∧ (s.indicationEvent p).powered = s.powered ∧ (s.indicationEvent p).freeIndex = s.freeIndex
      ∧ (s.indicationEvent p).pending = s.pending := by
  unfold State.indicationEvent
  repeat' split
  all_goals simp

@[simp] theorem State.judgeReport_frame (s : State) :
    (s.judgeReport).clock = s.clock ∧ (s.judgeReport).lmu = s.lmu ∧ (s.judgeReport).rpu.unpooled = s.rpu.unpooled
      ∧ (s.judgeReport).ports.unflagged.unanswered = s.ports.unflagged.unanswered
      ∧ (s.judgeReport).powered = s.powered ∧ (s.judgeReport).freeIndex = s.freeIndex
      ∧ (s.judgeReport).pending = s.pending := by
  unfold State.judgeReport
  dsimp only
  repeat' split
  all_goals simp

@[simp] theorem State.firstReport_frame (s : State) :
    (s.firstReport).clock = s.clock ∧ (s.firstReport).lmu = s.lmu ∧ (s.firstReport).rpu.unpooled = s.rpu.unpooled
      ∧ (s.firstReport).ports.unflagged.unanswered = s.ports.unflagged.unanswered
      ∧ (s.firstReport).powered = s.powered ∧ (s.firstReport).freeIndex = s.freeIndex
      ∧ (s.firstReport).pending = s.pending := by
  unfold State.firstReport
  dsimp only
  repeat' split
  all_goals simp

@[simp] theorem State.contactsRead_frame (c : Contacts) (s : State) :
    (s.contactsRead c).clock = s.clock ∧ (s.contactsRead c).lmu = s.lmu
      ∧ (s.contactsRead c).rpu.unpooled = s.rpu.unpooled
      ∧ (s.contactsRead c).ports.unflagged.unanswered = s.ports.unflagged.unanswered
      ∧ (s.contactsRead c).powered = s.powered ∧ (s.contactsRead c).freeIndex = s.freeIndex
      ∧ (s.contactsRead c).pending = s.pending := by
  unfold State.contactsRead
  dsimp only
  repeat' split
  all_goals simp

@[simp] theorem State.invalidWatchOver_frame (s : State) :
    (s.invalidWatchOver).lmu = s.lmu ∧ (s.invalidWatchOver).oeb = s.oeb ∧ (s.invalidWatchOver).au = s.au
      ∧ (s.invalidWatchOver).bcu = s.bcu ∧ (s.invalidWatchOver).rpu.unpooled = s.rpu.unpooled
      ∧ (s.invalidWatchOver).ports.unflagged = s.ports.unflagged ∧ (s.invalidWatchOver).powered = s.powered
      ∧ (s.invalidWatchOver).freeIndex = s.freeIndex ∧ (s.invalidWatchOver).pending = s.pending := by
  unfold State.invalidWatchOver
  repeat' split
  all_goals simp

@[simp] theorem State.mixedWatchOver_frame (s : State) :
    (s.mixedWatchOver).lmu = s.lmu ∧ (s.mixedWatchOver).rpu.unpooled = s.rpu.unpooled
      ∧ (s.mixedWatchOver).ports.unflagged.unanswered = s.ports.unflagged.unanswered
      ∧ (s.mixedWatchOver).powered = s.powered ∧ (s.mixedWatchOver).freeIndex = s.freeIndex
      ∧ (s.mixedWatchOver).pending = s.pending := by
  unfold State.mixedWatchOver
  repeat' split
  all_goals simp

@[simp] theorem State.takeDecision_frame (d : List Element) (s : State) :
    (s.takeDecision d).clock = s.clock ∧ (s.takeDecision d).lmu = s.lmu
      ∧ (s.takeDecision d).rpu.unpooled = s.rpu.unpooled
      ∧ (s.takeDecision d).ports.unflagged.unanswered = s.ports.unflagged.unanswered
      ∧ (s.takeDecision d).powered = s.powered ∧ (s.takeDecision d).freeIndex = s.freeIndex
      ∧ (s.takeDecision d).pending = s.pending := by
  unfold State.takeDecision
  dsimp only
  repeat' split
  all_goals simp

@[simp] theorem State.reclose_frame (w : Sequence) (s : State) :
    (s.reclose w).clock = s.clock ∧ (s.reclose w).lmu = s.lmu ∧ (s.reclose w).oeb = s.oeb ∧ (s.reclose w).au = s.au
      ∧ (s.reclose w).rpu.unpooled = s.rpu.unpooled
      ∧ (s.reclose w).ports.unflagged.unanswered = s.ports.unflagged.unanswered ∧ (s.reclose w).powered = s.powered
      ∧ (s.reclose w).freeIndex = s.freeIndex ∧ (s.reclose w).pending = s.pending := by
  unfold State.reclose
  dsimp only
  repeat' split
  all_goals simp

@[simp] theorem State.askAgain_frame (s : State) :
    (s.askAgain).clock = s.clock ∧ (s.askAgain).lmu = s.lmu ∧ (s.askAgain).oeb = s.oeb ∧ (s.askAgain).au = s.au
      ∧ (s.askAgain).rpu.unpooled = s.rpu.unpooled
      ∧ (s.askAgain).ports.unflagged.unanswered = s.ports.unflagged.unanswered ∧ (s.askAgain).powered = s.powered
      ∧ (s.askAgain).freeIndex = s.freeIndex ∧ (s.askAgain).pending = s.pending := by
  unfold State.askAgain
  repeat' split
  all_goals simp

@[simp] theorem State.takeUpdate_frame (r : UpdateResult) (s : State) :
    (s.takeUpdate r).clock = s.clock ∧ (s.takeUpdate r).lmu = s.lmu ∧ (s.takeUpdate r).rpu.unpooled = s.rpu.unpooled
      ∧ (s.takeUpdate r).ports.unflagged.unanswered = s.ports.unflagged.unanswered
      ∧ (s.takeUpdate r).powered = s.powered ∧ (s.takeUpdate r).freeIndex = s.freeIndex
      ∧ (s.takeUpdate r).pending = s.pending := by
  unfold State.takeUpdate
  dsimp only
  repeat' split
  all_goals simp

@[simp] theorem State.rechargeControl_frame (s : State) :
    (s.rechargeControl).clock = s.clock ∧ (s.rechargeControl).lmu = s.lmu ∧ (s.rechargeControl).oeb = s.oeb
      ∧ (s.rechargeControl).sqc = s.sqc ∧ (s.rechargeControl).au = s.au
      ∧ (s.rechargeControl).rpu.unpooled = s.rpu.unpooled ∧ (s.rechargeControl).oru = s.oru
      ∧ (s.rechargeControl).ports.unflagged.unanswered = s.ports.unflagged.unanswered
      ∧ (s.rechargeControl).powered = s.powered ∧ (s.rechargeControl).freeIndex = s.freeIndex
      ∧ (s.rechargeControl).pending = s.pending := by
  unfold State.rechargeControl
  repeat' split
  all_goals simp

@[simp] theorem State.raiseLowEnergy_frame (s : State) :
    (s.raiseLowEnergy).clock = s.clock ∧ (s.raiseLowEnergy).lmu = s.lmu ∧ (s.raiseLowEnergy).oeb = s.oeb
      ∧ (s.raiseLowEnergy).sqc = s.sqc ∧ (s.raiseLowEnergy).au = s.au ∧ (s.raiseLowEnergy).bcu = s.bcu
      ∧ (s.raiseLowEnergy).rpu.unpooled = s.rpu.unpooled ∧ (s.raiseLowEnergy).oru = s.oru
      ∧ (s.raiseLowEnergy).ports.unflagged = s.ports.unflagged ∧ (s.raiseLowEnergy).nvs = s.nvs
      ∧ (s.raiseLowEnergy).powered = s.powered ∧ (s.raiseLowEnergy).freeIndex = s.freeIndex
      ∧ (s.raiseLowEnergy).pending = s.pending := by
  simp [State.raiseLowEnergy]

@[simp] theorem State.lowEnergyWatch_frame (s : State) :
    (s.lowEnergyWatch).clock = s.clock ∧ (s.lowEnergyWatch).lmu = s.lmu ∧ (s.lowEnergyWatch).oeb = s.oeb
      ∧ (s.lowEnergyWatch).sqc = s.sqc ∧ (s.lowEnergyWatch).au = s.au ∧ (s.lowEnergyWatch).bcu = s.bcu
      ∧ (s.lowEnergyWatch).rpu.unpooled = s.rpu.unpooled ∧ (s.lowEnergyWatch).oru = s.oru
      ∧ (s.lowEnergyWatch).ports.unflagged = s.ports.unflagged ∧ (s.lowEnergyWatch).nvs = s.nvs
      ∧ (s.lowEnergyWatch).powered = s.powered ∧ (s.lowEnergyWatch).freeIndex = s.freeIndex
      ∧ (s.lowEnergyWatch).pending = s.pending := by
  unfold State.lowEnergyWatch
  repeat' split
  all_goals simp

@[simp] theorem State.measureCapacitor_frame (v : Nat) (s : State) :
    (s.measureCapacitor v).clock = s.clock ∧ (s.measureCapacitor v).lmu = s.lmu ∧ (s.measureCapacitor v).oeb = s.oeb
      ∧ (s.measureCapacitor v).au = s.au ∧ (s.measureCapacitor v).rpu.unpooled = s.rpu.unpooled
      ∧ (s.measureCapacitor v).ports.unflagged.unanswered = s.ports.unflagged.unanswered
      ∧ (s.measureCapacitor v).powered = s.powered ∧ (s.measureCapacitor v).freeIndex = s.freeIndex
      ∧ (s.measureCapacitor v).pending = s.pending := by
  simp [State.measureCapacitor]


end Sys2Proof.Machine
end

section
/-! PROOFS. The report pool (R134 to R139): what each operation on the RPU's lists leaves of its invariant. -/

namespace Sys2Proof.Machine

/-! ### The pool as a property of the RPU -/

/-- The pool's invariant, of the RPU that holds it. -/
def Rpu.poolOk (r : Rpu) : Prop :=
  (∀ x ∈ r.qAlarm, x.kind.isAlarm = true) ∧ (∀ x ∈ r.qEvent, x.kind.isEvent = true)
    ∧ (∀ x ∈ r.qMeasure, x.kind.isMeasure = true) ∧ (∀ x ∈ r.held, x.kind.isMeasure = false)
    ∧ r.eventOrMeasureCount ≤ 24
    ∧ (r.used.map Report.object).Nodup ∧ (∀ x ∈ r.used, x.object < 48)
    ∧ (((r.qAlarm ++ r.held).filter fun x => x.kind.isAlarm).map Report.kind).Nodup

theorem State.poolInv_iff (s : State) : s.poolInv ↔ s.rpu.poolOk := Iff.rfl

/-- What the pool's invariant reads of an object. -/
def Report.key (x : Report) : ReportKind × Nat := (x.kind, x.object)

/-- The identities of the alarms queued and held. -/
def Rpu.alarmKinds (r : Rpu) : List ReportKind := ((r.qAlarm ++ r.held).filter fun x => x.kind.isAlarm).map Report.kind

theorem Rpu.eventOrMeasureCount_eq (r : Rpu) : r.eventOrMeasureCount = (r.used.map Report.key).countP fun k => !k.1.isAlarm := by
  rw [Rpu.eventOrMeasureCount, List.countP_map]; rfl

theorem objects_eq_keys (l : List Report) : l.map Report.object = (l.map Report.key).map Prod.snd := by
  simp [Report.key]

theorem kinds_eq_keys (l : List Report) : l.map Report.kind = (l.map Report.key).map Prod.fst := by
  simp [Report.key]

/-- An RPU whose objects are among those of a pool that is in order, with its lists by class and its alarms' identities unique. -/
theorem Rpu.poolOk_of_subperm {r r' : Rpu} (h : r.poolOk) (ha : ∀ x ∈ r'.qAlarm, x.kind.isAlarm = true)
    (he : ∀ x ∈ r'.qEvent, x.kind.isEvent = true) (hm : ∀ x ∈ r'.qMeasure, x.kind.isMeasure = true)
    (hh : ∀ x ∈ r'.held, x.kind.isMeasure = false) (hu : (r'.used.map Report.key).Subperm (r.used.map Report.key))
    (hk : r'.alarmKinds.Nodup) : r'.poolOk := by
  obtain ⟨-, -, -, -, count, nodup, bound, -⟩ := h
  refine ⟨ha, he, hm, hh, ?_, ?_, ?_, hk⟩
  · rw [Rpu.eventOrMeasureCount_eq] at count ⊢
    exact (hu.countP_le _).trans count
  · rw [objects_eq_keys] at nodup ⊢
    obtain ⟨l, hp, hl⟩ := hu
    exact (hp.map Prod.snd).nodup_iff.mp (nodup.sublist (hl.map _))
  · intro x hx
    obtain ⟨y, hy, e⟩ := List.mem_map.mp (hu.subset (List.mem_map_of_mem (f := Report.key) hx))
    have := bound y hy
    simp only [Report.key, Prod.mk.injEq] at e
    omega

/-! ### Objects changed in place -/

/-- The list with each object changed in place. -/
theorem map_keys {f : Report → Report} (hf : ∀ x, (f x).key = x.key) (l : List Report) : (l.map f).map Report.key = l.map Report.key := by
  simp [Function.comp_def, hf]

theorem kinds_of_keys {l l' : List Report} (h : l'.map Report.key = l.map Report.key) {p : ReportKind → Prop}
    (hp : ∀ x ∈ l, p x.kind) : ∀ x ∈ l', p x.kind := by
  intro x hx
  have : x.key ∈ l.map Report.key := h ▸ List.mem_map_of_mem hx
  obtain ⟨y, hy, e⟩ := List.mem_map.mp this
  simp only [Report.key, Prod.mk.injEq] at e
  exact e.1 ▸ hp y hy

theorem alarmKinds_eq (r : Rpu) : r.alarmKinds = (((r.qAlarm ++ r.held).map Report.key).map Prod.fst).filter ReportKind.isAlarm := by
  simp only [Rpu.alarmKinds, Report.key, List.map_map, List.filter_map, Function.comp_def]

/-- Lists that hold the same objects with the same kinds, in the same places. -/
theorem Rpu.poolOk_of_keys {r r' : Rpu} (h : r.poolOk) (ha : r'.qAlarm.map Report.key = r.qAlarm.map Report.key)
    (he : r'.qEvent.map Report.key = r.qEvent.map Report.key) (hm : r'.qMeasure.map Report.key = r.qMeasure.map Report.key)
    (hi : r'.inFlight.toList.map Report.key = r.inFlight.toList.map Report.key) (hh : r'.held.map Report.key = r.held.map Report.key) :
    r'.poolOk := by
  have used : r'.used.map Report.key = r.used.map Report.key := by simp only [Rpu.used, List.map_append, ha, he, hm, hi, hh]
  obtain ⟨a, e, m, held, -, -, -, kinds⟩ := id h
  refine Rpu.poolOk_of_subperm h (kinds_of_keys ha (p := (·.isAlarm = true)) a) (kinds_of_keys he (p := (·.isEvent = true)) e)
    (kinds_of_keys hm (p := (·.isMeasure = true)) m) (kinds_of_keys hh (p := (·.isMeasure = false)) held) ?_ ?_
  · rw [used]
  · change r.alarmKinds.Nodup at kinds
    rw [alarmKinds_eq] at kinds ⊢
    rwa [List.map_append, ha, hh, ← List.map_append]

theorem Report.merge_key (id : AlarmId) (payload : List Byte) (x : Report) : (x.merge id payload).key = x.key := by
  unfold Report.merge; split <;> rfl

theorem Report.absorb_key (x y : Report) : (x.absorb y).key = y.key := by
  unfold Report.absorb; split <;> rfl

theorem Report.revive_key (x : Report) : x.revive.key = x.key := rfl

/-! ### Objects that leave their lists -/

/-- Lists of fewer objects. -/
theorem Rpu.poolOk_of_sublists {r r' : Rpu} (h : r.poolOk) (ha : r'.qAlarm.Sublist r.qAlarm) (he : r'.qEvent.Sublist r.qEvent)
    (hm : r'.qMeasure.Sublist r.qMeasure) (hi : r'.inFlight.toList.Sublist r.inFlight.toList) (hh : r'.held.Sublist r.held) :
    r'.poolOk := by
  obtain ⟨a, e, m, held, -, -, -, kinds⟩ := id h
  refine Rpu.poolOk_of_subperm h (fun x hx => a x (ha.subset hx)) (fun x hx => e x (he.subset hx)) (fun x hx => m x (hm.subset hx))
    (fun x hx => held x (hh.subset hx)) ?_ ?_
  · exact (((((ha.append he).append hm).append hi).append hh).map Report.key).subperm
  · exact kinds.sublist (((ha.append hh).filter _).map _)

theorem without_sublist (x : Report) (l : List Report) : (without x l).Sublist l := List.filter_sublist

theorem Rpu.evict_sublists (r : Rpu) : r.evict.qAlarm.Sublist r.qAlarm ∧ r.evict.qEvent.Sublist r.qEvent
    ∧ r.evict.qMeasure.Sublist r.qMeasure ∧ r.evict.inFlight = r.inFlight ∧ r.evict.held.Sublist r.held := by
  unfold Rpu.evict
  repeat' split
  all_goals simp [without_sublist]

theorem Rpu.evict_poolOk {r : Rpu} (h : r.poolOk) : r.evict.poolOk := by
  obtain ⟨a, e, m, f, d⟩ := r.evict_sublists
  exact Rpu.poolOk_of_sublists h a e m (f ▸ .refl _) d

theorem oldest_mem : ∀ {l : List Report} {x : Report}, oldest l = some x → x ∈ l
  | y :: rest, x, h => by
    rw [oldest] at h
    split at h
    · next => simp_all
    · next z hz =>
      have := oldest_mem hz
      split at h <;> simp_all

theorem oldest_none {l : List Report} (h : oldest l = none) : l = [] := by
  cases l with
  | nil => rfl
  | cons y rest =>
    rw [oldest] at h
    split at h
    · cases h
    · split at h <;> cases h

/-- One object fewer of a kind counted. -/
theorem countP_without_lt {p : Report → Bool} {x : Report} {l : List Report} (hx : x ∈ l) (hp : p x = true) :
    (without x l).countP p < l.countP p := by
  induction l with
  | nil => cases hx
  | cons y rest ih =>
    have le : (without x rest).countP p ≤ rest.countP p := (without_sublist x rest).countP_le
    rcases List.mem_cons.mp hx with rfl | hx
    · simp [without, hp]
      exact le
    · have := ih hx
      by_cases hy : y.object != x.object <;> by_cases hq : p y = true <;> simp_all [without]

/-- After an eviction there is room for an event or a snapshot (R137). -/
theorem Rpu.evict_room {r : Rpu} (h : r.poolOk) : r.evict.eventOrMeasureCount < 24 := by
  obtain ⟨a, e, m, held, count, -, -, -⟩ := h
  have alarm {k : ReportKind} (h : k.isEvent = true ∨ k.isMeasure = true) : (!k.isAlarm) = true := by
    cases k <;> simp_all [ReportKind.isAlarm, ReportKind.isEvent, ReportKind.isMeasure]
  unfold Rpu.evict
  split
  · assumption
  · have lists {x : Report} {l : List Report} := countP_without_lt (p := fun x : Report => !x.kind.isAlarm) (x := x) (l := l)
    have parts : r.eventOrMeasureCount = r.qAlarm.countP (fun x => !x.kind.isAlarm) + r.qEvent.countP (fun x => !x.kind.isAlarm)
        + r.qMeasure.countP (fun x => !x.kind.isAlarm) + r.inFlight.toList.countP (fun x => !x.kind.isAlarm)
        + r.held.countP (fun x => !x.kind.isAlarm) := by
      simp [Rpu.eventOrMeasureCount, Rpu.used, List.countP_append]; omega
    cases hm : oldest r.qMeasure with
    | some x =>
      have := lists (oldest_mem hm) (alarm (.inr (m x (oldest_mem hm))))
      simp only [Rpu.eventOrMeasureCount, Rpu.used, List.countP_append] at parts ⊢ count
      omega
    | none =>
    cases he : oldest r.qEvent with
    | some x =>
      have := lists (oldest_mem he) (alarm (.inl (e x (oldest_mem he))))
      simp only [Rpu.eventOrMeasureCount, Rpu.used, List.countP_append] at parts ⊢ count
      omega
    | none =>
    cases hh : oldest (r.held.filter fun x => x.kind.isEvent) with
    | some x =>
      obtain ⟨mem, kind⟩ := List.mem_filter.mp (oldest_mem hh)
      have := lists mem (alarm (.inl kind))
      simp only [Rpu.eventOrMeasureCount, Rpu.used, List.countP_append] at parts ⊢ count
      omega
    | none =>
      have alarms : r.qAlarm.countP (fun x => !x.kind.isAlarm) = 0 := by
        rw [List.countP_eq_zero]; intro x hx; simp [a x hx]
      have helds : r.held.countP (fun x => !x.kind.isAlarm) = 0 := by
        rw [List.countP_eq_zero]; intro x hx
        have no := oldest_none hh
        rw [List.filter_eq_nil_iff] at no
        have n1 := no x hx
        have n2 := held x hx
        cases hk : x.kind <;> simp_all [ReportKind.isAlarm, ReportKind.isEvent, ReportKind.isMeasure]
      have flight : r.inFlight.toList.countP (fun x => !x.kind.isAlarm) ≤ 1 := by
        cases r.inFlight <;> simp [List.countP_cons]; split <;> simp
      rw [oldest_none hm, oldest_none he] at parts
      simp only [List.countP_nil] at parts
      omega

/-! ### New objects -/

/-- The alarm identities of Table 7-3. -/
def alarmIds : List AlarmId :=
  [.lockout, .mechanismFault, .poleDiscordance, .lowEnergy, .batteryLow, .batteryCritical, .batteryDisconnect, .batteryFailing,
   .acSupplyLost, .tagTable, .storeFault, .wearLimit]

theorem alarmKinds_length {r : Rpu} (h : r.alarmKinds.Nodup) : r.alarmKinds.length ≤ 12 := by
  have sub : r.alarmKinds ⊆ alarmIds.map ReportKind.alarm := by
    intro k hk
    simp only [Rpu.alarmKinds, List.mem_map, List.mem_filter] at hk
    obtain ⟨x, ⟨-, hx⟩, rfl⟩ := hk
    cases hx' : x.kind with
    | alarm id => cases id <;> simp [alarmIds]
    | event | measure => simp [hx', ReportKind.isAlarm] at hx
  exact (List.subperm_of_subset h sub).length_le

/-- The pool is never full: 12 alarms queued or held, one more in flight, and 24 events and snapshots at most. -/
theorem Rpu.used_length {r : Rpu} (h : r.poolOk) : r.used.length < 48 := by
  obtain ⟨a, e, m, held, count, -, -, kinds⟩ := h
  have few := alarmKinds_length (r := r) kinds
  rw [Rpu.alarmKinds, List.length_map, ← List.countP_eq_length_filter] at few
  have all := List.length_eq_countP_add_countP (fun x : Report => x.kind.isAlarm) (l := r.used)
  have used : r.used.countP (fun x => x.kind.isAlarm) = (r.qAlarm ++ r.held).countP (fun x => x.kind.isAlarm)
      + (r.qEvent.countP (fun x => x.kind.isAlarm) + r.qMeasure.countP (fun x => x.kind.isAlarm)
        + r.inFlight.toList.countP fun x => x.kind.isAlarm) := by
    simp [Rpu.used, List.countP_append]; omega
  have events : r.qEvent.countP (fun x => x.kind.isAlarm) = 0 := by
    rw [List.countP_eq_zero]; intro x hx; have := e x hx
    cases hk : x.kind <;> simp_all [ReportKind.isAlarm, ReportKind.isEvent]
  have measures : r.qMeasure.countP (fun x => x.kind.isAlarm) = 0 := by
    rw [List.countP_eq_zero]; intro x hx; have := m x hx
    cases hk : x.kind <;> simp_all [ReportKind.isAlarm, ReportKind.isMeasure]
  have flight : r.inFlight.toList.countP (fun x => x.kind.isAlarm) ≤ 1 := by
    cases r.inFlight <;> simp [List.countP_cons]; split <;> simp
  simp only [Rpu.eventOrMeasureCount] at count
  have neg : r.used.countP (fun x => decide ¬(x.kind.isAlarm = true)) = r.used.countP fun x => !x.kind.isAlarm := by
    congr 1; funext x; cases x.kind.isAlarm <;> rfl
  omega

/-- A new object takes a number below 48 that none in use has (Table 7-1). -/
theorem Rpu.freeObject_spec {r : Rpu} (h : r.poolOk) : r.freeObject < 48 ∧ ∀ x ∈ r.used, x.object ≠ r.freeObject := by
  unfold Rpu.freeObject
  cases hf : (List.range 48).find? fun n => r.used.all fun x => x.object != n with
  | some n =>
    have := List.find?_some hf
    have mem := List.mem_of_find?_eq_some hf
    simp_all
  | none =>
    rw [List.find?_eq_none] at hf
    have sub : List.range 48 ⊆ r.used.map Report.object := by
      intro n hn
      have := hf n hn
      simp only [List.all_eq_true, bne_iff_ne, ne_eq, not_forall, Classical.not_not] at this
      obtain ⟨x, hx, rfl⟩ := this
      exact List.mem_map_of_mem hx
    have le := (List.subperm_of_subset List.nodup_range sub).length_le
    have := Rpu.used_length h
    simp at le
    omega

/-- The pool with one new object: its lists by class, the counts and the identities kept. -/
theorem Rpu.poolOk_of_new {r r' : Rpu} {x : Report} (h : r.poolOk) (ha : ∀ y ∈ r'.qAlarm, y.kind.isAlarm = true)
    (he : ∀ y ∈ r'.qEvent, y.kind.isEvent = true) (hm : ∀ y ∈ r'.qMeasure, y.kind.isMeasure = true)
    (hh : ∀ y ∈ r'.held, y.kind.isMeasure = false) (hu : r'.used.Perm (x :: r.used)) (hx : x.object = r.freeObject)
    (hc : x.kind.isAlarm = true ∨ r.eventOrMeasureCount < 24) (hk : r'.alarmKinds.Nodup) : r'.poolOk := by
  obtain ⟨free, new⟩ := Rpu.freeObject_spec h
  obtain ⟨-, -, -, -, count, nodup, bound, -⟩ := h
  refine ⟨ha, he, hm, hh, ?_, ?_, ?_, hk⟩
  · rw [Rpu.eventOrMeasureCount] at count hc ⊢
    rw [hu.countP_eq, List.countP_cons]
    rcases hc with hc | hc
    · simpa [hc] using count
    · split <;> omega
  · rw [(hu.map Report.object).nodup_iff, List.map_cons, List.nodup_cons]
    refine ⟨?_, nodup⟩
    rw [List.mem_map]
    rintro ⟨y, hy, e⟩
    exact new y hy (e.trans hx)
  · intro y hy
    rcases List.mem_cons.mp (hu.mem_iff.mp hy) with rfl | hy
    · omega
    · exact bound y hy

theorem Rpu.alarm_poolOk {r : Rpu} (h : r.poolOk) (now : Stamp) (id : AlarmId) (payload : List Byte) :
    (r.alarm now id payload).poolOk := by
  unfold Rpu.alarm
  split
  · exact Rpu.poolOk_of_keys h (map_keys (Report.merge_key id payload) _) rfl rfl rfl rfl
  · split
    · exact Rpu.poolOk_of_keys h rfl rfl rfl rfl (map_keys (Report.merge_key id payload) _)
    · next hq hh =>
      have keep := h
      obtain ⟨a, e, m, held, -, -, -, kinds⟩ := keep
      refine Rpu.poolOk_of_new (x := r.fresh now (.alarm id) payload 1) h ?_ e m held ?_ rfl (.inl rfl) ?_
      · intro y hy
        rcases List.mem_append.mp hy with hy | hy
        · exact a y hy
        · rw [List.mem_singleton.mp hy]; rfl
      · simp only [Rpu.used, Rpu.count, List.append_assoc]
        exact List.perm_middle
      · have new : ∀ x ∈ r.qAlarm ++ r.held, x.kind ≠ .alarm id := by
          simp only [List.any_eq_true, beq_iff_eq, not_exists, not_and] at hq hh
          intro x hx
          rcases List.mem_append.mp hx with hx | hx
          · exact hq x hx
          · exact hh x hx
        have perm : (r.qAlarm ++ [r.fresh now (.alarm id) payload 1] ++ r.held).Perm (r.fresh now (.alarm id) payload 1 :: (r.qAlarm ++ r.held)) := by
          rw [List.append_assoc]; exact List.perm_middle
        refine ((perm.filter _).map _).nodup_iff.mpr ?_
        rw [List.filter_cons_of_pos (by rfl), List.map_cons, List.nodup_cons]
        refine ⟨?_, kinds⟩
        rw [List.mem_map]
        rintro ⟨y, hy, ek⟩
        exact new y (List.mem_filter.mp hy).1 ek

theorem Rpu.event_poolOk {r : Rpu} (h : r.poolOk) (now : Stamp) (kind : EventKind) (payload : List Byte) :
    (r.event now kind payload).poolOk := by
  have ev := Rpu.evict_poolOk h
  obtain ⟨a, e, m, held, -, -, -, kinds⟩ := id ev
  refine Rpu.poolOk_of_new (x := r.evict.fresh now (.event kind) payload r.evict.lost) ev a ?_ m held ?_ rfl
    (.inr (Rpu.evict_room h)) kinds
  · intro y hy
    rcases List.mem_append.mp hy with hy | hy
    · exact e y hy
    · rw [List.mem_singleton.mp hy]; rfl
  · have := List.perm_middle (a := r.evict.fresh now (.event kind) payload r.evict.lost) (l₁ := r.evict.qAlarm ++ r.evict.qEvent)
      (l₂ := r.evict.qMeasure ++ (r.evict.inFlight.toList ++ r.evict.held))
    simpa [Rpu.used, Rpu.event, Rpu.count, List.append_assoc] using this

theorem Rpu.snapshot_poolOk {r : Rpu} (h : r.poolOk) (now : Stamp) (set : MeasureSet) (payload : List Byte) :
    (r.snapshot now set payload).poolOk := by
  unfold Rpu.snapshot
  split
  · refine Rpu.poolOk_of_keys h rfl rfl (map_keys (fun x => ?_) _) rfl rfl
    split <;> rfl
  · have ev := Rpu.evict_poolOk h
    obtain ⟨a, e, m, held, -, -, -, kinds⟩ := id ev
    refine Rpu.poolOk_of_new (x := r.evict.fresh now (.measure set) payload 0) ev a e ?_ held ?_ rfl
      (.inr (Rpu.evict_room h)) kinds
    · intro y hy
      rcases List.mem_append.mp hy with hy | hy
      · exact m y hy
      · rw [List.mem_singleton.mp hy]; rfl
    · have := List.perm_middle (a := r.evict.fresh now (.measure set) payload 0)
        (l₁ := r.evict.qAlarm ++ (r.evict.qEvent ++ r.evict.qMeasure)) (l₂ := r.evict.inFlight.toList ++ r.evict.held)
      simpa [Rpu.used, Rpu.count, List.append_assoc] using this

/-! ### Failed attempts, acknowledgements and frames -/

theorem Rpu.queued_mem_used {r : Rpu} {x : Report} (hx : x ∈ r.qAlarm ++ r.held ++ r.qEvent ++ r.qMeasure) : x ∈ r.used := by
  simp only [Rpu.used, List.mem_append] at hx ⊢
  tauto

/-- An object out of its list, its place taken by none: what is left and the object are among the objects of the pool. -/
theorem Rpu.takeOut_subperm {r : Rpu} {x : Report} (h : r.poolOk) (hx : x ∈ r.qAlarm ++ r.held ++ r.qEvent ++ r.qMeasure) :
    (x.key :: (r.takeOut x).used.map Report.key).Subperm (r.used.map Report.key) := by
  obtain ⟨-, -, -, -, -, nodup, -, -⟩ := h
  have sub : (r.takeOut x).used.Sublist r.used :=
    ((((without_sublist x _).append (without_sublist x _)).append (without_sublist x _)).append (.refl _)).append (without_sublist x _)
  have away : ∀ y ∈ (r.takeOut x).used, y.object ≠ x.object := by
    intro y hy
    simp only [Rpu.used, Rpu.takeOut, without, List.mem_append, List.mem_filter, bne_iff_ne] at hy
    rcases hy with ((((⟨-, n⟩ | ⟨-, n⟩) | ⟨-, n⟩) | n) | ⟨-, n⟩)
    any_goals exact n
    have perm : r.used.Perm (r.inFlight.toList ++ (r.qAlarm ++ r.held ++ r.qEvent ++ r.qMeasure)) := by
      simp only [Rpu.used]
      refine List.perm_iff_count.mpr fun z => ?_
      simp only [List.count_append]
      omega
    rw [(perm.map Report.object).nodup_iff, List.map_append, List.nodup_append] at nodup
    exact nodup.2.2 _ (List.mem_map_of_mem n) _ (List.mem_map_of_mem hx)
  refine List.subperm_of_subset ?_ ?_
  · have key : ((x :: (r.takeOut x).used).map Report.object).Nodup := by
      rw [List.map_cons, List.nodup_cons]
      refine ⟨fun hm => ?_, nodup.sublist (sub.map _)⟩
      obtain ⟨y, hy, e⟩ := List.mem_map.mp hm
      exact away y hy e
    rw [objects_eq_keys] at key
    exact key.of_map _
  · intro k hk
    rcases List.mem_cons.mp hk with rfl | hk
    · exact List.mem_map_of_mem (Rpu.queued_mem_used hx)
    · exact (sub.map _).subset hk

theorem Rpu.poolOk_of_takeOut {r r' : Rpu} {x : Report} (h : r.poolOk) (ha : r'.qAlarm.Sublist r.qAlarm) (he : r'.qEvent.Sublist r.qEvent)
    (hm : r'.qMeasure.Sublist r.qMeasure) (hh : r'.held.Sublist r.held) (hi : r'.inFlight = some x)
    (hu : (x.key :: ({ r' with inFlight := none } : Rpu).used.map Report.key).Subperm (r.used.map Report.key)) : r'.poolOk := by
  obtain ⟨a, e, m, held, -, -, -, kinds⟩ := id h
  refine Rpu.poolOk_of_subperm h (fun x hx => a x (ha.subset hx)) (fun x hx => e x (he.subset hx)) (fun x hx => m x (hm.subset hx))
    (fun x hx => held x (hh.subset hx)) (List.Subperm.trans (List.Perm.subperm ?_) hu) (kinds.sublist (((ha.append hh).filter _).map _))
  rw [← List.map_cons]
  refine List.Perm.map _ ?_
  have := List.perm_middle (a := x) (l₁ := r'.qAlarm ++ r'.qEvent ++ r'.qMeasure) (l₂ := r'.held)
  simpa [Rpu.used, hi, List.append_assoc] using this

/-- A report disposed of after a failed attempt (R147). -/
theorem Rpu.dispose_poolOk {r₀ r : Rpu} {x : Report} (h₀ : r₀.poolOk) (h : r.poolOk)
    (hu : (x.key :: r.used.map Report.key).Subperm (r₀.used.map Report.key)) (now : Nat) (single : Bool) :
    (r.dispose now single x).poolOk := by
  obtain ⟨a, e, m, held, -, -, -, kinds⟩ := id h
  have perm {l : List Report} {x' : Report} (hx : x'.key = x.key) (hp : l.Perm (x' :: r.used)) :
      (l.map Report.key).Subperm (r₀.used.map Report.key) := by
    refine List.Subperm.trans (List.Perm.subperm ?_) hu
    rw [← hx, ← List.map_cons]
    exact hp.map _
  unfold Rpu.dispose
  dsimp only
  split
  · exact h
  split
  · exact Rpu.poolOk_of_keys h (map_keys (Report.absorb_key x) _) rfl rfl rfl rfl
  split
  · exact Rpu.poolOk_of_keys h rfl rfl rfl rfl (map_keys (Report.absorb_key x) _)
  next single hq hh =>
  have notMeasure : x.kind.isMeasure = false := by
    simp only [Bool.or_eq_true, not_or] at single
    simpa using single.2
  have new (halarm : x.kind.isAlarm = true) : x.kind ∉ r.alarmKinds := by
    simp only [halarm, Bool.true_and, List.any_eq_true, beq_iff_eq, not_exists, not_and] at hq hh
    simp only [Rpu.alarmKinds, List.mem_map, List.mem_filter, List.mem_append, not_exists, not_and]
    rintro y ⟨hy | hy, -⟩
    · exact hq y hy
    · exact hh y hy
  have identities {l : List Report} (hl : l.Perm (x :: (r.qAlarm ++ r.held))) : ((l.filter fun y => y.kind.isAlarm).map Report.kind).Nodup := by
    rw [((hl.filter _).map _).nodup_iff]
    by_cases halarm : x.kind.isAlarm = true
    · rw [List.filter_cons_of_pos (by exact halarm), List.map_cons, List.nodup_cons]
      exact ⟨new halarm, kinds⟩
    · rw [List.filter_cons_of_neg (by exact halarm)]
      exact kinds
  split
  · split
    · next halarm =>
      refine Rpu.poolOk_of_subperm h₀ ?_ e m held (perm (x' := { x with notBefore := some (now + r.settings.backoff x.attempts) }) rfl ?_) ?_
      · intro y hy
        rcases List.mem_cons.mp hy with rfl | hy
        · exact halarm
        · exact a y hy
      rotate_left
      · have := identities (.refl _)
        simp only [Rpu.alarmKinds, List.cons_append, List.filter_cons, halarm, if_true, List.map_cons] at this ⊢
        exact this
      · exact .refl _
    · next halarm =>
      refine Rpu.poolOk_of_subperm h₀ a ?_ m held (perm (x' := { x with notBefore := some (now + r.settings.backoff x.attempts) }) rfl ?_) kinds
      · intro y hy
        rcases List.mem_cons.mp hy with rfl | hy
        · cases hk : x.kind <;> simp_all [ReportKind.isAlarm, ReportKind.isEvent, ReportKind.isMeasure]
        · exact e y hy
      · simp [Rpu.used]
  · refine Rpu.poolOk_of_subperm h₀ a e m ?_ (perm (x' := x) rfl ?_)
      (identities (by rw [← List.append_assoc]; exact List.perm_append_comm))
    · intro y hy
      rcases List.mem_append.mp hy with hy | hy
      · exact held y hy
      · rw [List.mem_singleton.mp hy]; exact notMeasure
    · have := List.perm_middle (a := x) (l₁ := r.used) (l₂ := [])
      simpa [Rpu.used, List.append_assoc] using this

/-- The held reports back in their queues (R146). -/
theorem Rpu.releaseHeld_poolOk {r : Rpu} (h : r.poolOk) : r.releaseHeld.poolOk := by
  obtain ⟨a, e, m, held, -, -, -, kinds⟩ := id h
  have key : (r.held.map Report.revive).map Report.key = r.held.map Report.key := map_keys Report.revive_key _
  have split : ((r.held.map Report.revive).filter (fun x => x.kind.isAlarm) ++ (r.held.map Report.revive).filter fun x => x.kind.isEvent).Perm
      (r.held.map Report.revive) := by
    have := List.filter_append_perm (fun x : Report => x.kind.isAlarm) (r.held.map Report.revive)
    have same : (r.held.map Report.revive).filter (fun x => x.kind.isEvent) = (r.held.map Report.revive).filter fun x => !x.kind.isAlarm := by
      refine List.filter_congr fun x hx => ?_
      obtain ⟨y, hy, rfl⟩ := List.mem_map.mp hx
      have := held y hy
      change y.kind.isEvent = !y.kind.isAlarm
      cases hk : y.kind <;> simp_all [ReportKind.isAlarm, ReportKind.isEvent, ReportKind.isMeasure]
    rw [same]
    exact this
  refine Rpu.poolOk_of_subperm h ?_ ?_ m (by simp [Rpu.releaseHeld]) (List.Perm.subperm ?_) ?_
  · intro x hx
    rcases List.mem_append.mp hx with hx | hx
    · exact (List.mem_filter.mp hx).2
    · exact a x hx
  · intro x hx
    rcases List.mem_append.mp hx with hx | hx
    · exact (List.mem_filter.mp hx).2
    · exact e x hx
  · have used : r.releaseHeld.used.Perm (((r.held.map Report.revive).filter (fun x => x.kind.isAlarm)
        ++ (r.held.map Report.revive).filter fun x => x.kind.isEvent) ++ (r.qAlarm ++ r.qEvent ++ r.qMeasure ++ r.inFlight.toList)) := by
      simp only [Rpu.used, Rpu.releaseHeld]
      refine List.perm_iff_count.mpr fun z => ?_
      simp only [List.count_append, List.count_nil]
      omega
    refine (used.map _).trans ?_
    rw [List.map_append]
    refine ((split.map Report.key).append_right _).trans ?_
    rw [key, ← List.map_append]
    exact List.Perm.map _ List.perm_append_comm
  · have perm : (r.releaseHeld.qAlarm ++ r.releaseHeld.held).Perm
        (r.qAlarm ++ (r.held.map Report.revive).filter fun x => x.kind.isAlarm) := by
      simp only [Rpu.releaseHeld, List.append_nil]
      exact List.perm_append_comm
    rw [Rpu.alarmKinds, ((perm.filter _).map _).nodup_iff, List.filter_append, List.filter_filter]
    simp only [Bool.and_self]
    change (List.map Report.kind (List.filter (fun x => x.kind.isAlarm) (r.qAlarm ++ r.held))).Nodup at kinds
    rw [List.filter_append, List.map_append] at kinds
    rw [List.map_append, List.filter_map, List.map_map]
    exact kinds

end Sys2Proof.Machine
end

section
/-! PROOFS. What every operation keeps: the records in range, the sequence, the link, the pool and the authority (R91, R134, R150, R184). -/

namespace Sys2Proof.Machine

/-! ### The relation -/

/-- The invariants that no operation gives up halfway: each holds after it where it held before. -/
structure Keeps (s t : State) : Prop where
  records : s.recordsInv → t.recordsInv
  sequence : s.recordsInv → s.sequenceInv → t.sequenceInv
  link : s.recordsInv → s.linkInv → t.linkInv
  pool : s.poolInv → t.poolInv
  authority : s.authorityInv → t.authorityInv

theorem Keeps.refl (s : State) : Keeps s s := ⟨id, fun _ => id, fun _ => id, id, id⟩

theorem Keeps.trans {s t u : State} (h : Keeps s t) (h' : Keeps t u) : Keeps s u :=
  ⟨fun r => h'.records (h.records r), fun r q => h'.sequence (h.records r) (h.sequence r q),
    fun r l => h'.link (h.records r) (h.link r l), fun p => h'.pool (h.pool p), fun a => h'.authority (h.authority a)⟩

/-! ### The store queue -/

theorem Nvs.ok_iff (n : Nvs) : n.ok = true ↔ n.store.ok = true ∧ (∀ c ∈ n.queue, c.ok = true) ∧ ∀ w, n.writing = some w → w.content.ok = true := by
  cases hw : n.writing <;> simp [Nvs.ok, hw, and_assoc]

theorem Nvs.kick_ok {n : Nvs} (h : n.ok = true) : n.kick.ok = true := by
  obtain ⟨store, queue, writing⟩ := n.ok_iff.mp h
  rcases n.kick_cases with e | ⟨c, rest, -, hq, e⟩
  · rwa [e]
  · rw [Nvs.ok_iff, e]
    exact ⟨store, fun d hd => queue d (hq ▸ List.mem_cons_of_mem _ hd), fun w hw => by cases hw; exact queue c (hq ▸ List.mem_cons_self)⟩

theorem Nvs.kick_nodup {n : Nvs} (h : (n.queue.map Content.id).Nodup) : (n.kick.queue.map Content.id).Nodup := by
  rcases n.kick_cases with e | ⟨c, rest, -, hq, e⟩
  · rwa [e]
  · rw [hq, List.map_cons, List.nodup_cons] at h
    rw [e]
    exact h.2

theorem Nvs.place_ok {n : Nvs} {c : Content} (h : n.ok = true) (hc : c.ok = true) : (n.place c).ok = true := by
  obtain ⟨store, queue, writing⟩ := n.ok_iff.mp h
  refine Nvs.kick_ok ?_
  rw [Nvs.ok_iff]
  split
  · refine ⟨store, fun d hd => ?_, writing⟩
    obtain ⟨e, he, rfl⟩ := List.mem_map.mp hd
    split
    · exact hc
    · exact queue e he
  · refine ⟨store, fun d hd => ?_, writing⟩
    rcases List.mem_append.mp hd with hd | hd
    · exact queue d hd
    · rw [List.mem_singleton.mp hd]; exact hc

theorem Nvs.place_nodup {n : Nvs} {c : Content} (h : (n.queue.map Content.id).Nodup) : ((n.place c).queue.map Content.id).Nodup := by
  refine Nvs.kick_nodup ?_
  split
  · have : (n.queue.map fun e => if e.id == c.id then c else e).map Content.id = n.queue.map Content.id := by
      rw [List.map_map]
      refine List.map_congr_left fun e _ => ?_
      simp only [Function.comp]
      split
      · next he => exact (beq_iff_eq.mp he).symm
      · rfl
    rw [this]; exact h
  · next hn =>
    simp only [List.any_eq_true, beq_iff_eq, not_exists, not_and] at hn
    rw [List.map_append, List.nodup_append]
    refine ⟨h, by simp, ?_⟩
    simp only [List.mem_map, List.map_cons, List.map_nil, List.mem_singleton]
    rintro _ ⟨e, he, rfl⟩ _ rfl
    exact hn e he

/-! ### The parts of the records' invariant -/

section Parts
variable {s : State}

theorem State.recordsInv.withNvs (h : s.recordsInv) {n : Nvs} (hn : n.ok = true) (hq : (n.queue.map Content.id).Nodup) :
    State.recordsInv { s with nvs := n } := by
  obtain ⟨-, -, rest⟩ := h
  exact ⟨hn, hq, rest⟩

theorem State.recordsInv.withSqc (h : s.recordsInv) {q : Sqc} (ha : q.active.ok = true) (hs : q.staged.all Settings.ok = true) :
    State.recordsInv { s with sqc := q } := by
  obtain ⟨nvs, queue, -, -, rest⟩ := h
  exact ⟨nvs, queue, ha, hs, rest⟩

theorem State.recordsInv.withOeb (h : s.recordsInv) {o : Oeb} (h1 : o.u1.ok = true) (h2 : o.u2.ok = true) :
    State.recordsInv { s with oeb := o } := by
  obtain ⟨nvs, queue, active, staged, -, -, rest⟩ := h
  exact ⟨nvs, queue, active, staged, h1, h2, rest⟩

theorem State.recordsInv.withAu (h : s.recordsInv) {a : Au} (ht : a.tags.all Tag.ok = true) (hp : a.placements ≤ 4294967295) :
    State.recordsInv { s with au := a } := by
  obtain ⟨nvs, queue, active, staged, u1, u2, -, -, rest⟩ := h
  exact ⟨nvs, queue, active, staged, u1, u2, ht, hp, rest⟩

theorem State.recordsInv.withMdr (h : s.recordsInv) {m : Mdr} (hm : m.settings.ok = true) : State.recordsInv { s with mdr := m } := by
  obtain ⟨nvs, queue, active, staged, u1, u2, tags, placements, -, rest⟩ := h
  exact ⟨nvs, queue, active, staged, u1, u2, tags, placements, hm, rest⟩

theorem State.recordsInv.withOru (h : s.recordsInv) {o : Oru} (hc : o.counters.ok = true) (hr : o.ring.length ≤ 32) :
    State.recordsInv { s with oru := o } := by
  obtain ⟨nvs, queue, active, staged, u1, u2, tags, placements, mechanism, -, -, rest⟩ := h
  exact ⟨nvs, queue, active, staged, u1, u2, tags, placements, mechanism, hc, hr, rest⟩

theorem State.recordsInv.withBcu (h : s.recordsInv) {b : Bcu} (hb : b.stored.ok = true) : State.recordsInv { s with bcu := b } := by
  obtain ⟨nvs, queue, active, staged, u1, u2, tags, placements, mechanism, counters, ring, -, rest⟩ := h
  exact ⟨nvs, queue, active, staged, u1, u2, tags, placements, mechanism, counters, ring, hb, rest⟩

theorem State.recordsInv.withRpu (h : s.recordsInv) {r : Rpu} (hl : r.settings.ok = true) (ha : r.answers.length ≤ 4) :
    State.recordsInv { s with rpu := r } := by
  obtain ⟨nvs, queue, active, staged, u1, u2, tags, placements, mechanism, counters, ring, battery, -, tracker, c, p, -⟩ := h
  exact ⟨nvs, queue, active, staged, u1, u2, tags, placements, mechanism, counters, ring, battery, hl, tracker, c, p, ha⟩

theorem State.recordsInv.withLmu (h : s.recordsInv) {l : Lmu} (hl : l.settings.ok = true) : State.recordsInv { s with lmu := l } := by
  obtain ⟨nvs, queue, active, staged, u1, u2, tags, placements, mechanism, counters, ring, battery, link, -, rest⟩ := h
  exact ⟨nvs, queue, active, staged, u1, u2, tags, placements, mechanism, counters, ring, battery, link, hl, rest⟩

theorem State.recordsInv.withPorts (h : s.recordsInv) {p : Ports} (hc : p.cAnswers.length ≤ 4) (hp : p.pAnswers.length ≤ 4) :
    State.recordsInv { s with ports := p } := by
  obtain ⟨nvs, queue, active, staged, u1, u2, tags, placements, mechanism, counters, ring, battery, link, tracker, -, -, answers⟩ := h
  exact ⟨nvs, queue, active, staged, u1, u2, tags, placements, mechanism, counters, ring, battery, link, tracker, hc, hp, answers⟩

theorem State.recordsInv.nvs (h : s.recordsInv) : s.nvs.ok = true ∧ (s.nvs.queue.map Content.id).Nodup := by
  obtain ⟨nvs, queue, -⟩ := h
  exact ⟨nvs, queue⟩

theorem State.recordsInv.sqc (h : s.recordsInv) : s.sqc.active.ok = true ∧ s.sqc.staged.all Settings.ok = true := by
  obtain ⟨-, -, active, staged, -⟩ := h
  exact ⟨active, staged⟩

theorem State.recordsInv.oeb (h : s.recordsInv) : s.oeb.u1.ok = true ∧ s.oeb.u2.ok = true := by
  obtain ⟨-, -, -, -, u1, u2, -⟩ := h
  exact ⟨u1, u2⟩

theorem State.recordsInv.au (h : s.recordsInv) : s.au.tags.all Tag.ok = true ∧ s.au.placements ≤ 4294967295 := by
  obtain ⟨-, -, -, -, -, -, tags, placements, -⟩ := h
  exact ⟨tags, placements⟩

theorem State.recordsInv.mdr (h : s.recordsInv) : s.mdr.settings.ok = true := by
  obtain ⟨-, -, -, -, -, -, -, -, mechanism, -⟩ := h
  exact mechanism

theorem State.recordsInv.oru (h : s.recordsInv) : s.oru.counters.ok = true ∧ s.oru.ring.length ≤ 32 := by
  obtain ⟨-, -, -, -, -, -, -, -, -, counters, ring, -⟩ := h
  exact ⟨counters, ring⟩

theorem State.recordsInv.bcu (h : s.recordsInv) : s.bcu.stored.ok = true := by
  obtain ⟨-, -, -, -, -, -, -, -, -, -, -, battery, -⟩ := h
  exact battery

theorem State.recordsInv.rpu (h : s.recordsInv) : s.rpu.settings.ok = true ∧ s.rpu.answers.length ≤ 4 := by
  obtain ⟨-, -, -, -, -, -, -, -, -, -, -, -, link, -, -, -, answers⟩ := h
  exact ⟨link, answers⟩

theorem State.recordsInv.lmu (h : s.recordsInv) : s.lmu.settings.ok = true := by
  obtain ⟨-, -, -, -, -, -, -, -, -, -, -, -, -, tracker, -⟩ := h
  exact tracker

theorem State.recordsInv.ports (h : s.recordsInv) : s.ports.cAnswers.length ≤ 4 ∧ s.ports.pAnswers.length ≤ 4 := by
  obtain ⟨-, -, -, -, -, -, -, -, -, -, -, -, -, -, c, p, -⟩ := h
  exact ⟨c, p⟩

end Parts

/-! ### A record's content -/

/-- A tag slot's number is one of the eight (R91). -/
def RecordId.known : RecordId → Prop
  | .tagSlot n => n < 8
  | _ => True

theorem within_iff {lo hi n : Nat} : within lo hi n = true ↔ lo ≤ n ∧ n ≤ hi := by simp [within]

theorem State.content_ok {s : State} (h : s.recordsInv) {id : RecordId} (hid : id.known) : (s.content id).ok = true := by
  cases id with
  | activeSettings => exact h.sqc.1
  | userCurve1 => exact h.oeb.1
  | userCurve2 => exact h.oeb.2
  | tagSlot n =>
    have tags := h.au.1
    rw [List.all_eq_true] at tags
    have slot : n < 8 := hid
    simp only [State.content, Content.ok, Bool.and_eq_true, within_iff]
    refine ⟨by omega, ?_⟩
    cases hf : s.au.tags.find? fun t => t.slot == n with
    | none => rfl
    | some t => exact tags t (List.mem_of_find?_eq_some hf)
  | authority => rfl
  | mechanism => exact h.mdr
  | counters => exact h.oru.1
  | recordRing => exact within_iff.mpr ⟨Nat.zero_le _, h.oru.2⟩
  | battery => exact h.bcu
  | link => exact h.rpu.1
  | tracker => exact h.lmu
  | shutdownMark => rfl

/-! ### Shared operations -/

section Shared
variable {s₀ s : State}

theorem Keeps.clock (h : Keeps s₀ s) (c : Clock) : Keeps s₀ { s with clock := c } :=
  h.trans ⟨id, fun _ => id, fun _ => id, id, id⟩

theorem Keeps.reach (h : Keeps s₀ s) (t : Nat) : Keeps s₀ (s.reach t) := h.clock _

theorem Keeps.free (h : Keeps s₀ s) (n : Nat) : Keeps s₀ { s with freeIndex := n } :=
  h.trans ⟨id, fun _ => id, fun _ => id, id, id⟩

theorem Keeps.queue (h : Keeps s₀ s) (l : List Instr) : Keeps s₀ { s with pending := l } :=
  h.trans ⟨id, fun _ => id, fun _ => id, id, id⟩

theorem Keeps.bcu (h : Keeps s₀ s) (b : Bcu) (hb : b.stored = s.bcu.stored) : Keeps s₀ { s with bcu := b } :=
  h.trans ⟨fun r => r.withBcu (hb ▸ r.bcu), fun _ => id, fun _ => id, id, id⟩

theorem Keeps.stored (h : Keeps s₀ s) (b : Bcu) (hb : s.bcu.stored.ok = true → b.stored.ok = true) : Keeps s₀ { s with bcu := b } :=
  h.trans ⟨fun r => r.withBcu (hb r.bcu), fun _ => id, fun _ => id, id, id⟩

theorem Keeps.mdr (h : Keeps s₀ s) (m : Mdr) (hm : m.settings = s.mdr.settings) : Keeps s₀ { s with mdr := m } :=
  h.trans ⟨fun r => r.withMdr (hm ▸ r.mdr), fun _ => id, fun _ => id, id, id⟩

theorem Keeps.oeb (h : Keeps s₀ s) (o : Oeb) (h1 : o.u1 = s.oeb.u1) (h2 : o.u2 = s.oeb.u2) : Keeps s₀ { s with oeb := o } :=
  h.trans ⟨fun r => r.withOeb (h1 ▸ r.oeb.1) (h2 ▸ r.oeb.2), fun _ => id, fun _ => id, id, id⟩

theorem Keeps.lmu (h : Keeps s₀ s) (l : Lmu) (hl : l.settings = s.lmu.settings) : Keeps s₀ { s with lmu := l } :=
  h.trans ⟨fun r => r.withLmu (hl ▸ r.lmu), fun _ => id, fun _ => id, id, id⟩

theorem Keeps.ports (h : Keeps s₀ s) (p : Ports) (hc : p.cAnswers = s.ports.cAnswers) (hp : p.pAnswers = s.ports.pAnswers) :
    Keeps s₀ { s with ports := p } :=
  h.trans ⟨fun r => r.withPorts (hc ▸ r.ports.1) (hp ▸ r.ports.2), fun _ => id, fun _ => id, id, id⟩

/-- What of the RPU the invariants do not read. -/
theorem Keeps.rpu (h : Keeps s₀ s) (r : Rpu) (hl : r.settings = s.rpu.settings) (ha : r.answers.length ≤ s.rpu.answers.length)
    (hs : r.score = s.rpu.score) (ht : r.standing = s.rpu.standing) (hp : s.rpu.poolOk → r.poolOk) : Keeps s₀ { s with rpu := r } :=
  h.trans ⟨fun i => i.withRpu (hl ▸ i.rpu.1) (ha.trans i.rpu.2), fun _ => id,
    fun _ i => by unfold State.linkInv at *; simpa only [hl, hs, ht] using i, hp, id⟩

theorem Keeps.nvs (h : Keeps s₀ s) (n : Nvs) (hn : s.nvs.ok = true → n.ok = true)
    (hq : (s.nvs.queue.map Content.id).Nodup → (n.queue.map Content.id).Nodup) : Keeps s₀ { s with nvs := n } :=
  h.trans ⟨fun r => r.withNvs (hn r.nvs.1) (hq r.nvs.2), fun _ => id, fun _ => id, id, id⟩

theorem Keeps.oru (h : Keeps s₀ s) (o : Oru) (hc : s.oru.counters.ok = true → o.counters.ok = true)
    (hr : s.oru.ring.length ≤ 32 → o.ring.length ≤ 32) : Keeps s₀ { s with oru := o } :=
  h.trans ⟨fun r => r.withOru (hc r.oru.1) (hr r.oru.2), fun _ => id, fun _ => id, id, id⟩

theorem Keeps.raise (h : Keeps s₀ s) (f : Flag) : Keeps s₀ (s.raise f) := h.ports _ rfl rfl

theorem Rpu.unpooled_parts {r r' : Rpu} (h : r'.unpooled = r.unpooled) :
    r'.settings = r.settings ∧ r'.answers = r.answers ∧ r'.score = r.score ∧ r'.standing = r.standing := by
  simp only [Rpu.unpooled, Rpu.mk.injEq] at h
  tauto

theorem Keeps.pooled (h : Keeps s₀ s) (r : Rpu) (hr : r.unpooled = s.rpu.unpooled) (hp : s.rpu.poolOk → r.poolOk) :
    Keeps s₀ { s with rpu := r } := by
  obtain ⟨settings, answers, score, standing⟩ := Rpu.unpooled_parts hr
  exact h.rpu r settings (le_of_eq (congrArg _ answers)) score standing hp

theorem Keeps.alarm (h : Keeps s₀ s) (id : AlarmId) (payload : List Byte) : Keeps s₀ (s.alarm id payload) :=
  h.pooled _ (s.rpu.alarm_unpooled _ _ _) fun p => Rpu.alarm_poolOk p _ _ _

theorem Keeps.event (h : Keeps s₀ s) (kind : EventKind) (payload : List Byte) : Keeps s₀ (s.event kind payload) :=
  h.pooled _ (s.rpu.event_unpooled _ _ _) fun p => Rpu.event_poolOk p _ _ _

theorem Keeps.snapshot (h : Keeps s₀ s) (set : MeasureSet) : Keeps s₀ (s.snapshot set) :=
  h.pooled _ (s.rpu.snapshot_unpooled _ _ _) fun p => Rpu.snapshot_poolOk p _ _ _

theorem Keeps.place (h : Keeps s₀ s) (record : RecordId) (hid : record.known := by trivial) : Keeps s₀ (s.place record) :=
  h.trans ⟨fun r => r.withNvs (Nvs.place_ok r.nvs.1 (State.content_ok r hid)) (Nvs.place_nodup r.nvs.2), fun _ => id, fun _ => id, id, id⟩

theorem Keeps.answer (h : Keeps s₀ s) (port : Port) (a : Answer) : Keeps s₀ (s.answer port a) := by
  refine h.trans ?_
  cases port with
  | c => exact ⟨fun r => r.withPorts (pushAnswer_length_le r.ports.1) r.ports.2, fun _ => id, fun _ => id, id, id⟩
  | p => exact ⟨fun r => r.withPorts r.ports.1 (pushAnswer_length_le r.ports.2), fun _ => id, fun _ => id, id, id⟩
  | l => exact ⟨fun r => r.withRpu r.rpu.1 (pushAnswer_length_le r.rpu.2), fun _ => id, fun _ => id, id, id⟩

theorem Keeps.rejudge (h : Keeps s₀ s) : Keeps s₀ s.rejudge := by
  obtain ⟨radio, holdoff, wait, received, e⟩ := s.rejudge_spec
  rw [e]
  have supply : Keeps s₀ { s with rpu := { s.rpu with radio := radio, holdoff := holdoff, channelWait := wait } } :=
    h.rpu _ rfl le_rfl rfl rfl fun p => p
  exact supply.ports _ rfl rfl

end Shared
end Sys2Proof.Machine
end

section
/-! PROOFS. What every operation keeps, block by block: records, line, link and battery. -/

namespace Sys2Proof.Machine

section Blocks
variable {s₀ s : State}

/-! ### Operation records (R160 to R166) -/

theorem satSucc_le (limit n : Nat) : satSucc limit n ≤ limit := by
  unfold satSucc; omega

theorem Counters.ok_iff (c : Counters) : c.ok = true ↔ c.total ≤ 9999999 ∧ c.protTrips ≤ 9999999 ∧ c.lockouts ≤ 9999999
    ∧ c.wear.a ≤ 4294967295 ∧ c.wear.b ≤ 4294967295 ∧ c.wear.c ≤ 4294967295 ∧ c.limit ≤ 4000000000 ∧ c.next ≤ 65535 := by
  simp [Counters.ok, within, and_assoc]

theorem Counters.tally_ok {c : Counters} (h : c.ok = true) (kind : RecordKind) : (c.tally kind).ok = true := by
  rw [Counters.ok_iff] at h ⊢
  obtain ⟨total, trips, lockouts, rest⟩ := h
  have le := satSucc_le counterLimit
  simp only [counterLimit] at le
  refine ⟨?_, ?_, ?_, rest⟩ <;> simp only [Counters.tally, counterLimit] <;> split <;> first | exact le _ | assumption

theorem wearAdd_le (wear amps : Nat) : wearAdd wear amps ≤ 4294967295 := min_le_left _ _

theorem Counters.wearOut_ok {c : Counters} (h : c.ok = true) (currents : Option Currents) : (c.wearOut currents).ok = true := by
  unfold Counters.wearOut
  split
  · rw [Counters.ok_iff] at h ⊢
    obtain ⟨total, trips, lockouts, -, -, -, rest⟩ := h
    exact ⟨total, trips, lockouts, wearAdd_le _ _, wearAdd_le _ _, wearAdd_le _ _, rest⟩
  · exact h

theorem Keeps.takeNumber (h : Keeps s₀ s) : Keeps s₀ s.takeNumber.1 := by
  refine h.oru _ (fun c => ?_) fun r => r
  rw [Counters.ok_iff] at c ⊢
  obtain ⟨total, trips, lockouts, a, b, c, limit, -⟩ := c
  have : (s.oru.counters.next + 1) % 65536 ≤ 65535 := by omega
  exact ⟨total, trips, lockouts, a, b, c, limit, this⟩

theorem Keeps.reserve (h : Keeps s₀ s) : Keeps s₀ s.reserve.1 := h.takeNumber.place .counters

theorem Keeps.judgeWear (h : Keeps s₀ s) : Keeps s₀ s.judgeWear := by
  have marked : Keeps s₀ { s with oru := { s.oru with counters := { s.oru.counters with marks := s.oru.counters.marksAfter } } } :=
    h.oru _ (fun c => c) fun r => r
  have ask {t : State} (ht : Keeps s₀ t) (c : Prop) [Decidable c] (payload : List Byte) :
      Keeps s₀ (if c then t.alarm .wearLimit payload else t) := by
    split
    · exact ht.alarm _ _
    · exact ht
  exact ask (ask (ask marked _ _) _ _) _ _

theorem Keeps.record (h : Keeps s₀ s) (r : OpRecord) : Keeps s₀ (s.record r) := by
  unfold State.record
  dsimp only
  have written : Keeps s₀ { s with oru := ⟨pushRing 32 { r with time := s.stamp, shotAfter := s.sqc.shot } s.oru.ring,
      (s.oru.counters.tally r.kind).wearOut r.currents⟩ } :=
    h.oru _ (fun c => Counters.wearOut_ok (Counters.tally_ok c _) _) pushRing_length_le
  split
  · exact (written.judgeWear.place .counters).place .recordRing
  · exact (written.place .counters).place .recordRing

theorem Keeps.newRecord (h : Keeps s₀ s) (kind : RecordKind) (origin : Origin) (element : Option Element) (currents : Option Currents)
    (energy : Option Nat) : Keeps s₀ (s.newRecord kind origin element currents energy).1 := h.takeNumber.record _

/-! ### The line -/

theorem Keeps.setTracker (h : Keeps s₀ s) (t : Tracker) (period : Nat) : Keeps s₀ (s.setTracker t period) := by
  have moved : Keeps s₀ { s with lmu := { s.lmu with tracker := t, period := period } } := h.lmu _ rfl
  exact (moved.raise _).event _ _

theorem Keeps.lockTo (h : Keeps s₀ s) (c : Channel) : Keeps s₀ (s.lockTo c) := h.setTracker _ _

theorem Keeps.keepLock (h : Keeps s₀ s) : Keeps s₀ s.keepLock := by
  unfold State.keepLock
  split
  · split
    · exact h
    · split
      · exact h.lockTo _
      · exact h.setTracker _ _
  · exact h

theorem Keeps.tryLock (h : Keeps s₀ s) : Keeps s₀ s.tryLock := by
  unfold State.tryLock
  split
  · exact h
  · split
    · exact h.lockTo _
    · exact h

theorem Keeps.measureLine (h : Keeps s₀ s) (r : Readings) : Keeps s₀ (s.measureLine r) := by
  unfold State.measureLine
  dsimp only
  refine Keeps.lmu ?_ _ rfl
  refine Keeps.keepLock ?_
  exact h.lmu _ rfl

theorem Keeps.followSource (h : Keeps s₀ s) (c : Channel) : Keeps s₀ (s.followSource c) := by
  unfold State.followSource
  split
  · exact h.lmu _ rfl
  · exact h

/-! ### The link: score, standing and failed attempts -/

/-- The RPU after its score is set: the standing follows, and leaving GOOD empties the queue of snapshots (R150). -/
theorem State.setScore_rpu (n : Nat) (s : State) : ∃ standing q probe,
    (s.setScore n).rpu = { s.rpu with score := n, standing := standing, qMeasure := q, probe := probe }
      ∧ standing = standingOf s.rpu.settings.warnLevel n ∧ q.Sublist s.rpu.qMeasure := by
  unfold State.setScore State.restand
  dsimp only
  split
  · next e => exact ⟨_, _, _, rfl, e.symm, .refl _⟩
  · refine ⟨_, _, _, rfl, rfl, ?_⟩
    split
    · exact List.nil_sublist _
    · exact .refl _

/-- A part whose RPU alone differs, with its settings and answers kept, its score in range, its standing right and its pool in order. -/
theorem Keeps.relink (h : Keeps s₀ s) (t : State) (ht : t = { s with rpu := t.rpu, ports := t.ports })
    (hf : t.ports.unflagged = s.ports.unflagged) (hl : t.rpu.settings = s.rpu.settings)
    (ha : t.rpu.answers.length ≤ s.rpu.answers.length)
    (hs : s.rpu.score ≤ 255 → s.rpu.standing = standingOf s.rpu.settings.warnLevel s.rpu.score →
      t.rpu.score ≤ 255 ∧ t.rpu.standing = standingOf s.rpu.settings.warnLevel t.rpu.score)
    (hp : s.rpu.poolOk → t.rpu.poolOk) : Keeps s₀ t := by
  have ports : t.ports.cAnswers = s.ports.cAnswers ∧ t.ports.pAnswers = s.ports.pAnswers := by
    simp only [Ports.unflagged, Ports.mk.injEq] at hf
    tauto
  have linked : Keeps s₀ { s with rpu := t.rpu } :=
    h.trans ⟨fun i => i.withRpu (hl ▸ i.rpu.1) (ha.trans i.rpu.2), fun _ => id,
      fun _ ⟨i1, i2⟩ => by
        obtain ⟨h1, h2⟩ := hs i1 i2
        exact ⟨h1, by rw [h2, ← hl]⟩, hp, id⟩
  rw [ht]
  exact linked.ports _ ports.1 ports.2

theorem State.setScore_rest (n : Nat) (s : State) : s.setScore n = { s with rpu := (s.setScore n).rpu, ports := (s.setScore n).ports } := by
  unfold State.setScore State.restand
  dsimp only
  split <;> rfl

/-- A report charged a failed attempt, from a queue or from flight (R147): `x` and what is left of the pool were objects of a pool in order. -/
theorem Keeps.chargeFrom (h : Keeps s₀ s) {r : Rpu} (single : Bool) (x : Report) (hl : r.settings = s.rpu.settings)
    (ha : r.answers = s.rpu.answers) (hp : s.rpu.poolOk → r.poolOk)
    (hx : s.rpu.poolOk → (x.key :: (r.takeOut x).used.map Report.key).Subperm (s.rpu.used.map Report.key)) :
    Keeps s₀ (State.charge single x { s with rpu := r }) := by
  obtain ⟨standing, q, probe, e, hst, hq⟩ := State.setScore_rpu (min 255 (r.score + 8)) { s with rpu := r.takeOut x }
  have rest := State.setScore_rest (min 255 (r.score + 8)) { s with rpu := r.takeOut x }
  have flags : (State.setScore (min 255 (r.score + 8)) { s with rpu := r.takeOut x }).ports.unflagged = s.ports.unflagged := by simp
  have charged : State.charge single x { s with rpu := r } =
      { (State.setScore (min 255 (r.score + 8)) { s with rpu := r.takeOut x }) with
        rpu := (State.setScore (min 255 (r.score + 8)) { s with rpu := r.takeOut x }).rpu.dispose
          (State.setScore (min 255 (r.score + 8)) { s with rpu := r.takeOut x }).now single { x with attempts := satSucc 8 x.attempts } } := rfl
  have same {now : Nat} {r : Rpu} {x : Report} : (r.dispose now single x).score = r.score ∧ (r.dispose now single x).standing = r.standing
      ∧ (r.dispose now single x).settings = r.settings ∧ (r.dispose now single x).answers = r.answers := by
    have := Rpu.unpooled_parts (Rpu.dispose_unpooled now single x r)
    tauto
  obtain ⟨hscore, hstanding, hsettings, hanswers⟩ :=
    same (now := (State.setScore (min 255 (r.score + 8)) { s with rpu := r.takeOut x }).now)
      (r := (State.setScore (min 255 (r.score + 8)) { s with rpu := r.takeOut x }).rpu) (x := { x with attempts := satSucc 8 x.attempts })
  refine h.relink _ ?_ ?_ ?_ ?_ ?_ ?_
  · rw [charged]; rw [rest]
  · rw [charged]; exact flags
  · rw [charged]; exact hsettings.trans (by rw [e]; exact hl)
  · rw [charged]; exact le_of_eq (congrArg _ (hanswers.trans (by rw [e]; exact ha)))
  · intro i1 i2
    rw [charged]
    refine ⟨hscore.trans_le (by rw [e]; exact min_le_left _ _), hstanding.trans ?_⟩
    rw [hscore, e]
    exact hst.trans (by rw [← hl]; rfl)
  · intro p
    rw [charged]
    refine Rpu.dispose_poolOk p ?_ ?_ _ _
    · rw [e]
      exact Rpu.poolOk_of_sublists (hp p) (without_sublist _ _) (without_sublist _ _) (hq.trans (without_sublist _ _)) (.refl _)
        (without_sublist _ _)
    · refine List.Subperm.trans ((List.subperm_cons _).mpr ?_) (hx p)
      rw [e]
      refine (List.Sublist.map _ ?_).subperm
      exact ((((List.Sublist.refl _).append (.refl _)).append hq).append (.refl _)).append (.refl _)

theorem Rpu.takeOut_sublist (x : Report) (r : Rpu) : (r.takeOut x).used.Sublist r.used :=
  ((((without_sublist x _).append (without_sublist x _)).append (without_sublist x _)).append (.refl _)).append (without_sublist x _)

/-- The pool with the report in flight taken out of it. -/
theorem Rpu.landed_subperm {r : Rpu} {x : Report} (hx : r.inFlight = some x) (f : Rpu → Rpu)
    (hf : (f r).used = r.qAlarm ++ r.qEvent ++ r.qMeasure ++ r.held) :
    (x.key :: ((f r).takeOut x).used.map Report.key).Subperm (r.used.map Report.key) := by
  refine List.Subperm.trans ((List.subperm_cons _).mpr ((Rpu.takeOut_sublist x (f r)).map Report.key).subperm) (List.Perm.subperm ?_)
  rw [← List.map_cons, hf]
  refine List.Perm.map _ ?_
  have := (List.perm_middle (a := x) (l₁ := r.qAlarm ++ r.qEvent ++ r.qMeasure) (l₂ := r.held)).symm
  simpa [Rpu.used, hx, List.append_assoc] using this

theorem Keeps.chargeInFlight (h : Keeps s₀ s) : Keeps s₀ s.chargeInFlight := by
  unfold State.chargeInFlight
  split
  · next x hx =>
    refine h.chargeFrom (r := { s.rpu with inFlight := none, singleTrial := false, ackTimer := none }) _ x rfl rfl
      (fun p => Rpu.poolOk_of_sublists p (.refl _) (.refl _) (.refl _) (List.nil_sublist _) (.refl _)) fun _ => ?_
    exact Rpu.landed_subperm hx (fun r => { r with inFlight := none, singleTrial := false, ackTimer := none }) (by simp [Rpu.used])
  · exact h

theorem Keeps.acknowledge (h : Keeps s₀ s) (n : Nat) : Keeps s₀ (s.acknowledge n) := by
  unfold State.acknowledge
  split
  · next x hx =>
    split
    · generalize hn : (if s.rpu.standing = .silent then 150 else s.rpu.score - 1) = score
      obtain ⟨standing, q, probe, e, hst, hq⟩ :=
        State.setScore_rpu score { s with rpu := { s.rpu with inFlight := none, singleTrial := false, ackTimer := none } }
      have rest := State.setScore_rest score { s with rpu := { s.rpu with inFlight := none, singleTrial := false, ackTimer := none } }
      refine h.relink _ ?_ ?_ ?_ ?_ ?_ ?_
      · rw [rest]
      · simp
      · change (State.setScore _ _).rpu.settings = _
        rw [e]
      · change (State.setScore _ _).rpu.answers.length ≤ _
        rw [e]
      · intro i1 _
        change (State.setScore _ _).rpu.score ≤ 255 ∧ (State.setScore _ _).rpu.standing = standingOf _ (State.setScore _ _).rpu.score
        rw [e]
        refine ⟨?_, hst⟩
        change score ≤ 255
        subst hn
        split <;> omega
      · intro p
        refine Rpu.releaseHeld_poolOk ?_
        rw [e]
        exact Rpu.poolOk_of_sublists p (.refl _) (.refl _) hq (List.nil_sublist _) (.refl _)
    · exact h
  · exact h

theorem Keeps.tierToRpu (h : Keeps s₀ s) (old new : Tier) : Keeps s₀ (s.tierToRpu old new) := by
  refine h.rpu _ rfl le_rfl rfl rfl fun p => Rpu.poolOk_of_sublists p (.refl _) (.refl _) ?_ (.refl _) (.refl _)
  dsimp only
  split
  · exact List.nil_sublist _
  · exact .refl _

/-- The RPU's timers and marks that no invariant reads. -/
theorem Keeps.lastCall (h : Keeps s₀ s) (c : LastCall) : Keeps s₀ { s with rpu := { s.rpu with lastCall := c } } :=
  h.rpu _ rfl le_rfl rfl rfl fun p => p

theorem Keeps.askLastCall (h : Keeps s₀ s) : Keeps s₀ s.askLastCall := h.chargeInFlight.lastCall _

theorem Keeps.takeSnapshots (h : Keeps s₀ s) : Keeps s₀ s.takeSnapshots := by
  unfold State.takeSnapshots
  split
  · exact (((h.snapshot _).snapshot _).snapshot _).snapshot _
  · exact h

/-! ### Attributes and the verdict (R128, R129) -/

theorem Keeps.judgeVerdict (h : Keeps s₀ s) : Keeps s₀ s.judgeVerdict := by
  unfold State.judgeVerdict
  dsimp only
  split
  · exact h
  · have judged : Keeps s₀ (s.withBcu fun b => { b with failing := !s.bcu.stored.prefailing.isEmpty }) := h.bcu _ rfl
    split
    · exact (judged.alarm _ _).raise _
    · exact judged.event _ _

theorem clampInt_range {lo hi n : Int} (h : lo ≤ hi) : lo ≤ clampInt lo hi n ∧ clampInt lo hi n ≤ hi := by
  unfold clampInt; omega

theorem HealthAttribute.update_ok {a : HealthAttribute} (h : a.ok = true) (raw normalized : Int) : (a.update raw normalized).ok = true := by
  obtain ⟨lo, hi⟩ := clampInt_range (lo := 1) (hi := 253) (n := normalized) (by decide)
  simp only [HealthAttribute.ok, Bool.and_eq_true, within_iff, HealthAttribute.update] at h ⊢
  omega

/-- What keeps the attributes in range. -/
def Attributes.Safe (f : Attributes → Attributes) : Prop := ∀ a : Attributes, a.ok = true → (f a).ok = true

theorem Attributes.ok_iff (a : Attributes) : a.ok = true ↔ a.resistance.ok = true ∧ a.loadMargin.ok = true ∧ a.failures.ok = true
    ∧ a.floatCurrent.ok = true ∧ a.deepDischarges.ok = true ∧ a.days.ok = true ∧ a.hotHours.ok = true ∧ a.rechargeTime.ok = true := by
  simp [Attributes.ok, and_assoc]

/-- A change of one health value, by an update of it. -/
theorem Attributes.safe_of (f : Attributes → Attributes) (hf : ∀ a, ∃ raw normalized : Int,
      f a = { a with resistance := a.resistance.update raw normalized } ∨ f a = { a with loadMargin := a.loadMargin.update raw normalized }
      ∨ f a = { a with failures := a.failures.update raw normalized } ∨ f a = { a with floatCurrent := a.floatCurrent.update raw normalized }
      ∨ f a = { a with deepDischarges := a.deepDischarges.update raw normalized } ∨ f a = { a with days := a.days.update raw normalized }
      ∨ f a = { a with hotHours := a.hotHours.update raw normalized } ∨ f a = { a with rechargeTime := a.rechargeTime.update raw normalized }) :
    Attributes.Safe f := by
  intro a h
  obtain ⟨raw, normalized, e⟩ := hf a
  rw [Attributes.ok_iff] at h ⊢
  obtain ⟨a1, a2, a3, a4, a5, a6, a7, a8⟩ := h
  rcases e with e | e | e | e | e | e | e | e <;> rw [e] <;> simp [HealthAttribute.update_ok, *]

theorem Attributes.safe_setResistance (rated r : Nat) : Attributes.Safe (·.setResistance rated r) :=
  Attributes.safe_of _ fun _ => ⟨_, _, .inl rfl⟩
theorem Attributes.safe_setMargin (raw : Int) : Attributes.Safe (·.setMargin raw) := Attributes.safe_of _ fun _ => ⟨_, _, .inr (.inl rfl)⟩
theorem Attributes.safe_setFailures (raw : Nat) : Attributes.Safe (·.setFailures raw) :=
  Attributes.safe_of _ fun _ => ⟨_, _, .inr (.inr (.inl rfl))⟩
theorem Attributes.safe_setFloatCurrent (raw : Nat) : Attributes.Safe (·.setFloatCurrent raw) :=
  Attributes.safe_of _ fun _ => ⟨_, _, .inr (.inr (.inr (.inl rfl)))⟩
theorem Attributes.safe_setDeep (raw : Nat) : Attributes.Safe (·.setDeep raw) :=
  Attributes.safe_of _ fun _ => ⟨_, _, .inr (.inr (.inr (.inr (.inl rfl))))⟩
theorem Attributes.safe_setDays (raw : Nat) : Attributes.Safe (·.setDays raw) :=
  Attributes.safe_of _ fun _ => ⟨_, _, .inr (.inr (.inr (.inr (.inr (.inl rfl)))))⟩
theorem Attributes.safe_setHotHours (raw : Nat) : Attributes.Safe (·.setHotHours raw) :=
  Attributes.safe_of _ fun _ => ⟨_, _, .inr (.inr (.inr (.inr (.inr (.inr (.inl rfl))))))⟩
theorem Attributes.safe_setRecharge (raw : Nat) : Attributes.Safe (·.setRecharge raw) :=
  Attributes.safe_of _ fun _ => ⟨_, _, .inr (.inr (.inr (.inr (.inr (.inr (.inr rfl))))))⟩

theorem BatteryRecord.ok_iff (b : BatteryRecord) : b.ok = true ↔ b.settings.ok = true ∧ b.attributes.ok = true ∧ b.history.length ≤ 8
    ∧ b.deep ≤ 65535 ∧ b.hot ≤ 65535 ∧ b.days ≤ 65535 ∧ b.fails ≤ 255 := by
  simp [BatteryRecord.ok, within, and_assoc]

theorem Keeps.withStored (h : Keeps s₀ s) (f : BatteryRecord → BatteryRecord) (hf : ∀ b : BatteryRecord, b.ok = true → (f b).ok = true) :
    Keeps s₀ (s.withStored f) := h.stored _ (hf _)

theorem Keeps.attributes (h : Keeps s₀ s) {f : Attributes → Attributes} (hf : Attributes.Safe f) : Keeps s₀ (s.withAttributes f) := by
  refine h.withStored _ fun b hb => ?_
  rw [BatteryRecord.ok_iff] at hb ⊢
  exact ⟨hb.1, hf _ hb.2.1, hb.2.2⟩

theorem Keeps.attributeUpdate (h : Keeps s₀ s) {f : Attributes → Attributes} (hf : Attributes.Safe f) : Keeps s₀ (s.attributeUpdate f) :=
  ((h.attributes hf).judgeVerdict).place .battery

theorem Keeps.testUpdate (h : Keeps s₀ s) {f : Attributes → Attributes} (hf : Attributes.Safe f) : Keeps s₀ (s.testUpdate f) :=
  (h.attributes hf).judgeVerdict

/-- A saturated count of the battery record. -/
theorem Keeps.count (h : Keeps s₀ s) (f : BatteryRecord → BatteryRecord)
    (hf : ∀ b, ∃ deep hot days fails, f b = { b with deep := deep, hot := hot, days := days, fails := fails }
      ∧ (deep = b.deep ∨ deep ≤ 65535) ∧ (hot = b.hot ∨ hot ≤ 65535) ∧ (days = b.days ∨ days ≤ 65535) ∧ (fails = b.fails ∨ fails ≤ 255)) :
    Keeps s₀ (s.withStored f) := by
  refine h.withStored _ fun b hb => ?_
  obtain ⟨deep, hot, days, fails, e, h1, h2, h3, h4⟩ := hf b
  rw [BatteryRecord.ok_iff] at hb ⊢
  rw [e]
  obtain ⟨settings, attributes, history, rest⟩ := hb
  refine ⟨settings, attributes, history, ?_⟩
  dsimp only
  omega

theorem Keeps.closeFloatWindow (h : Keeps s₀ s) : Keeps s₀ s.closeFloatWindow := by
  have cleared : Keeps s₀ (s.withBcu fun b => { b with floatSum := 0, floatCount := 0 }) := h.bcu _ rfl
  exact cleared.attributeUpdate (Attributes.safe_setFloatCurrent _)

theorem Keeps.closeHotHour (h : Keeps s₀ s) : Keeps s₀ s.closeHotHour := by
  have cleared : Keeps s₀ (s.withBcu fun b => { b with hotCount := 0 }) := h.bcu _ rfl
  have counted := cleared.count (fun b => { b with hot := satSucc 65535 s.bcu.stored.hot })
    fun b => ⟨_, _, _, _, rfl, .inl rfl, .inr (satSucc_le _ _), .inl rfl, .inl rfl⟩
  exact counted.attributeUpdate (Attributes.safe_setHotHours _)

/-! ### The load test (R122 to R127) -/

theorem Keeps.releaseHold (h : Keeps s₀ s) (port : Option Port) (body : List Byte) : Keeps s₀ (s.releaseHold port body) := by
  unfold State.releaseHold
  split
  · split
    · exact (h.ports { s.ports with cHold := none } rfl rfl).answer .c _
    · exact h
  · split
    · exact (h.ports { s.ports with pHold := none } rfl rfl).answer .p _
    · exact h
  · exact h

theorem Keeps.announce (h : Keeps s₀ s) (e : TestEntry) (port : Option Port) {updates : State → State}
    (hu : ∀ t, Keeps s₀ t → Keeps s₀ (updates t)) : Keeps s₀ (s.announce e port updates) := by
  have entered : Keeps s₀ (s.withStored fun b => { b with history := pushRing 8 e b.history }) := by
    refine h.withStored _ fun b hb => ?_
    rw [BatteryRecord.ok_iff] at hb ⊢
    obtain ⟨settings, attributes, history, rest⟩ := hb
    exact ⟨settings, attributes, pushRing_length_le history, rest⟩
  exact ((((hu _ entered).place .battery).event _ _).raise _).releaseHold _ _

theorem Keeps.leaveTest (h : Keeps s₀ s) : Keeps s₀ s.leaveTest := by
  have idle : Keeps s₀ (s.withBcu fun b => { b with test := none, loadOn := false }) := h.bcu _ rfl
  have clear := idle.withStored (fun b => { b with pending := false }) fun _ h => h
  refine clear.bcu _ ?_
  unfold Bcu.toBulk
  rfl

theorem Keeps.abortTest (h : Keeps s₀ s) (cause : TestCause) : Keeps s₀ (s.abortTest cause) := by
  unfold State.abortTest
  split
  · exact h.leaveTest.announce _ _ fun _ k => k
  · exact h

theorem Keeps.suspendTest (h : Keeps s₀ s) : Keeps s₀ s.suspendTest := by
  unfold State.suspendTest
  split
  · next r _ =>
    split
    · exact h
    · have counted : Keeps s₀ (s.withBcu fun b => { b with test := some { r with suspensions := r.suspensions + 1 }, loadOn := false }) :=
        h.bcu _ rfl
      dsimp only
      split
      · exact counted.abortTest _
      · exact counted.bcu _ rfl
  · exact h

theorem Keeps.resumeTest (h : Keeps s₀ s) : Keeps s₀ s.resumeTest := by
  unfold State.resumeTest
  split
  · split
    · split
      · exact h
      · exact h.bcu _ rfl
    · exact h
  · exact h

theorem Keeps.startTest (h : Keeps s₀ s) (mode : TestMode) (port : Option Port) : Keeps s₀ (s.startTest mode port) := by
  have started : Keeps s₀ (s.withBcu fun b => { b with
      test := some ⟨mode, port, .rest (s.now + restTime), 0, none⟩, charger := .testHold, loadOn := false, nextAttempt := none }) := h.bcu _ rfl
  exact (started.withStored (fun b => { b with pending := true }) fun _ h => h).place .battery

theorem Keeps.endRest (h : Keeps s₀ s) (v : Nat) : Keeps s₀ (s.endRest v) := by
  unfold State.endRest
  split
  · next r _ =>
    have read : Keeps s₀ (s.withBcu fun b => { b with test := some { r with vRest := some v } }) := h.bcu _ rfl
    dsimp only
    split
    · exact read.suspendTest
    · exact read.bcu _ rfl
  · exact h

theorem Keeps.failsAndDays (h : Keeps s₀ s) {n : Nat} (hn : n ≤ 255) :
    Keeps s₀ (((s.withStored fun b => { b with fails := n }).testUpdate (·.setFailures n)).testUpdate (·.setDays 0)) := by
  have counted := h.count (fun b => { b with fails := n }) fun b => ⟨b.deep, b.hot, b.days, n, rfl, .inl rfl, .inl rfl, .inl rfl, .inr hn⟩
  exact (counted.testUpdate (Attributes.safe_setFailures n)).testUpdate (Attributes.safe_setDays 0)

theorem Keeps.testUpdates (h : Keeps s₀ s) (res : TestResult) (v : Nat) : Keeps s₀ (s.testUpdates res v) := by
  have fails : (if res.outcome = .pass then 0 else satSucc 255 s.bcu.stored.fails) ≤ 255 := by
    split
    · omega
    · exact satSucc_le _ _
  unfold State.testUpdates
  dsimp only
  generalize (if res.outcome = .pass then 0 else satSucc 255 s.bcu.stored.fails) = n at fails ⊢
  split
  · exact ((h.testUpdate (Attributes.safe_setResistance _ _)).testUpdate (Attributes.safe_setMargin _)).failsAndDays fails
  · exact h.failsAndDays fails

theorem Keeps.endLoad (h : Keeps s₀ s) (v : Nat) (i : Int) : Keeps s₀ (s.endLoad v i) := by
  unfold State.endLoad
  split
  · have restarted : Keeps s₀ (s.leaveTest.withBcu (·.restartDays s.now)) := h.leaveTest.bcu _ rfl
    have days := restarted.count (fun b => { b with days := 0 }) fun b => ⟨_, _, _, _, rfl, .inl rfl, .inl rfl, .inr (by omega), .inl rfl⟩
    exact days.announce _ _ fun t ht => ht.testUpdates _ _
  · exact h

/-! ### Notices, schedule, shutdown and tier -/

theorem Keeps.operationStarted (h : Keeps s₀ s) : Keeps s₀ s.operationStarted :=
  Keeps.suspendTest (h.bcu { s.bcu with opInFlight := true } rfl)

theorem Keeps.operationEnded (h : Keeps s₀ s) : Keeps s₀ s.operationEnded :=
  Keeps.resumeTest (h.bcu { s.bcu with opInFlight := false } rfl)

theorem Keeps.rechargeStarted (h : Keeps s₀ s) : Keeps s₀ s.rechargeStarted :=
  Keeps.suspendTest (h.bcu { s.bcu with recharging := true } rfl)

theorem Keeps.rechargeStopped (h : Keeps s₀ s) (duration : Option Nat) : Keeps s₀ (s.rechargeStopped duration) := by
  have stopped : Keeps s₀ (s.withBcu fun b => { b with recharging := false }) := h.bcu _ rfl
  unfold State.rechargeStopped
  dsimp only
  split
  · exact (stopped.attributeUpdate (Attributes.safe_setRecharge _)).resumeTest
  · exact stopped.resumeTest

theorem Keeps.attempt (h : Keeps s₀ s) (retry : Bool) : Keeps s₀ (s.attempt retry) := by
  unfold State.attempt
  split
  · exact h.startTest _ _
  · exact h.bcu _ rfl

theorem Keeps.dayPassed (h : Keeps s₀ s) : Keeps s₀ s.dayPassed := by
  have next : Keeps s₀ (s.withBcu fun b => { b with nextDay := b.nextDay + day }) := h.bcu _ rfl
  have counted := (next.count (fun b => { b with days := satSucc 65535 s.bcu.stored.days })
    fun b => ⟨_, _, _, _, rfl, .inl rfl, .inl rfl, .inr (satSucc_le _ _), .inl rfl⟩).attributeUpdate
      (Attributes.safe_setDays (satSucc 65535 s.bcu.stored.days))
  unfold State.dayPassed
  dsimp only
  split
  · exact counted.attempt _
  · exact counted

theorem Keeps.stopRecharge (h : Keeps s₀ s) : Keeps s₀ s.stopRecharge :=
  Keeps.rechargeStopped (h.mdr { s.mdr with rechargeSince := none } rfl) _

theorem Keeps.writeMark (h : Keeps s₀ s) : Keeps s₀ s.writeMark := by
  have marked : Keeps s₀ { s with nvs := ({ s.nvs with queue := [.shutdownMark true] } : Nvs).kick } := by
    refine h.nvs _ (fun n => Nvs.kick_ok ?_) fun _ => Nvs.kick_nodup (by simp)
    rw [Nvs.ok_iff] at n ⊢
    exact ⟨n.1, by simp [Content.ok], n.2.2⟩
  exact marked.bcu { s.bcu with shutdown := .mark } rfl

theorem Keeps.drainStore (h : Keeps s₀ s) : Keeps s₀ s.drainStore := by
  unfold State.drainStore
  split
  · split
    · exact h.writeMark
    · exact h
  · exact h

theorem Keeps.radioDone (h : Keeps s₀ s) : Keeps s₀ s.radioDone := by
  unfold State.radioDone
  split
  · exact Keeps.drainStore (h.bcu { s.bcu with shutdown := .store (s.now + shutdownStoreTime) } rfl)
  · exact h

theorem Keeps.beginShutdown (h : Keeps s₀ s) : Keeps s₀ s.beginShutdown := by
  have off : Keeps s₀ (s.withBcu fun b => { b with charger := .off }) := h.bcu _ rfl
  exact off.stopRecharge.askLastCall.bcu _ rfl

theorem Keeps.tierToTest (h : Keeps s₀ s) (new : Tier) : Keeps s₀ (s.tierToTest new) := by
  unfold State.tierToTest
  split
  · split
    · exact h
    · split
      · exact h
      · exact h.abortTest _
  · exact h

theorem Keeps.setTier (h : Keeps s₀ s) (new : Tier) : Keeps s₀ (s.setTier new) := by
  unfold State.setTier
  dsimp only
  split
  · exact h
  have entered : Keeps s₀ (s.withBcu fun b => { b with tier := new }) := h.bcu _ rfl
  have told := (entered.tierToRpu s.bcu.tier new).tierToTest new
  have alarmed {t : State} (ht : Keeps s₀ t) : Keeps s₀ (match new.alarm with
      | some id => if decide (s.bcu.tier.rank < new.rank) then t.alarm id (t.bcu.vAndT ++ [acCode t.bcu.acPresent]) else t
      | none => t) := by
    split
    · split
      · exact ht.alarm _ _
      · exact ht
    · exact ht
  have counted {t : State} (ht : Keeps s₀ t) (c : Prop) [Decidable c] : Keeps s₀ (if c then
      (t.withStored fun b => { b with deep := satSucc 65535 t.bcu.stored.deep }).attributeUpdate
        (·.setDeep (satSucc 65535 t.bcu.stored.deep)) else t) := by
    split
    · exact (ht.count _ fun b => ⟨_, _, _, _, rfl, .inr (satSucc_le _ _), .inl rfl, .inl rfl, .inl rfl⟩).attributeUpdate
        (Attributes.safe_setDeep _)
    · exact ht
  have cleared {t : State} (ht : Keeps s₀ t) : Keeps s₀ (if new = .normal then t.event .tierCleared (be 2 t.bcu.v) else t) := by
    split
    · exact ht.event _ _
    · exact ht
  have ended {t : State} (ht : Keeps s₀ t) : Keeps s₀ (if new = .disconnect then t.beginShutdown else t) := by
    split
    · exact ht.beginShutdown
    · exact ht
  exact ended ((cleared (counted (alarmed told) _)).raise _)

/-! ### The battery measurement and the AC supply -/

theorem Keeps.tierStep (h : Keeps s₀ s) : Keeps s₀ s.tierStep :=
  Keeps.setTier (h.bcu { s.bcu with disconnectSince := s.bcu.disconnectStep s.now } rfl) _

theorem Keeps.floatStep (h : Keeps s₀ s) : Keeps s₀ s.floatStep := by
  unfold State.floatStep
  dsimp only
  split
  · split
    · exact h.closeFloatWindow.bcu _ rfl
    · exact h.bcu _ rfl
  · exact h

theorem Keeps.hotStep (h : Keeps s₀ s) : Keeps s₀ s.hotStep := by
  unfold State.hotStep
  dsimp only
  split
  · split
    · exact h.closeHotHour.bcu _ rfl
    · exact h.bcu _ rfl
  · exact h

theorem Bcu.toBulk_stored (b : Bcu) : b.toBulk.stored = b.stored := rfl

theorem Bcu.leaveOff_stored (b : Bcu) : b.leaveOff.stored = b.stored := by
  unfold Bcu.leaveOff; split <;> rfl

theorem Bcu.putOff_stored (b : Bcu) : b.putOff.stored = b.stored := by
  unfold Bcu.putOff; split <;> rfl

theorem Bcu.chargerStep_stored (now : Nat) (b : Bcu) : (b.chargerStep now).stored = b.stored := by
  unfold Bcu.chargerStep
  dsimp only
  repeat' split
  all_goals rfl

theorem Bcu.thermalStep_stored (b : Bcu) : b.thermalStep.stored = b.stored := by
  unfold Bcu.thermalStep
  dsimp only
  split
  · exact Bcu.putOff_stored _
  · exact Bcu.leaveOff_stored _

theorem Keeps.measureBattery (h : Keeps s₀ s) (v : Nat) (i t : Int) : Keeps s₀ (s.measureBattery v i t) := by
  have read : Keeps s₀ (s.withBcu fun b => (b.read s.now v i t).thermalStep) := h.bcu _ (Bcu.thermalStep_stored _)
  unfold State.measureBattery
  dsimp only
  refine Keeps.bcu ?_ _ rfl
  split
  · exact read.hotStep
  · exact (Keeps.tierStep (read.bcu _ (Bcu.chargerStep_stored _ _))).floatStep.hotStep

theorem Keeps.announceAcLost (h : Keeps s₀ s) : Keeps s₀ s.announceAcLost := (h.alarm _ _).raise _

theorem Keeps.acReading (h : Keeps s₀ s) (present : Bool) : Keeps s₀ (s.acReading present) := by
  have taken : Keeps s₀ (s.withBcu fun b => { b with acQualified := true, acPresent := present }) := h.bcu _ rfl
  have stopped : Keeps s₀ ((s.withBcu fun b => { b with acQualified := true, acPresent := present }).withBcu fun b =>
      { b with disconnectSince := none }) := taken.bcu _ rfl
  unfold State.acReading
  dsimp only
  split
  · split
    · split
      · exact stopped.bcu _ (Bcu.leaveOff_stored _)
      · exact (stopped.event _ _).bcu _ (Bcu.leaveOff_stored _)
    · exact taken
  · split
    · exact Keeps.announceAcLost ((taken.abortTest _).bcu _ (Bcu.putOff_stored _))
    · split
      · exact taken.announceAcLost
      · exact taken

end Blocks
end Sys2Proof.Machine
end

section
/-! PROOFS. What every operation keeps, block by block: authority, sequence and mechanism. -/

namespace Sys2Proof.Machine

/-! ### Checked records -/

theorem firstBad_none {n : Nat} {l : List Bool} : firstBad n l = none ↔ ∀ b ∈ l, b = true := by
  induction l generalizing n with
  | nil => simp [firstBad]
  | cons b rest ih => cases b <;> simp [firstBad, ih]

theorem badField_none {count : Nat} {checks : (Nat → Nat) → List Bool} {fields : List Nat} :
    badField count checks fields = none ↔ fields.length = count ∧ ∀ b ∈ checks fun k => fields.getD (k - 1) 0, b = true := by
  unfold badField
  split
  · next h => simp [h, firstBad_none]
  · next h => simp [h]

/-- The number of trips of a record in range (Table 3-1). -/
theorem Settings.ok_trips {s : Settings} (h : s.ok = true) : 1 ≤ s.trips ∧ s.trips ≤ 4 := by
  simp only [Settings.ok, Option.isNone_iff_eq_none, badField_none] at h
  have := h.2 (within 1 4 s.trips) (by simp [settingsChecks, Settings.fields, CurveChoice.fields])
  exact within_iff.mp this

section Blocks
variable {s₀ s : State}

/-! ### Authority -/

/-- A change of the AU that keeps its tags. -/
theorem Keeps.au (h : Keeps s₀ s) (a : Au) (ht : a.tags = s.au.tags) (hp : a.placements = s.au.placements)
    (hi : s.authorityInv → State.authorityInv { s with au := a }) : Keeps s₀ { s with au := a } :=
  h.trans ⟨fun r => r.withAu (ht ▸ r.au.1) (hp ▸ r.au.2), fun _ => id, fun _ => id, id, hi⟩

theorem Panel.cancel_isRunning (cause : CancelCause) (p : Panel) : (p.cancel cause).isRunning = false := by
  cases p <;> rfl

theorem Keeps.clearSelection (h : Keeps s₀ s) : Keeps s₀ s.clearSelection := by
  refine h.au _ rfl rfl fun ⟨length, slots, slot, kinds, selection, panel⟩ => ?_
  exact ⟨length, slots, slot, kinds, fun _ => rfl, panel⟩

theorem Keeps.cancelPanel (h : Keeps s₀ s) (cause : CancelCause) : Keeps s₀ (s.cancelPanel cause) := by
  refine h.au _ rfl rfl fun ⟨length, slots, slot, kinds, selection, panel⟩ => ?_
  exact ⟨length, slots, slot, kinds, selection, fun _ => Panel.cancel_isRunning _ _⟩

theorem Keeps.dropCloses (h : Keeps s₀ s) (cause : CancelCause) : Keeps s₀ (s.dropCloses cause) := h.clearSelection.cancelPanel cause

theorem Keeps.announceTags (h : Keeps s₀ s) : Keeps s₀ s.announceTags := (h.alarm _ _).raise _

/-- A change of the control mode, with the pending closes dropped (R89). -/
theorem Keeps.newMode (h : Keeps s₀ s) (mode : ControlMode) (taken : Bool) :
    Keeps s₀ ((s.withAu fun a => { a with mode := mode, modeTaken := taken }).dropCloses .mode) := by
  refine h.trans ⟨fun r => r.withAu r.au.1 r.au.2, fun _ => id, fun _ => id, id, fun ⟨length, slots, slot, kinds, _, _⟩ => ?_⟩
  exact ⟨length, slots, slot, kinds, fun _ => rfl, fun _ => Panel.cancel_isRunning _ _⟩

theorem Keeps.changeMode (h : Keeps s₀ s) (mode : ControlMode) : Keeps s₀ (s.changeMode mode) :=
  ((h.newMode mode s.au.modeTaken).raise _).event _ _

/-! ### The sequence -/

/-- The sequence's invariant, of the SQC that holds it. -/
def Sqc.inv (q : Sqc) : Prop := q.shotOk ∧ q.shot ≤ q.active.trips ∧ (q.reported = false → q.sequence = .opened ∧ q.shot = 0)

theorem State.sequenceInv_iff (s : State) : s.sequenceInv ↔ s.sqc.inv := Iff.rfl

theorem Keeps.sqc (h : Keeps s₀ s) (q : Sqc) (ha : q.active = s.sqc.active) (hs : q.staged = s.sqc.staged)
    (hq : s.sqc.active.ok = true → s.sqc.inv → q.inv) : Keeps s₀ { s with sqc := q } :=
  h.trans ⟨fun r => r.withSqc (ha ▸ r.sqc.1) (hs ▸ r.sqc.2), fun r => hq r.sqc.1, fun _ => id, id, id⟩

/-- A sequence state that asks no more of the shot counter than N, once the first report has come. -/
theorem Sqc.inv.moved {q : Sqc} (h : q.inv) (hr : q.reported = true) (w : Sequence)
    (hw : q.shot ≤ q.active.trips → Sqc.shotOk { q with sequence := w }) : Sqc.inv { q with sequence := w } := by
  obtain ⟨-, shot, -⟩ := h
  exact ⟨hw shot, shot, by simp [hr]⟩

theorem Keeps.setSequence (h : Keeps s₀ s) (w : Sequence) (hr : s.sqc.inv → s.sqc.reported = true)
    (hw : s.sqc.inv → Sqc.shotOk { s.sqc with sequence := w }) : Keeps s₀ (s.setSequence w) :=
  h.sqc _ rfl rfl fun _ i => i.moved (hr i) w fun _ => hw i

theorem Keeps.activate (h : Keeps s₀ s) {staged : Settings} (hs : s.sqc.staged = some staged) (hq : s.sqc.quiet = true) :
    Keeps s₀ (s.activate staged) := by
  have active : Keeps s₀ { s with sqc := { s.sqc with active := staged, staged := none, shot := min s.sqc.shot staged.trips } } := by
    refine h.trans ⟨fun r => r.withSqc ?_ rfl, fun _ i => ?_, fun _ => id, id, id⟩
    · simpa [hs] using r.sqc.2
    · obtain ⟨ok, -, report⟩ := i
      refine ⟨?_, min_le_right _ _, fun hr => ?_⟩
      · unfold Sqc.shotOk at ok ⊢
        unfold Sqc.quiet at hq
        dsimp only at ok ⊢
        cases hw : s.sqc.sequence <;> simp_all
      · obtain ⟨o, z⟩ := report hr
        exact ⟨o, by dsimp only; omega⟩
  exact ((active.place .activeSettings).raise _).event _ _

theorem Keeps.activationTest (h : Keeps s₀ s) : Keeps s₀ s.activationTest := by
  rcases s.activationTest_cases with e | ⟨staged, hs, hq, e⟩
  · rwa [e]
  · rw [e]; exact h.activate hs hq

theorem Keeps.enterLockout (h : Keeps s₀ s) (cause : LockoutCause) (origin : Origin) (hr : s.sqc.inv → s.sqc.reported = true) :
    Keeps s₀ (s.enterLockout cause origin) := by
  unfold State.enterLockout
  split
  · exact h
  · have locked : Keeps s₀ (s.setSequence (.lockout cause)) := h.setSequence _ hr fun i => by exact i.2.1
    exact (((locked.newRecord _ _ _ _ _).raise _).alarm _ _).activationTest

/-- In every state but OPEN the first report has come (R63). -/
theorem Sqc.inv.reported {q : Sqc} (h : q.inv) (hq : q.sequence ≠ .opened) : q.reported = true := by
  obtain ⟨-, -, report⟩ := h
  cases hr : q.reported
  · exact absurd (report hr).1 hq
  · rfl

theorem Keeps.tripStarted (h : Keeps s₀ s) (origins : List Origin) : Keeps s₀ (s.tripStarted origins) := by
  unfold State.tripStarted
  split
  · exact h
  · next hr =>
    have reported : s.sqc.inv → s.sqc.reported = true := fun _ => by simp_all
    split
    any_goals exact h
    any_goals exact h.enterLockout _ _ reported
    all_goals exact h.setSequence _ reported fun i => by exact i.2.1

theorem Keeps.tripCompleted (h : Keeps s₀ s) (hr : s.sqc.reported = true) : Keeps s₀ s.tripCompleted := by
  unfold State.tripCompleted
  split
  · split
    · exact h.enterLockout _ _ fun _ => hr
    · next hotLine _ hc =>
      refine h.setSequence _ (fun _ => hr) fun _ => ?_
      unfold State.lockoutCause at hc
      split at hc
      · cases hc
      · next more => exact Nat.lt_of_not_le more
  · exact (h.setSequence _ (fun _ => hr) fun i => by exact i.2.1).activationTest
  · exact h.enterLockout _ _ fun _ => hr
  · exact h.enterLockout _ _ fun _ => hr
  · exact h

theorem Keeps.tripEnded (h : Keeps s₀ s) (outcome : OpOutcome) : Keeps s₀ (s.tripEnded outcome) := by
  unfold State.tripEnded
  split
  · exact h
  · next hr =>
    have reported : s.sqc.reported = true := by simpa using hr
    split
    any_goals exact h.tripCompleted reported
    any_goals exact h.enterLockout _ _ fun _ => reported
    exact h

theorem Keeps.closeStarted (h : Keeps s₀ s) (origin : Origin) : Keeps s₀ (s.closeStarted origin) := by
  unfold State.closeStarted
  split
  · exact h
  · next hr =>
    split
    any_goals exact h
    all_goals exact h.setSequence _ (fun _ => by simp_all) fun i => by exact i.2.1

/-- RECLAIM, with fewer shots than trips. -/
theorem Keeps.startReclaim (h : Keeps s₀ s) (hr : s.sqc.inv → s.sqc.reported = true)
    (hs : s.sqc.inv → s.sqc.shot < s.sqc.active.trips) : Keeps s₀ s.startReclaim :=
  h.setSequence _ hr fun i => hs i

theorem Keeps.enterReady (h : Keeps s₀ s) (hr : s.sqc.inv → s.sqc.reported = true) : Keeps s₀ s.enterReady := by
  have ready : Keeps s₀ { s with sqc := { s.sqc with sequence := .ready, shot := 0, afterCommand := false } } :=
    h.sqc _ rfl rfl fun _ i => ⟨rfl, Nat.zero_le _, by simp [hr i]⟩
  exact ready.activationTest

theorem Keeps.closeCompleted (h : Keeps s₀ s) : Keeps s₀ s.closeCompleted := by
  unfold State.closeCompleted
  split
  · next kind hk =>
    have reported (i : s.sqc.inv) : s.sqc.reported = true := i.reported (by simp [hk])
    split
    · exact h.enterReady reported
    · split
      · refine h.startReclaim reported fun i => ?_
        have ok := i.1
        unfold Sqc.shotOk at ok
        simpa [hk] using ok
      · refine h.sqc _ rfl rfl fun ok i => ?_
        have trips := (Settings.ok_trips ok).1
        exact ⟨trips, Nat.zero_le _, by simp [reported i]⟩
  · exact h

theorem Keeps.closeEnded (h : Keeps s₀ s) (outcome : OpOutcome) : Keeps s₀ (s.closeEnded outcome) := by
  unfold State.closeEnded
  split
  · exact h
  · next hr =>
    have reported : s.sqc.reported = true := by simpa using hr
    split
    any_goals exact h.closeCompleted
    any_goals exact h.enterLockout _ _ fun _ => reported
    exact h

theorem Keeps.pauseReclaim (h : Keeps s₀ s) : Keeps s₀ s.pauseReclaim := by
  have moved (w : ReclaimTimer) {w' : ReclaimTimer} (hq : s.sqc.sequence = .reclaim w') : Keeps s₀ (s.setSequence (.reclaim w)) := by
    refine h.setSequence _ (fun i => i.reported (by simp [hq])) fun i => ?_
    have ok := i.1
    unfold Sqc.shotOk at ok ⊢
    simpa [hq] using ok
  unfold State.pauseReclaim
  split
  · next hq =>
    split
    · exact moved _ hq
    · exact h
  · next hq =>
    split
    · exact h
    · exact moved _ hq
  · exact h

theorem Keeps.externallyOpened (h : Keeps s₀ s) : Keeps s₀ s.externallyOpened := by
  unfold State.externallyOpened
  split
  · next ho =>
    refine h.setSequence _ (fun _ => ?_) fun i => by exact i.2.1
    simp only [Sqc.openedByHand, Bool.and_eq_true] at ho
    exact ho.1
  · exact h

theorem Keeps.latchNoticed (h : Keeps s₀ s) : Keeps s₀ s.latchNoticed := by
  unfold State.latchNoticed
  split
  · exact h
  · split
    any_goals exact h.enterLockout _ _ fun _ => by simp_all
    exact h

theorem Keeps.coordinate (h : Keeps s₀ s) (notices : List Notice) : Keeps s₀ (s.coordinate notices) := by
  unfold State.coordinate
  split
  · next hm _ =>
    simp only [State.mayAdvance, Bool.and_eq_true, decide_eq_true_eq] at hm
    obtain ⟨⟨⟨⟨⟨reported, -⟩, -⟩, -⟩, -⟩, shots⟩ := hm
    have advanced : Keeps s₀ ((s.setShot (s.sqc.shot + 1)).startReclaim) :=
      h.sqc _ rfl rfl fun _ _ => ⟨shots, le_of_lt shots, by simp [reported]⟩
    exact (advanced.newRecord _ _ _ _ _).event _ _
  · exact h

theorem Keeps.tagToSequence (h : Keeps s₀ s) : Keeps s₀ s.tagToSequence := by
  unfold State.tagToSequence
  split
  · exact h
  · next hr =>
    have reported : s.sqc.inv → s.sqc.reported = true := fun _ => by simpa using hr
    split
    any_goals exact h.enterReady reported
    any_goals exact h.enterLockout _ _ reported
    all_goals exact h

theorem Keeps.tagsToOeb (h : Keeps s₀ s) : Keeps s₀ s.tagsToOeb := by
  unfold State.tagsToOeb
  dsimp only
  split
  · exact h
  · have selected : Keeps s₀ { s with oeb := s.oeb.select (s.au.tags.any Tag.isHotLine) } := h.oeb _ rfl rfl
    exact selected.sqc { s.sqc with picked := false } rfl rfl fun _ i => i

/-- The first report, before which the SQC stands in OPEN with the counter at 0 (R63). -/
theorem Keeps.takeReport (h : Keeps s₀ s) (poles : Poles) (hr : s.sqc.reported = false) : Keeps s₀ (s.takeReport poles) := by
  have reported (w : Sequence) (hw : w = .ready ∨ w = .opened) :
      Keeps s₀ { s with sqc := { s.sqc with reported := true, sequence := w } } := by
    refine h.sqc _ rfl rfl fun _ i => ?_
    obtain ⟨-, -, start⟩ := i
    obtain ⟨-, z⟩ := start hr
    refine ⟨?_, ?_, by simp⟩
    · rcases hw with rfl | rfl <;> simp [Sqc.shotOk, z]
    · simp [z]
  unfold State.takeReport
  dsimp only
  split
  · exact (reported .ready (.inl rfl)).activationTest
  · split
    · exact (reported .opened (.inr rfl)).activationTest
    · refine Keeps.enterLockout ?_ _ _ fun _ => rfl
      refine h.sqc _ rfl rfl fun _ i => ⟨i.1, i.2.1, by simp⟩

/-! ### The mechanism -/

theorem Keeps.withMdr (h : Keeps s₀ s) (f : Mdr → Mdr) (hf : (f s.mdr).settings = s.mdr.settings) : Keeps s₀ (s.withMdr f) := h.mdr _ hf

theorem Keeps.setLatch (h : Keeps s₀ s) : Keeps s₀ s.setLatch := by
  unfold State.setLatch
  split
  · exact h
  · have set : Keeps s₀ (s.withMdr fun m => { m.stopWatches with latch := true }) := h.withMdr _ (by rfl)
    exact (set.raise _).place .mechanism

theorem Keeps.mechanismAlarm (h : Keeps s₀ s) (cause : MechCause) (number : Option Nat) : Keeps s₀ (s.mechanismAlarm cause number) :=
  h.alarm _ _

theorem Keeps.discordanceAlarm (h : Keeps s₀ s) (number : Option Nat) : Keeps s₀ (s.discordanceAlarm number) := h.alarm _ _

theorem Keeps.beginTrip (h : Keeps s₀ s) (origin : Origin) (element : Option Element) (currents : Currents) :
    Keeps s₀ (s.beginTrip origin element currents) := by
  unfold State.beginTrip
  dsimp only
  refine Keeps.operationStarted (Keeps.dropCloses (Keeps.tripStarted (Keeps.oeb ?_ _ (by rfl) (by rfl)) _) _)
  split
  · exact Keeps.raise (h.reserve.withMdr _ (by rfl)) _
  · exact h.reserve.withMdr _ (by rfl)

theorem Keeps.beginClose (h : Keeps s₀ s) (origin : Origin) : Keeps s₀ (s.beginClose origin) := by
  unfold State.beginClose
  dsimp only
  exact Keeps.operationStarted (Keeps.closeStarted (h.reserve.withMdr _ (by rfl)) _)

theorem Keeps.retrip (h : Keeps s₀ s) (op : Operation) : Keeps s₀ (s.retrip op) := by
  unfold State.retrip
  dsimp only
  exact Keeps.oeb (h.withMdr _ (by rfl)) _ (by rfl) (by rfl)

theorem Keeps.handOff (h : Keeps s₀ s) (outcome : OpOutcome) (op : Operation) : Keeps s₀ (s.handOff outcome op) := by
  have fault {t : State} (ht : Keeps s₀ t) : Keeps s₀ (if outcome.isFault then t.raise .mechFault else t) := by
    split
    · exact ht.raise _
    · exact ht
  unfold State.handOff
  dsimp only
  cases op.kind with
  | trip => exact fault ((((h.tripEnded _).record _).event _ _).raise _)
  | close => exact fault ((((h.closeEnded _).record _).event _ _).raise _)

theorem Keeps.endOperation (h : Keeps s₀ s) (outcome : OpOutcome) (op : Operation) : Keeps s₀ (s.endOperation outcome op) :=
  Keeps.operationEnded (Keeps.handOff (h.withMdr _ (by rfl)) _ _)

theorem Keeps.cutClose (h : Keeps s₀ s) (origin : Origin) (element : Option Element) (currents : Currents) (op : Operation) :
    Keeps s₀ (s.cutClose origin element currents op) :=
  Keeps.handOff (Keeps.beginTrip (h.withMdr _ (by rfl)) _ _ _) _ _

theorem Keeps.requestTripWith (h : Keeps s₀ s) (origin : Origin) (element : Option Element) (currents : Currents) :
    Keeps s₀ (s.requestTripWith origin element currents) := by
  unfold State.requestTripWith
  split
  · exact h.beginTrip _ _ _
  · split
    · split
      · exact h
      · exact h.withMdr _ (by rfl)
    · exact h.cutClose _ _ _ _

theorem Keeps.requestTrip (h : Keeps s₀ s) (origin : Origin) : Keeps s₀ (s.requestTrip origin) := h.requestTripWith _ _ _

theorem Keeps.requestClose (h : Keeps s₀ s) (origin : Origin) : Keeps s₀ (s.requestClose origin).1 := by
  rcases s.requestClose_cases origin with ⟨-, e⟩ | ⟨-, e⟩ <;> rw [e]
  · exact h.beginClose _
  · exact h

theorem Keeps.tagToMechanism (h : Keeps s₀ s) : Keeps s₀ s.tagToMechanism := by
  unfold State.tagToMechanism
  split
  · split
    · exact h.cutClose _ _ _ _
    · exact h
  · exact h

theorem Keeps.tripOpened (h : Keeps s₀ s) (op : Operation) : Keeps s₀ (s.tripOpened op) := h.endOperation _ _

theorem Keeps.toPhase (h : Keeps s₀ s) (phase : Phase) (op : Operation) : Keeps s₀ (s.toPhase phase op) := h.withMdr _ (by rfl)

theorem Keeps.tripPulseOver (h : Keeps s₀ s) : Keeps s₀ s.tripPulseOver := by
  have ended (op : Operation) (phase : Phase) : Keeps s₀ (if (s.reach (op.pulseStart + tripPulse)).mdr.poles.allOpen then
      (s.reach (op.pulseStart + tripPulse)).tripOpened op else (s.reach (op.pulseStart + tripPulse)).toPhase phase op) := by
    split
    · exact (h.reach _).tripOpened _
    · exact (h.reach _).toPhase _ _
  unfold State.tripPulseOver
  split
  · split
    · split
      · exact ended _ _
      · exact ended _ _
      · exact h
    · exact h
  · exact h

theorem Keeps.tripWindowOver (h : Keeps s₀ s) : Keeps s₀ s.tripWindowOver := by
  have ended {t : State} (ht : Keeps s₀ t) : Keeps s₀ (match t.mdr.op with
      | some op => if (t.reach (op.pulseStart + tripWindow)).mdr.poles.allOpen then (t.reach (op.pulseStart + tripWindow)).tripOpened op
        else (t.reach (op.pulseStart + tripWindow)).retrip op
      | none => t) := by
    split
    · split
      · exact (ht.reach _).tripOpened _
      · exact (ht.reach _).retrip _
    · exact ht
  unfold State.tripWindowOver
  dsimp only
  split
  · split
    · refine ended ?_
      split
      · exact h.tripPulseOver
      · exact h
    · exact h
  · exact h

theorem Keeps.retripWindowOver (h : Keeps s₀ s) : Keeps s₀ s.retripWindowOver := by
  have ended {t : State} (ht : Keeps s₀ t) : Keeps s₀ (match t.mdr.op with
      | some op => if (t.reach (op.pulseStart + tripWindow)).mdr.poles.allOpen then (t.reach (op.pulseStart + tripWindow)).tripOpened op
        else (((t.reach (op.pulseStart + tripWindow)).setLatch.discordanceAlarm (some op.number)).mechanismAlarm .tripFailed
          (some op.number)).endOperation .discordant op
      | none => t) := by
    split
    · split
      · exact (ht.reach _).tripOpened _
      · exact (((ht.reach _).setLatch.discordanceAlarm _).mechanismAlarm _ _).endOperation _ _
    · exact ht
  unfold State.retripWindowOver
  dsimp only
  split
  · split
    · refine ended ?_
      split
      · exact h.tripPulseOver
      · exact h
    · exact h
  · exact h

theorem Keeps.closePulseOver (h : Keeps s₀ s) : Keeps s₀ s.closePulseOver := by
  unfold State.closePulseOver
  split
  · split
    · exact (h.reach _).toPhase _ _
    · exact h
  · exact h

theorem Keeps.closeFailedAt (h : Keeps s₀ s) (op : Operation) : Keeps s₀ (s.closeFailedAt op) := by
  unfold State.closeFailedAt
  dsimp only
  split
  · exact (h.setLatch.mechanismAlarm _ _).endOperation _ _
  · exact (((Keeps.beginTrip (h.setLatch.withMdr _ (by rfl)) _ _ _).discordanceAlarm _).mechanismAlarm _ _).handOff _ _

theorem Keeps.closeWindowOver (h : Keeps s₀ s) : Keeps s₀ s.closeWindowOver := by
  unfold State.closeWindowOver
  dsimp only
  split
  · split
    · split
      · exact (h.reach _).endOperation _ _
      · exact (h.reach _).closeFailedAt _
    · exact h
  · exact h

theorem Keeps.externalOpen (h : Keeps s₀ s) : Keeps s₀ s.externalOpen := by
  have opened : Keeps s₀ (s.withMdr Mdr.stopWatches).externallyOpened := Keeps.externallyOpened (h.withMdr _ (by rfl))
  unfold State.externalOpen
  dsimp only
  split
  · exact (((opened.newRecord _ _ _ _ _).event _ _).raise _).activationTest
  · exact ((opened.newRecord _ _ _ _ _).event _ _).raise _

theorem Keeps.unexpectedClose (h : Keeps s₀ s) : Keeps s₀ s.unexpectedClose := by
  unfold State.unexpectedClose
  dsimp only
  split
  · exact (h.mechanismAlarm _ _).requestTrip _
  · exact (h.setLatch.latchNoticed.mechanismAlarm _ _).requestTrip _

theorem Keeps.judgePoles (h : Keeps s₀ s) (op : Operation) : Keeps s₀ (s.judgePoles op) := by
  unfold State.judgePoles
  split
  · split
    · exact h.tripOpened _
    · exact h
  · split
    · exact h.endOperation _ _
    · exact h

theorem Keeps.indicationEvent (h : Keeps s₀ s) (before : Poles) : Keeps s₀ (s.indicationEvent before) := by
  have watch : (s.mdr.watch s.now).settings = s.mdr.settings := by unfold Mdr.watch; split <;> rfl
  unfold State.indicationEvent
  split
  · exact h.judgePoles _
  · split
    · exact h.externalOpen
    · split
      · exact h.unexpectedClose
      · exact h.withMdr _ watch

theorem Keeps.judgeReport (h : Keeps s₀ s) : Keeps s₀ s.judgeReport := by
  have closed {t : State} (ht : Keeps s₀ t) : Keeps s₀ (if s.mdr.poles.anyClosed then t.requestTrip .discordance else t) := by
    split
    · exact ht.requestTrip _
    · exact ht
  unfold State.judgeReport
  dsimp only
  split
  · exact h
  · have latched := h.setLatch.mechanismAlarm .powerOn none
    refine closed ?_
    split
    · exact latched.discordanceAlarm _
    · exact latched

theorem Keeps.firstReport (h : Keeps s₀ s) (hr : s.sqc.reported = false) : Keeps s₀ s.firstReport := by
  have judged := (h.takeReport s.mdr.poles hr).judgeReport
  unfold State.firstReport
  dsimp only
  split
  · exact judged.judgePoles _
  · exact judged

theorem Keeps.contactsRead (h : Keeps s₀ s) (c : Contacts) : Keeps s₀ (s.contactsRead c) := by
  have read : Keeps s₀ (s.withMdr fun m => { m with poles := polesOf c }) := h.withMdr _ (by rfl)
  unfold State.contactsRead
  dsimp only
  split
  · next hr => exact read.firstReport (by simpa using hr)
  · split
    · exact h
    · exact read.indicationEvent _

theorem Keeps.invalidWatchOver (h : Keeps s₀ s) : Keeps s₀ s.invalidWatchOver := by
  unfold State.invalidWatchOver
  split
  · exact (h.reach _).setLatch.latchNoticed.mechanismAlarm _ _
  · exact h

theorem Keeps.mixedWatchOver (h : Keeps s₀ s) : Keeps s₀ s.mixedWatchOver := by
  unfold State.mixedWatchOver
  split
  · exact (((h.reach _).requestTrip _).setLatch.discordanceAlarm _).mechanismAlarm _ _
  · exact h

theorem Keeps.takeDecision (h : Keeps s₀ s) (decision : List Element) : Keeps s₀ (s.takeDecision decision) := by
  unfold State.takeDecision
  dsimp only
  split
  · exact h
  · next hr =>
    have reported : s.sqc.reported = true := by simp_all
    have counted (hot : Bool) (hs : s.sqc.active.ok = true → s.sqc.inv → s.sqc.shot < s.sqc.active.trips) :
        Keeps s₀ ((s.setShot (s.sqc.shot + 1)).setSequence (.tripping .protection hot)) := by
      refine h.sqc _ rfl rfl fun ok i => ?_
      have := hs ok i
      exact ⟨this, this, by simp [reported]⟩
    split
    · next hq =>
      refine (counted _ fun ok i => ?_).requestTripWith _ _ _
      have zero := i.1
      unfold Sqc.shotOk at zero
      have := (Settings.ok_trips ok).1
      simp only [hq] at zero
      omega
    · next hq =>
      refine (counted _ fun ok i => ?_).requestTripWith _ _ _
      have less := i.1
      unfold Sqc.shotOk at less
      simpa [hq] using less
    · exact h.setSequence _ (fun _ => reported) fun i => by exact i.2.1
    · exact h

theorem Keeps.reclose (h : Keeps s₀ s) (wait : Sequence) (hr : s.sqc.inv → s.sqc.reported = true)
    (hs : s.sqc.inv → s.sqc.shot < s.sqc.active.trips) (hw : ∃ d, wait = .energyWait d) : Keeps s₀ (s.reclose wait) := by
  obtain ⟨d, rfl⟩ := hw
  have sqc : (s.requestClose .reclose).1.sqc = s.sqc := by
    rcases s.requestClose_cases .reclose with ⟨-, e⟩ | ⟨-, e⟩ <;> rw [e]
    simp [State.beginClose, State.closeStarted, Origin.isCommand]
  have asked := h.requestClose .reclose
  unfold State.reclose
  dsimp only
  split
  · refine asked.setSequence _ ?_ ?_ <;> rw [sqc]
    · exact hr
    · exact fun i => hs i
  · refine asked.setSequence _ ?_ ?_ <;> rw [sqc]
    · exact hr
    · exact fun i => hs i
  · split <;> refine asked.enterLockout _ _ ?_ <;> rw [sqc] <;> exact hr

theorem Keeps.askAgain (h : Keeps s₀ s) : Keeps s₀ s.askAgain := by
  unfold State.askAgain
  split
  · next d hq =>
    refine h.reclose _ (fun i => i.reported (by simp [hq])) (fun i => ?_) ⟨d, rfl⟩
    have less := i.1
    unfold Sqc.shotOk at less
    simpa [hq] using less
  · exact h

theorem Keeps.takeUpdate (h : Keeps s₀ s) (r : UpdateResult) : Keeps s₀ (s.takeUpdate r) := by
  have picked : Keeps s₀ { s with sqc := { s.sqc with picked := r.picked } } := h.sqc _ rfl rfl fun _ i => i
  have finish {t : State} (ht : Keeps s₀ t) : Keeps s₀ (if t.pauseReclaim.sqc.sequence = .ready then t.pauseReclaim.activationTest
      else t.pauseReclaim) := by
    split
    · exact ht.pauseReclaim.activationTest
    · exact ht.pauseReclaim
  unfold State.takeUpdate
  dsimp only
  refine finish ?_
  split
  · exact picked.coordinate _
  · exact picked.takeDecision _

/-! ### The energy account -/

theorem Keeps.rechargeControl (h : Keeps s₀ s) : Keeps s₀ s.rechargeControl := by
  unfold State.rechargeControl
  split
  · split
    · exact Keeps.rechargeStarted (h.withMdr _ (by rfl))
    · exact h
  · split
    · exact Keeps.rechargeStopped (h.withMdr _ (by rfl)) _
    · exact h

theorem Keeps.raiseLowEnergy (h : Keeps s₀ s) : Keeps s₀ s.raiseLowEnergy := by
  have raised : Keeps s₀ (s.withMdr fun m => { m with lowWatch := .raised }) := h.withMdr _ (by rfl)
  exact (raised.alarm _ _).raise _

theorem Keeps.lowEnergyWatch (h : Keeps s₀ s) : Keeps s₀ s.lowEnergyWatch := by
  unfold State.lowEnergyWatch
  split
  · split
    · exact h.withMdr _ (by rfl)
    · split
      · exact h.raiseLowEnergy
      · exact h
    · exact h
  · exact h.withMdr _ (by rfl)

theorem Keeps.measureCapacitor (h : Keeps s₀ s) (v : Nat) : Keeps s₀ (s.measureCapacitor v) := by
  have measured : Keeps s₀ (s.withMdr fun m => { m with
      vcap := v, estimate := energyOf m.settings.capacitance v, measuredEstimate := energyOf m.settings.capacitance v
      lastMeasurement := s.now }) := h.withMdr _ (by rfl)
  exact measured.rechargeControl.lowEnergyWatch.askAgain

end Blocks
end Sys2Proof.Machine
end

section
/-! PROOFS. The fields of a checked request make a record in range (Tables 3-1, 6-7, 7-6, R13, R36, R87). -/

namespace Sys2Proof.Machine

theorem curveOf_code {n : Nat} (h : within 1 6 n = true) : (curveOf n).code.toNat = n := by
  obtain ⟨lo, hi⟩ := within_iff.mp h
  interval_cases n <;> rfl

theorem channelOf_code {n : Nat} (h : within 1 6 n = true) : (channelCode (channelOf n)).toNat = n := by
  obtain ⟨lo, hi⟩ := within_iff.mp h
  interval_cases n <;> rfl

theorem resetMode_code {n : Nat} (h : within 1 2 n = true) : (if n = 1 then ResetMode.instant else .timed).code.toNat = n := by
  obtain ⟨lo, hi⟩ := within_iff.mp h
  interval_cases n <;> rfl

theorem onOff_code {n : Nat} (h : within 1 2 n = true) : (onOffCode (n == 1)).toNat = n := by
  obtain ⟨lo, hi⟩ := within_iff.mp h
  interval_cases n <;> rfl

theorem settingsOf_ok {fields : List Nat} (h : badField 33 settingsChecks fields = none) : (settingsOf fields).ok = true := by
  obtain ⟨-, checks⟩ := badField_none.mp h
  simp only [Settings.ok, Option.isNone_iff_eq_none, badField_none]
  refine ⟨rfl, ?_⟩
  have at_ (b : Bool) (hb : b ∈ settingsChecks fun k => fields.getD (k - 1) 0) : b = true := checks b hb
  have c1 := curveOf_code (at_ (within 1 6 (fields.getD 2 0)) (by simp [settingsChecks]))
  have c2 := curveOf_code (at_ (within 1 6 (fields.getD 5 0)) (by simp [settingsChecks]))
  have c3 := curveOf_code (at_ (within 1 6 (fields.getD 8 0)) (by simp [settingsChecks]))
  have c4 := curveOf_code (at_ (within 1 6 (fields.getD 11 0)) (by simp [settingsChecks]))
  have r := resetMode_code (at_ (within 1 2 (fields.getD 20 0)) (by simp [settingsChecks]))
  have m1 := within_iff.mp (at_ (within 0 15 (fields.getD 24 0)) (by simp [settingsChecks]))
  have m2 := within_iff.mp (at_ (within 0 15 (fields.getD 27 0)) (by simp [settingsChecks]))
  have o := onOff_code (at_ (within 1 2 (fields.getD 28 0)) (by simp [settingsChecks]))
  have mask {n : Nat} (hn : 0 ≤ n ∧ n ≤ 15) : (BitVec.ofNat 4 n).toNat = n := by
    rw [BitVec.toNat_ofNat, Nat.mod_eq_of_lt (by omega)]
  have same : (settingsChecks fun k => (settingsOf fields).fields.getD (k - 1) 0) = settingsChecks fun k => fields.getD (k - 1) 0 := by
    change settingsChecks (fun k => List.getD [_, _, (curveOf (fields.getD 2 0)).code.toNat, _, _, (curveOf (fields.getD 5 0)).code.toNat, _, _,
      (curveOf (fields.getD 8 0)).code.toNat, _, _, (curveOf (fields.getD 11 0)).code.toNat, _, _, _, _, _, _, _, _,
      (if fields.getD 20 0 = 1 then ResetMode.instant else .timed).code.toNat, _, _, _, (BitVec.ofNat 4 (fields.getD 24 0)).toNat, _, _,
      (BitVec.ofNat 4 (fields.getD 27 0)).toNat, (onOffCode (fields.getD 28 0 == 1)).toNat, _, _, _, _] (k - 1) 0) = _
    rw [c1, c2, c3, c4, r, mask m1, mask m2, o]
    rfl
  rw [same]
  exact checks

theorem mechanismOf_ok {fields : List Nat} (h : badField 4 mechanismChecks fields = none) : (mechanismOf fields).ok = true := by
  obtain ⟨-, checks⟩ := badField_none.mp h
  simp only [MechanismSettings.ok, Option.isNone_iff_eq_none, badField_none]
  exact ⟨rfl, checks⟩

theorem batteryOf_ok {fields : List Nat} (h : badField 15 batteryChecks fields = none) : (batteryOf fields).ok = true := by
  obtain ⟨length, checks⟩ := badField_none.mp h
  simp only [BatterySettings.ok, Option.isNone_iff_eq_none, badField_none]
  have same : (batteryOf fields).fields = fields := by
    obtain ⟨a, b, c, d, e, f, g, rest, rfl⟩ : ∃ a b c d e f g rest, fields = a :: b :: c :: d :: e :: f :: g :: rest := by
      match fields, length with
      | a :: b :: c :: d :: e :: f :: g :: rest, _ => exact ⟨a, b, c, d, e, f, g, rest, rfl⟩
    rfl
  rw [same]
  exact ⟨length, checks⟩

theorem linkOf_ok {fields : List Nat} (h : badField 11 linkChecks fields = none) : (linkOf fields).ok = true := by
  obtain ⟨-, checks⟩ := badField_none.mp h
  simp only [LinkSettings.ok, Option.isNone_iff_eq_none, badField_none]
  refine ⟨rfl, ?_⟩
  have address := within_iff.mp (checks (within 0 0xFFFE (fields.getD 0 0)) (by simp [linkChecks]))
  have mask := within_iff.mp (checks (within 0 0xFFFF (fields.getD 1 0)) (by simp [linkChecks]))
  have word {n : Nat} (hn : 0 ≤ n ∧ n ≤ 65535) : (BitVec.ofNat 16 n).toNat = n := by
    rw [BitVec.toNat_ofNat, Nat.mod_eq_of_lt (by omega)]
  have same : (linkChecks fun k => (linkOf fields).fields.getD (k - 1) 0) = linkChecks fun k => fields.getD (k - 1) 0 := by
    change linkChecks (fun k => List.getD [(BitVec.ofNat 16 (fields.getD 0 0)).toNat, (BitVec.ofNat 16 (fields.getD 1 0)).toNat,
      _, _, _, _, _, _, _, _, _] (k - 1) 0) = _
    rw [word ⟨Nat.zero_le _, by omega⟩, word ⟨Nat.zero_le _, by omega⟩]
    rfl
  rw [same]
  exact checks

/-- The points do not depend on which of the two user curves they are for (R36). -/
theorem curveBad_ok {curve : Nat} {points : List (Nat × Nat)} (h : curveBad curve points = none) : CurveTable.ok points = true := by
  simp only [CurveTable.ok, Option.isNone_iff_eq_none]
  unfold curveBad at h ⊢
  split at h
  · rw [if_pos ‹_›]
    rw [firstBad_none] at h ⊢
    intro b hb
    rcases List.mem_cons.mp hb with rfl | hb
    · rfl
    · exact h b (List.mem_cons_of_mem _ hb)
  · cases h

theorem trackerOf_ok {sources : List Nat} {freq volts squelch : Nat} (h : trackerBad sources freq volts squelch = none) :
    (TrackerSettings.mk (sources.map channelOf) freq volts squelch).ok = true := by
  have codes : (sources.map channelOf).map (fun c => (channelCode c).toNat) = sources := by
    have range := firstBad_none.mp h (within 1 4 sources.length && sources.Nodup && sources.all (within 1 6)) List.mem_cons_self
    simp only [Bool.and_eq_true, List.all_eq_true] at range
    rw [List.map_map]
    exact (List.map_congr_left fun n hn => channelOf_code (range.2 n hn)).trans (List.map_id _)
  simp only [TrackerSettings.ok, codes, h, Option.isNone_none]

theorem tagBad_none {kind crew : Nat} {note : List Byte} (h : tagBad kind crew note = none) :
    within 1 2 kind = true ∧ crew ≠ 0 ∧ (within 0 24 note.length && note.all printable) = true := by
  have := firstBad_none.mp h
  simpa using this

end Sys2Proof.Machine
end

section
/-! PROOFS. What every request and every event keeps. -/

namespace Sys2Proof.Machine

section Commands
variable {s₀ s : State}

/-! ### Requests -/

theorem Keeps.turnedAway (h : Keeps s₀ s) (src : Source) : Keeps s₀ (s.turnedAway src) := by
  cases src with
  | c => exact h.ports _ rfl rfl
  | p => exact h
  | l => exact h

/-- What a request does through its owner, on a port that may make it, it does. -/
theorem Keeps.respond (h : Keeps s₀ s) (kind : RequestKind) (src : Source) (ref : Byte) {owner : Port → State → Taken}
    (ho : ∀ port, Keeps s (owner port s).state) : Keeps s₀ (Machine.respond kind src ref owner s) := by
  have judged (port : Port) : Keeps s₀ (s.judgeRequest kind port owner).state := by
    unfold State.judgeRequest
    split
    · exact h
    · split
      · exact h
      · exact h.trans (ho port)
  unfold Machine.respond
  split
  · exact h.turnedAway _
  · dsimp only
    split
    · exact (judged _).answer _ _
    · exact judged _
  · split
    · exact h
    · exact judged _

theorem Keeps.act (h : Keeps s₀ s) {f : State → State} {t : State} (hf : Keeps s (f s)) (ht : Machine.act f s = .next t) : Keeps s₀ t := by
  unfold Machine.act at ht
  split at ht
  · cases ht; exact (h.trans hf).rejudge
  · cases ht; exact h

/-- The same port's alert set changed. -/
theorem Keeps.alerts (h : Keeps s₀ s) (p : Ports) (hc : p.cAnswers = s.ports.cAnswers) (hp : p.pAnswers = s.ports.pAnswers) :
    Keeps s₀ (Taken.done [] { s with ports := p }).state := h.ports p hc hp

theorem Keeps.placePanelClose (h : Keeps s₀ s) : Keeps s₀ s.placePanelClose := by
  refine Keeps.au (h.requestClose .p) _ rfl rfl fun ⟨length, slots, slot, kinds, selection, _⟩ => ?_
  refine ⟨length, slots, slot, kinds, selection, fun _ => ?_⟩
  dsimp only
  split <;> rfl

/-- The panel close delay starts when nothing forbids it (R106). -/
theorem Keeps.startDelay (h : Keeps s₀ s) (hr : s.au.closeRefusal = none) (t : Nat) :
    Keeps s₀ (s.withAu fun a => { a with panel := .running t }) := by
  refine h.au _ rfl rfl fun ⟨length, slots, slot, kinds, selection, _⟩ => ?_
  refine ⟨length, slots, slot, kinds, selection, fun no => ?_⟩
  unfold Au.closeRefusal at hr
  split at hr
  · cases hr
  · split at hr
    · cases hr
    · rcases no with no | no <;> simp_all

theorem Keeps.close (h : Keeps s₀ s) (port : Port) (ref : Byte) : Keeps s₀ (match s.au.closeRefusal with
    | some c => Taken.code c s
    | none =>
      let delay := s.rpu.settings.panelDelay
      let s := s.withAu fun a => { a with panel := .running (s.now + delay * second) }
      if delay = 0 then
        ⟨(s.answer port ⟨RequestKind.close.code, ref, .accepted, []⟩).placePanelClose, none⟩
      else .code .accepted s).state := by
  split
  · exact h
  · next hr =>
    dsimp only
    split
    · exact ((h.startDelay hr _).answer _ _).placePanelClose
    · exact h.startDelay hr _

/-- A selection is made when nothing forbids it (R102). -/
theorem Keeps.makeSelection (h : Keeps s₀ s) {port : Port} (hr : s.selectRefusal port = none) (x : Selection) :
    Keeps s₀ (s.withAu fun a => { a with selection := some x }) := by
  refine h.au _ rfl rfl fun ⟨length, slots, slot, kinds, _, panel⟩ => ?_
  refine ⟨length, slots, slot, kinds, fun no => ?_, panel⟩
  unfold State.selectRefusal at hr
  split at hr
  · cases hr
  · split at hr
    · cases hr
    · rcases no with no | no <;> simp_all

/-! ### Tags -/

theorem Au.freeSlot_spec {a : Au} {slot : Nat} (h : a.freeSlot = some slot) : slot < 8 ∧ ∀ t ∈ a.tags, t.slot ≠ slot := by
  have mem := List.mem_of_find?_eq_some h
  have free := List.find?_some h
  simp_all

/-- Entries in their own slots below 8 are eight at most. -/
theorem slots_length {l : List Tag} (hs : ∀ t ∈ l, t.slot < 8) (hn : (l.map Tag.slot).Nodup) : l.length ≤ 8 := by
  have sub : l.map Tag.slot ⊆ List.range 8 := by
    intro n hm
    obtain ⟨t, ht, rfl⟩ := List.mem_map.mp hm
    exact List.mem_range.mpr (hs t ht)
  simpa using (List.subperm_of_subset hn sub).length_le

/-- The new entry in its slot, with the pending closes dropped (R93, steps 1 and 2). -/
theorem Keeps.addTag (h : Keeps s₀ s) {slot crew : Nat} {kind : TagKind} {note : List Byte} (hs : s.au.freeSlot = some slot)
    (hd : ¬(s.au.tags.any fun t => t.crew == crew && t.kind == kind) = true)
    (hn : (within 0 24 note.length && note.all printable) = true) (origin : Port) (placed : Stamp) :
    Keeps s₀ ((s.withAu fun a => a.addTag slot kind origin crew placed note).dropCloses .tag) := by
  obtain ⟨bound, free⟩ := Au.freeSlot_spec hs
  refine h.trans ⟨fun r => r.withAu ?_ (satSucc_le _ _), fun _ => id, fun _ => id, id, fun ⟨_, slots, slot', kinds, _, _⟩ => ?_⟩
  · obtain ⟨tags, placements⟩ := r.au
    simp only [Bool.and_eq_true] at hn
    simp only [Au.addTag, State.withAu, State.clearSelection, List.all_append, List.all_cons, List.all_nil, Bool.and_true, tags, Bool.true_and, Tag.ok,
      Bool.and_eq_true, within_iff]
    exact ⟨⟨⟨⟨Nat.zero_le _, by omega⟩, Nat.zero_le _, placements⟩, within_iff.mp hn.1⟩, hn.2⟩
  · have slotsOk : ∀ t ∈ s.au.tags ++ [Tag.mk slot kind origin crew placed note s.au.placements], t.slot < 8 := by
      intro t ht
      rcases List.mem_append.mp ht with ht | ht
      · exact slots t ht
      · rw [List.mem_singleton.mp ht]; exact bound
    have slotsNodup : ((s.au.tags ++ [Tag.mk slot kind origin crew placed note s.au.placements]).map Tag.slot).Nodup := by
      rw [List.map_append, List.nodup_append]
      refine ⟨slot', by simp, fun n hm m hm' => ?_⟩
      obtain ⟨t, ht, rfl⟩ := List.mem_map.mp hm
      rw [List.mem_singleton.mp hm']
      exact free t ht
    have kindsNodup : ((s.au.tags ++ [Tag.mk slot kind origin crew placed note s.au.placements]).map fun t : Tag => (t.crew, t.kind)).Nodup := by
      rw [List.map_append, List.nodup_append]
      refine ⟨kinds, by simp, fun n hm m hm' => ?_⟩
      obtain ⟨t, ht, rfl⟩ := List.mem_map.mp hm
      rw [List.mem_singleton.mp hm']
      intro e
      simp only [List.any_eq_true, Bool.and_eq_true, beq_iff_eq, not_exists, not_and] at hd
      simp only [Prod.mk.injEq] at e
      exact hd t ht e.1 e.2
    exact ⟨slots_length slotsOk slotsNodup, slotsOk, slotsNodup, kindsNodup, fun _ => rfl, fun _ => Panel.cancel_isRunning _ _⟩

theorem Keeps.placeTag (h : Keeps s₀ s) {slot crew : Nat} {kind : TagKind} {note : List Byte} (hs : s.au.freeSlot = some slot)
    (hd : ¬(s.au.tags.any fun t => t.crew == crew && t.kind == kind) = true)
    (hn : (within 0 24 note.length && note.all printable) = true) (origin : Port) :
    Keeps s₀ (s.placeTag slot kind origin crew note) :=
  ((h.addTag hs hd hn origin s.stamp).tagToMechanism.tagToSequence.tagsToOeb.place (.tagSlot slot) (Au.freeSlot_spec hs).1).announceTags

theorem Keeps.removeTag (h : Keeps s₀ s) {slot : Nat} (hs : slot < 8) : Keeps s₀ (s.removeTag slot) := by
  have removed : Keeps s₀ (s.withAu fun a => { a with tags := a.tags.filter fun t => t.slot != slot }) := by
    refine h.trans ⟨fun r => r.withAu ?_ r.au.2, fun _ => id, fun _ => id, id, fun ⟨length, slots, slot', kinds, selection, panel⟩ => ?_⟩
    · rw [List.all_eq_true]
      intro t ht
      exact List.all_eq_true.mp r.au.1 t (List.mem_filter.mp ht).1
    · have kept : s.au.tags.filter (fun t => t.slot != slot) ≠ [] → s.au.tags ≠ [] := fun no e => no (by simp [e])
      refine ⟨(List.length_filter_le _ _).trans length, fun t ht => slots t (List.mem_filter.mp ht).1,
        slot'.sublist (List.filter_sublist.map _), kinds.sublist (List.filter_sublist.map _), ?_, ?_⟩
      · exact fun no => selection (no.imp_left kept)
      · exact fun no => panel (no.imp_left kept)
  exact (removed.tagsToOeb.place (.tagSlot slot) hs).announceTags

/-! ### Settings requests -/

theorem Keeps.stage (h : Keeps s₀ s) {staged : Settings} (hs : staged.ok = true) :
    Keeps s₀ { s with sqc := { s.sqc with staged := some staged } } :=
  h.trans ⟨fun r => r.withSqc r.sqc.1 hs, fun _ => id, fun _ => id, id, id⟩

theorem Keeps.curves (h : Keeps s₀ s) {t1 t2 : CurveTable} (h1 : s.oeb.u1.ok = true → t1.ok = true) (h2 : s.oeb.u2.ok = true → t2.ok = true) :
    Keeps s₀ { s with oeb := { s.oeb with u1 := t1, u2 := t2 } } :=
  h.trans ⟨fun r => r.withOeb (h1 r.oeb.1) (h2 r.oeb.2), fun _ => id, fun _ => id, id, id⟩

theorem Keeps.mechanism (h : Keeps s₀ s) {m : MechanismSettings} (hm : m.ok = true) :
    Keeps s₀ (s.withMdr fun d => { d with settings := m }) :=
  h.trans ⟨fun r => r.withMdr hm, fun _ => id, fun _ => id, id, id⟩

theorem Keeps.replaceBattery (h : Keeps s₀ s) : Keeps s₀ s.replaceBattery := by
  refine Keeps.place (Keeps.judgeVerdict (h.stored _ fun ok => ?_)) .battery
  rw [BatteryRecord.ok_iff] at ok ⊢
  have fresh : Attributes.fresh.ok = true := by decide
  exact ⟨ok.1, fresh, Nat.zero_le _, Nat.zero_le _, Nat.zero_le _, Nat.zero_le _, Nat.zero_le _⟩

theorem Keeps.setWearLimit (h : Keeps s₀ s) {limit : Nat} (hl : limit ≤ 4000000000) : Keeps s₀ (s.setWearLimit limit) := by
  have set : Keeps s₀ { s with oru := { s.oru with counters := s.oru.counters.relimit limit } } := by
    refine h.oru _ (fun ok => ?_) fun r => r
    rw [Counters.ok_iff] at ok ⊢
    obtain ⟨total, trips, lockouts, a, b, c, -, next⟩ := ok
    exact ⟨total, trips, lockouts, a, b, c, hl, next⟩
  exact set.judgeWear.place .counters

theorem Keeps.newSources (h : Keeps s₀ s) {t : TrackerSettings} (ht : t.ok = true) : Keeps s₀ (s.newSources t) := by
  unfold State.newSources
  dsimp only
  refine Keeps.tryLock (Keeps.keepLock (h.trans ?_))
  exact ⟨fun r => r.withLmu ht, fun _ => id, fun _ => id, id, id⟩

/-- New link settings: their record, and the standing judged by them at once (R157). -/
theorem Keeps.newLink (h : Keeps s₀ s) {l : LinkSettings} (hl : l.ok = true) : Keeps s₀ (s.newLink l) := by
  refine h.trans ?_
  unfold State.newLink
  dsimp only
  generalize (if l.measureInterval = s.rpu.settings.measureInterval then s.rpu.measureTimer
    else if l.measureInterval = 0 then none else some (s.now + l.measureInterval * second)) = timer
  have set : State.recordsInv s → State.recordsInv { s with rpu := { s.rpu with settings := l, measureTimer := timer } } :=
    fun r => r.withRpu hl r.rpu.2
  have placed (r : s.recordsInv) : State.recordsInv (State.place .link { s with rpu := { s.rpu with settings := l, measureTimer := timer } }) :=
    ((Keeps.refl _).place .link).records (set r)
  have stands (t : State) : (t.recordsInv → t.restand.recordsInv) ∧ t.restand.sqc = t.sqc ∧ t.restand.rpu.score = t.rpu.score
      ∧ t.restand.rpu.settings = t.rpu.settings ∧ (t.rpu.poolOk → t.restand.rpu.poolOk) ∧ t.restand.au = t.au := by
    unfold State.restand
    dsimp only
    split
    · exact ⟨id, rfl, rfl, rfl, id, rfl⟩
    · refine ⟨fun r => (r.withRpu r.rpu.1 r.rpu.2).withPorts r.ports.1 r.ports.2, rfl, rfl, rfl, fun p => ?_, rfl⟩
      refine Rpu.poolOk_of_sublists p (.refl _) (.refl _) ?_ (.refl _) (.refl _)
      dsimp only [State.raise]
      split
      · exact List.nil_sublist _
      · exact .refl _
  obtain ⟨records, sqc, score, settings, pool, au⟩ :=
    stands (State.place .link { s with rpu := { s.rpu with settings := l, measureTimer := timer } })
  refine ⟨fun r => records (placed r), fun _ i => ?_, fun _ i => ?_, fun p => pool p, fun a => ?_⟩
  · rw [State.sequenceInv_iff, sqc]; exact i
  · refine ⟨by rw [score]; exact i.1, ?_⟩
    rw [State.restand_standing, score, settings]
  · unfold State.authorityInv
    rw [au]; exact a

/-! ### The 27 requests -/

theorem exec_request_keeps {c : Instr} {t : State} (hc : c.request.isSome = true) (h : exec c s = .next t) : Keeps s t := by
  have k := Keeps.refl s
  cases c <;> first | (cases hc; done) | refine k.act (k.respond _ _ _ fun port => ?_) h
  case statusRead | tagList | readAttributes | readTestHistory => exact k
  case clearAlerts =>
    dsimp only
    split <;> exact k.ports _ rfl rfl
  case trip => exact k.requestTrip _
  case close => exact k.close _ _
  case selectClose =>
    dsimp only
    split
    · exact k
    · next hr => exact k.makeSelection hr _
  case operateClose =>
    dsimp only
    split
    · exact k.clearSelection.requestClose _
    · exact k
  case cancel =>
    repeat' split
    all_goals first | exact k | exact k.cancelPanel _ | exact k.clearSelection
  case tagPlace =>
    split
    · exact k
    · next hb =>
      split
      · exact k
      · split
        · exact k.placeTag ‹_› ‹_› (tagBad_none hb).2.2 _
        · exact k
  case tagRemove =>
    repeat' split
    all_goals first | exact k | exact k.removeTag (by omega)
  case recloseBlock =>
    repeat' split
    any_goals exact k
    exact Keeps.place (k.au _ (by rfl) (by rfl) (by exact fun a => a)) .authority
  case settingsWrite =>
    dsimp only
    split
    · exact k
    · split
      · exact k
      · next hb => exact (k.stage (settingsOf_ok hb)).activationTest
  case settingsRead =>
    repeat' split
    all_goals exact k
  case curveLoad =>
    dsimp only
    split
    · exact k
    · next hb =>
      have ok := curveBad_ok hb
      split
      · exact Keeps.place (k.curves (fun _ => ok) fun c => c) .userCurve1
      · exact Keeps.place (k.curves (fun c => c) fun _ => ok) .userCurve2
  case mechanismSettings =>
    split
    · exact k
    · next hb => exact (k.mechanism (mechanismOf_ok hb)).place .mechanism
  case mechanismFaultReset =>
    have watch (t : State) : (t.mdr.watch t.now).settings = t.mdr.settings := by unfold Mdr.watch; split <;> rfl
    have cleared := Keeps.place (k.withMdr (fun m => { m with latch := false }) rfl) .mechanism
    dsimp only
    split
    · exact k
    · split
      · split
        · exact cleared.withMdr _ (watch _)
        · exact cleared
      · exact k
  case batterySettings =>
    dsimp only
    split
    · exact k
    · next hb =>
      have set := (Keeps.place (k.withStored (fun b => { b with settings := batteryOf _ }) fun b ok => by
        rw [BatteryRecord.ok_iff] at ok ⊢
        exact ⟨batteryOf_ok hb, ok.2⟩) .battery).judgeVerdict
      split
      · exact set.bcu _ rfl
      · split
        · exact set.attempt _
        · exact set
  case batteryTest =>
    have hold {t : State} (ht : Keeps s t) (port : Port) (ref : Byte) : Keeps s (t.beginHold port ref) := by
      cases port
      · exact ht.ports _ rfl rfl
      · exact ht.ports _ rfl rfl
      · exact ht
    repeat' split
    any_goals exact k
    · unfold Taken.precondition
      split <;> exact k
    · exact hold (k.startTest _ _) _ _
    · exact k.startTest _ _
  case abortTest =>
    split
    · exact k.abortTest _
    · exact k
  case batteryReplaced =>
    repeat' split
    any_goals exact k
    exact k.replaceBattery
  case readRecord =>
    split <;> exact k
  case readCounters =>
    dsimp only
    repeat' split
    any_goals exact k
    exact k.setWearLimit (by omega)
  case timeSet =>
    dsimp only
    split
    · exact k
    · exact k.clock _
  case trackerSources =>
    split
    · exact k
    · next hb => exact (k.newSources (trackerOf_ok hb)).place .tracker
  case linkSettings =>
    split
    · exact k
    · next hb => exact k.newLink (linkOf_ok hb)

end Commands
end Sys2Proof.Machine
end

section
/-! PROOFS. Received bytes: what holds of every frame taken holds of the bytes that carry them (R170 to R172). -/

namespace Sys2Proof.Machine

/-- The port a request's source stands for. -/
def sourcePort : Source → Port
  | .c => .c
  | .p => .p
  | .l _ => .l

/-- A command that a frame on the port can carry. -/
def carriedOn (port : Port) (c : Instr) : Prop := ∀ kind src ref, c.request = some (kind, src, ref) → sourcePort src = port

/-- The port of a byte stream. -/
def uartPort : UartPort → Port
  | .p => .p
  | .l => .l

/-- A good frame is taken as the request or the ACK it carries; anything else changes nothing (R172). -/
theorem State.takeCommand_cases (c : Instr) (s : State) : s.takeCommand c = s
    ∨ (c.request.isSome = true ∨ ∃ station number, c = .ack station number) ∧ exec c s = .next (s.takeCommand c) := by
  have settled : exec c s = .next (settle (exec c s) s) := by
    obtain ⟨t, ht⟩ := exec_next c s
    rw [ht]; rfl
  cases c
  case ack station number => exact .inr ⟨.inr ⟨station, number, rfl⟩, settled⟩
  all_goals first | exact .inl rfl | exact .inr ⟨.inl rfl, settled⟩

theorem checkRequest_carried {src : Source} {bytes : List Byte} {c : Instr} (h : checkRequest src bytes = .good c) :
    ∃ kind ref, c.request = some (kind, src, ref) := by
  unfold checkRequest at h
  split at h
  · next kind ref body =>
    split at h
    · next k _ =>
      split at h
      · cases hd : k.decode src ref body with
        | none => rw [hd] at h; cases h
        | some d =>
          rw [hd] at h
          simp only [Option.map_some, Option.getD_some, Checked.good.injEq] at h
          exact ⟨k, ref, h ▸ RequestKind.decode_request hd⟩
      · cases h
    · cases h
  · cases h

theorem checkPortFrame_carried {src : Source} {bytes : List Byte} {c : Instr} (h : checkPortFrame src bytes = .good c) :
    carriedOn (sourcePort src) c := by
  unfold checkPortFrame at h
  split at h
  · obtain ⟨kind, ref, hc⟩ := checkRequest_carried h
    intro kind' src' ref' hc'
    rw [hc] at hc'
    cases hc'
    rfl
  · cases h

theorem checkRadioFrame_carried {l : LinkSettings} {bytes : List Byte} {c : Instr} (h : checkRadioFrame l bytes = .good c) :
    carriedOn .l c := by
  have request {station : Word16} {body : List Byte} (hc : checkRequest (.l station) body = .good c) : carriedOn .l c := by
    obtain ⟨kind, ref, hr⟩ := checkRequest_carried hc
    intro kind' src' ref' hc'
    rw [hr] at hc'
    cases hc'
    rfl
  unfold checkRadioFrame at h
  split at h
  · dsimp only at h
    split at h
    · split at h
      · exact request h
      · next hc => cases h; exact request hc
      · cases h
    · cases h
  · split at h
    · cases h
      intro kind src ref hc
      cases hc
    · cases h
  · cases h

section Streams
variable {P : State → Prop}

theorem found_closed {port : Port} {s : State} (hs : P s) (answer : ∀ a, P s → P (s.answer port a))
    (command : ∀ c, carriedOn port c → P s → P (s.takeCommand c)) {checked : Checked} (hc : ∀ c, checked = .good c → carriedOn port c) :
    P (s.found port checked) := by
  cases checked with
  | lengthOrCrc =>
    simp only [State.found]
    split
    · exact hs
    · exact answer _ hs
  | dropped => exact hs
  | unknown kind ref => exact answer _ hs
  | badLength kind ref => exact answer _ hs
  | good c => exact command c (hc c rfl) hs

theorem takeFrame_closed {port : UartPort} {s : State} (hs : P s) (answer : ∀ a, P s → P (s.answer (uartPort port) a))
    (command : ∀ c, carriedOn (uartPort port) c → P s → P (s.takeCommand c)) (f : List Byte) : P (s.takeFrame port f) := by
  cases port with
  | p => exact found_closed hs answer command fun c hc => checkPortFrame_carried hc
  | l =>
    simp only [State.takeFrame]
    split
    · exact found_closed hs answer command fun c hc => checkRadioFrame_carried hc
    · exact hs

theorem failPartial_closed {port : UartPort} {s : State} (hs : P s) (parser : ∀ s kept last, P s → P (s.setParser port kept last))
    (answer : ∀ s a, P s → P (s.answer (uartPort port) a)) : P (s.failPartial port) := by
  unfold State.failPartial
  split
  · exact hs
  · cases port with
    | p => exact answer _ _ (parser _ _ _ hs)
    | l => exact parser _ _ _ hs

/-- What the parser, the answers and the commands of a stream keep, its bytes keep (R171). -/
theorem receive_closed {port : UartPort} {s : State} (hs : P s) (parser : ∀ s kept last, P s → P (s.setParser port kept last))
    (answer : ∀ s a, P s → P (s.answer (uartPort port) a))
    (command : ∀ s c, carriedOn (uartPort port) c → P s → P (s.takeCommand c)) (bytes : List Byte) : P (s.receive port bytes) := by
  have fold : ∀ (fs : List (List Byte)) (s : State), P s → P (fs.foldl (fun s f => s.takeFrame port f) s) := by
    intro fs
    induction fs with
    | nil => exact fun _ hs => hs
    | cons f rest ih => exact fun s hs => ih _ (takeFrame_closed hs (answer s) (command s) f)
  unfold State.receive
  split
  · exact hs
  · dsimp only
    refine fold _ _ (parser _ _ _ ?_)
    split
    · exact failPartial_closed hs parser answer
    · exact hs

end Streams

section Commands
variable {s₀ s : State}

theorem Keeps.ack (h : Keeps s₀ s) {station : Word16} {number : Nat} {t : State} (ht : exec (.ack station number) s = .next t) :
    Keeps s₀ t := by
  refine h.act (f := fun s => if s.rpu.hears && station = s.rpu.settings.address then s.acknowledge number else s) ?_ ht
  have k := Keeps.refl s
  split
  · exact k.acknowledge _
  · exact k

theorem Keeps.takeCommand (h : Keeps s₀ s) (c : Instr) : Keeps s₀ (s.takeCommand c) := by
  rcases s.takeCommand_cases c with e | ⟨hc | ⟨station, number, rfl⟩, e⟩
  · rwa [e]
  · exact h.trans (exec_request_keeps hc e)
  · exact h.ack e

theorem Keeps.setParser (h : Keeps s₀ s) (port : UartPort) (kept : List Byte) (last : Nat) : Keeps s₀ (s.setParser port kept last) := by
  cases port
  · exact h.ports _ rfl rfl
  · exact h.ports _ rfl rfl

theorem Keeps.receive (h : Keeps s₀ s) (port : UartPort) (bytes : List Byte) : Keeps s₀ (s.receive port bytes) :=
  receive_closed h (fun _ _ _ k => k.setParser _ _ _) (fun _ _ k => k.answer _ _) (fun _ _ _ k => k.takeCommand _) bytes

theorem Keeps.failPartial (h : Keeps s₀ s) (port : UartPort) : Keeps s₀ (s.failPartial port) :=
  failPartial_closed h (fun _ _ _ k => k.setParser _ _ _) fun _ _ k => k.answer _ _

theorem Keeps.readAnswer (h : Keeps s₀ s) (n : Nat) : Keeps s₀ (s.readAnswer n) := by
  unfold State.readAnswer
  split
  · next a rest _ hc =>
    refine h.trans ⟨fun r => r.withPorts ?_ r.ports.2, fun _ => id, fun _ => id, id, id⟩
    have le := r.ports.1
    rw [hc] at le
    split
    · exact (Nat.le_succ _).trans le
    · exact le
  · exact h.ports _ rfl rfl

theorem Keeps.transactOnC (h : Keeps s₀ s) (bytes : List Byte) : Keeps s₀ (s.transactOnC bytes) := by
  unfold State.transactOnC
  split
  · exact h
  · split
    · exact h.turnedAway _
    · split
      · exact h.readAnswer _
      · exact found_closed (port := .c) h (fun _ k => k.answer _ _) (fun _ _ k => k.takeCommand _) fun c hc => checkPortFrame_carried hc

theorem Keeps.sendAnswer (h : Keeps s₀ s) : Keeps s₀ s.sendAnswer := by
  unfold State.sendAnswer
  split
  · next a rest _ hp =>
    refine (h.reach s.ports.pFree).trans ⟨fun r => r.withPorts r.ports.1 ?_, fun _ => id, fun _ => id, id, id⟩
    have le := r.ports.2
    change s.ports.pAnswers.length ≤ 4 at le
    rw [hp] at le
    exact (Nat.le_succ _).trans le
  · exact h

theorem Keeps.interfaceReset (h : Keeps s₀ s) : Keeps s₀ s.interfaceReset := by
  unfold State.interfaceReset
  refine Keeps.dropCloses (h.trans ?_) _
  refine ⟨fun r => ?_, fun _ => id, fun _ => id, id, id⟩
  obtain ⟨nvs, queue, active, staged, u1, u2, tags, placements, mechanism, counters, ring, battery, link, tracker, -, -, -⟩ := r
  exact ⟨nvs, queue, active, staged, u1, u2, tags, placements, mechanism, counters, ring, battery, link, tracker, Nat.zero_le _,
    Nat.zero_le _, Nat.zero_le _⟩

end Commands
end Sys2Proof.Machine
end

section
/-! PROOFS. The store's contents in range, and what a start makes of them (R183, R186, 10.3). -/

namespace Sys2Proof.Machine

/-! ### The store (R183) -/

theorem Store.ok_iff (st : Store) : st.ok = true ↔
    (∀ r ∈ st.records, r.content.id = r.id) ∧ (st.records.map StoredRecord.id).Nodup ∧ ∀ r ∈ st.records, r.content.ok = true := by
  simp [Store.ok, Store.keyed, and_assoc]

theorem Store.keep_ok {st : Store} (h : st.ok = true) {r : StoredRecord} (hid : r.content.id = r.id) (hr : r.content.ok = true) :
    (st.keep r).ok = true := by
  rw [Store.ok_iff] at h ⊢
  obtain ⟨ids, nodup, ok⟩ := h
  unfold Store.keep
  split
  · have same : (st.records.map fun x => if x.id == r.id then r else x).map StoredRecord.id = st.records.map StoredRecord.id := by
      rw [List.map_map]
      refine List.map_congr_left fun x _ => ?_
      simp only [Function.comp]
      split
      · next e => exact (beq_iff_eq.mp e).symm
      · rfl
    have each (x : StoredRecord) (hx : x ∈ st.records.map fun x => if x.id == r.id then r else x) : x = r ∨ x ∈ st.records := by
      obtain ⟨y, hy, rfl⟩ := List.mem_map.mp hx
      split
      · exact .inl rfl
      · exact .inr hy
    refine ⟨fun x hx => ?_, by rw [same]; exact nodup, fun x hx => ?_⟩
    · rcases each x hx with rfl | hx
      · exact hid
      · exact ids x hx
    · rcases each x hx with rfl | hx
      · exact hr
      · exact ok x hx
  · next hn =>
    simp only [List.any_eq_true, beq_iff_eq, not_exists, not_and] at hn
    refine ⟨fun x hx => ?_, ?_, fun x hx => ?_⟩
    · rcases List.mem_append.mp hx with hx | hx
      · exact ids x hx
      · rw [List.mem_singleton.mp hx]; exact hid
    · rw [List.map_append, List.nodup_append]
      refine ⟨nodup, by simp, fun n hm m hm' => ?_⟩
      obtain ⟨x, hx, rfl⟩ := List.mem_map.mp hm
      rw [List.mem_singleton.mp hm']
      exact hn x hx
    · rcases List.mem_append.mp hx with hx | hx
      · exact ok x hx
      · rw [List.mem_singleton.mp hx]; exact hr

theorem Store.put_ok {st : Store} (h : st.ok = true) {c : Content} (hc : c.ok = true) : (st.put c).ok = true := Store.keep_ok h rfl hc

theorem Store.tear_ok {st : Store} (h : st.ok = true) {c : Content} (hc : c.ok = true) : (st.tear c).ok = true := Store.keep_ok h rfl hc

theorem Store.read_ok {st : Store} (h : st.ok = true) {id : RecordId} {c : Content} (hc : st.read id = some c) : c.id = id ∧ c.ok = true := by
  obtain ⟨ids, -, ok⟩ := st.ok_iff.mp h
  unfold Store.read at hc
  cases hf : st.records.find? fun r => r.id == id with
  | none => rw [hf] at hc; cases hc
  | some r =>
    rw [hf] at hc
    simp only [Option.bind_some] at hc
    split at hc
    · cases hc
      have mem := List.mem_of_find?_eq_some hf
      have key := List.find?_some hf
      exact ⟨(ids r mem).trans (beq_iff_eq.mp key), ok r mem⟩
    · cases hc

section Restored
variable {st : Store}

theorem Store.activeSettings_ok (h : st.ok = true) : (st.activeSettings.getD .default).ok = true := by
  unfold Store.activeSettings
  split
  · next hr => exact (Store.read_ok h hr).2
  · decide

theorem Store.userCurve1_ok (h : st.ok = true) : (st.userCurve1.getD curveD1).ok = true := by
  unfold Store.userCurve1
  split
  · next hr => exact (Store.read_ok h hr).2
  · decide

theorem Store.userCurve2_ok (h : st.ok = true) : (st.userCurve2.getD curveD2).ok = true := by
  unfold Store.userCurve2
  split
  · next hr => exact (Store.read_ok h hr).2
  · decide

theorem Store.mechanism_ok (h : st.ok = true) : (st.mechanism.getD .substitute).settings.ok = true := by
  unfold Store.mechanism
  split
  · next hr => exact (Store.read_ok h hr).2
  · decide

theorem Store.battery_ok (h : st.ok = true) : (st.battery.getD .default).ok = true := by
  unfold Store.battery
  split
  · next hr => exact (Store.read_ok h hr).2
  · decide

theorem Store.link_ok (h : st.ok = true) : (st.link.getD .default).ok = true := by
  unfold Store.link
  split
  · next hr => exact (Store.read_ok h hr).2
  · decide

theorem Store.tracker_ok (h : st.ok = true) : (st.tracker.getD .default).ok = true := by
  unfold Store.tracker
  split
  · next hr => exact (Store.read_ok h hr).2
  · decide

theorem Store.recordRing_ok (h : st.ok = true) : (st.recordRing.getD []).length ≤ 32 := by
  unfold Store.recordRing
  split
  · next hr => exact (within_iff.mp (Store.read_ok h hr).2).2
  · decide

theorem numberAfter_le (ring : List OpRecord) : numberAfter ring ≤ 65535 := by
  unfold numberAfter
  cases ring.getLast? with
  | none => simp
  | some r => simp; omega

theorem Store.restoredCounters_ok (h : st.ok = true) : st.restoredCounters.ok = true := by
  have numbered {c : Counters} (hc : c.ok = true) : Counters.ok { c with next := numberAfter (st.recordRing.getD []) } = true := by
    rw [Counters.ok_iff] at hc ⊢
    obtain ⟨total, trips, lockouts, a, b, c, limit, -⟩ := hc
    exact ⟨total, trips, lockouts, a, b, c, limit, numberAfter_le _⟩
  unfold Store.restoredCounters
  dsimp only
  split
  · next c hc =>
    have ok : c.ok = true := by
      unfold Store.counters at hc
      split at hc
      · next hr => cases hc; exact (Store.read_ok h hr).2
      · cases hc
    split
    · exact numbered ok
    · exact ok
  · exact numbered (by decide)

/-! ### The restored tag table (R91) -/

theorem Store.slot_ok (h : st.ok = true) {n : Nat} {t : Tag} (ht : st.slot n = some (some t)) : t.ok = true := by
  unfold Store.slot at ht
  split at ht
  · next m x hr =>
    cases ht
    have ok := (Store.read_ok h hr).2
    simp only [Content.ok, Option.all_some, Bool.and_eq_true] at ok
    exact ok.2
  · cases ht

theorem Store.mem_entries {e : Nat × Tag} : e ∈ st.entries ↔ e.1 < 8 ∧ ∃ t, st.slot e.1 = some (some t) ∧ e.2 = { t with slot := e.1 } := by
  unfold Store.entries
  rw [List.mem_filterMap]
  constructor
  · rintro ⟨n, hn, he⟩
    split at he
    · next t ht => cases he; exact ⟨List.mem_range.mp hn, t, ht, rfl⟩
    · cases he
  · rintro ⟨hn, t, ht, he⟩
    refine ⟨e.1, List.mem_range.mpr hn, ?_⟩
    rw [ht]
    simp only [Option.some.injEq]
    exact Prod.ext rfl he.symm

theorem Store.entries_slots : (st.entries.map Prod.fst).Nodup := by
  have sub : (st.entries.map Prod.fst).Sublist (List.range 8) := by
    unfold Store.entries
    generalize List.range 8 = l
    induction l with
    | nil => exact .refl _
    | cons n rest ih =>
      rw [List.filterMap_cons]
      split
      · exact ih.cons _
      · next e he =>
        split at he
        · cases he; exact ih.cons_cons _
        · cases he
  exact List.nodup_range.sublist sub

theorem keepFirst_sublist : ∀ l : List (Nat × Tag), (keepFirst l).Sublist l
  | [] => .refl _
  | x :: rest => (List.filter_sublist.trans (keepFirst_sublist rest)).cons_cons x

theorem keepFirst_kinds : ∀ l : List (Nat × Tag), ((keepFirst l).map fun e => (e.2.crew, e.2.kind)).Nodup
  | [] => List.nodup_nil
  | x :: rest => by
    rw [keepFirst, List.map_cons, List.nodup_cons]
    refine ⟨fun hm => ?_, (keepFirst_kinds rest).sublist (List.filter_sublist.map _)⟩
    obtain ⟨y, hy, e⟩ := List.mem_map.mp hm
    have := (List.mem_filter.mp hy).2
    simp_all

theorem insertTag_perm (x : Tag) : ∀ l : List Tag, (insertTag x l).Perm (x :: l)
  | [] => .refl _
  | y :: rest => by
    rw [insertTag]
    split
    · exact .refl _
    · exact ((insertTag_perm x rest).cons y).trans (List.Perm.swap x y rest)

theorem insertTags_perm : ∀ l : List Tag, (l.foldr insertTag []).Perm l
  | [] => .refl _
  | x :: rest => (insertTag_perm x _).trans ((insertTags_perm rest).cons x)

/-- The restored entries, before they are put in order. -/
def Store.keptTags (st : Store) : List Tag :=
  (keepFirst st.entries).map (fun e => e.2) ++ (st.failSafeSlot.map Tag.failSafe).toList

theorem Store.tags_perm (st : Store) : st.tags.Perm st.keptTags := insertTags_perm _

theorem Store.mem_keptTags {t : Tag} (ht : t ∈ st.keptTags) : (t.slot, t) ∈ st.entries ∨ st.failSafeSlot = some t.slot ∧ t = .failSafe t.slot := by
  rcases List.mem_append.mp ht with ht | ht
  · obtain ⟨e, he, rfl⟩ := List.mem_map.mp ht
    have mem := (keepFirst_sublist _).subset he
    obtain ⟨-, t, -, ht⟩ := Store.mem_entries.mp mem
    left
    have : (e.2.slot, e.2) = e := Prod.ext (by rw [ht]) rfl
    rwa [this]
  · cases hf : st.failSafeSlot with
    | none => rw [hf] at ht; cases ht
    | some n =>
      rw [hf] at ht
      simp only [Option.map_some, Option.toList_some, List.mem_singleton] at ht
      subst ht
      exact .inr ⟨rfl, rfl⟩

theorem Store.failSafeSlot_spec {n : Nat} (h : st.failSafeSlot = some n) :
    n < 8 ∧ st.slot n = none ∧ ∀ e ∈ st.entries, ¬(e.2.kind = .hotLine ∧ e.2.crew = 0) := by
  unfold Store.failSafeSlot at h
  split at h
  · cases h
  · next no =>
    have mem := List.mem_of_head? h
    obtain ⟨range, none⟩ := List.mem_filter.mp mem
    refine ⟨List.mem_range.mp range, by simpa using none, fun e he hk => no ?_⟩
    rw [List.any_eq_true]
    exact ⟨e, he, by simp [hk]⟩

theorem Store.keptTags_slots : (st.keptTags.map Tag.slot).Nodup := by
  have slots : ((keepFirst st.entries).map fun e => e.2).map Tag.slot = (keepFirst st.entries).map Prod.fst := by
    rw [List.map_map]
    refine List.map_congr_left fun e he => ?_
    obtain ⟨-, t, -, ht⟩ := Store.mem_entries.mp ((keepFirst_sublist _).subset he)
    simp [ht]
  rw [Store.keptTags, List.map_append, List.nodup_append, slots]
  refine ⟨Store.entries_slots.sublist ((keepFirst_sublist _).map _), ?_, fun n hn m hm => ?_⟩
  · cases st.failSafeSlot <;> simp
  · cases hf : st.failSafeSlot with
    | none => rw [hf] at hm; cases hm
    | some k =>
      rw [hf] at hm
      simp only [Option.map_some, Option.toList_some, List.map_cons, List.map_nil, List.mem_singleton] at hm
      obtain ⟨e, he, rfl⟩ := List.mem_map.mp hn
      obtain ⟨-, t, ht, -⟩ := Store.mem_entries.mp ((keepFirst_sublist _).subset he)
      have none := (Store.failSafeSlot_spec hf).2.1
      rintro rfl
      change e.1 = k at hm
      rw [hm, none] at ht
      cases ht

theorem Store.keptTags_kinds : (st.keptTags.map fun t => (t.crew, t.kind)).Nodup := by
  rw [Store.keptTags, List.map_append, List.nodup_append, List.map_map]
  refine ⟨keepFirst_kinds _, ?_, fun n hn m hm => ?_⟩
  · cases st.failSafeSlot <;> simp
  · cases hf : st.failSafeSlot with
    | none => rw [hf] at hm; cases hm
    | some k =>
      rw [hf] at hm
      simp only [Option.map_some, Option.toList_some, List.map_cons, List.map_nil, List.mem_singleton] at hm
      obtain ⟨e, he, rfl⟩ := List.mem_map.mp hn
      have other := (Store.failSafeSlot_spec hf).2.2 e ((keepFirst_sublist _).subset he)
      rintro rfl
      simp only [Function.comp, Tag.failSafe, Prod.mk.injEq] at hm
      exact other ⟨hm.2, hm.1⟩

theorem Store.keptTags_bound {t : Tag} (ht : t ∈ st.keptTags) : t.slot < 8 := by
  rcases Store.mem_keptTags ht with he | ⟨hf, -⟩
  · exact (Store.mem_entries.mp he).1
  · exact (Store.failSafeSlot_spec hf).1

theorem Store.tags_ok (h : st.ok = true) : st.tags.all Tag.ok = true := by
  rw [List.all_eq_true]
  intro t ht
  have kept := st.tags_perm.mem_iff.mp ht
  have bound := Store.keptTags_bound kept
  rcases Store.mem_keptTags kept with he | ⟨-, he⟩
  · obtain ⟨-, t', ht', e⟩ := Store.mem_entries.mp he
    have ok := Store.slot_ok h ht'
    dsimp only at e
    rw [e]
    simp only [Tag.ok, Bool.and_eq_true, within_iff] at ok ⊢
    exact ⟨⟨⟨⟨Nat.zero_le _, by omega⟩, ok.1.1.2⟩, ok.1.2⟩, ok.2⟩
  · rw [he]
    simp only [Tag.ok, Tag.failSafe, Bool.and_eq_true, within_iff]
    exact ⟨⟨⟨⟨Nat.zero_le _, by omega⟩, by decide⟩, by decide⟩, rfl⟩

theorem placementsAfter_le (tags : List Tag) : placementsAfter tags ≤ 4294967295 := by
  unfold placementsAfter
  split
  · omega
  · exact satSucc_le _ _

/-! ### The dark part and the restored part -/

/-- A part without supply is in order when its store is. -/
theorem State.dark_records (h : st.ok = true) (contactor : Bool) (free : Nat) (pending : List Instr) :
    (State.dark st contactor free pending).recordsInv := by
  have settings : Settings.default.ok = true := by decide
  have curves : CurveTable.ok curveD1 = true ∧ CurveTable.ok curveD2 = true := by decide
  have mechanism : MechanismSettings.default.ok = true := by decide
  have counters : Counters.zero.ok = true := by decide
  have battery : BatteryRecord.default.ok = true := by decide
  have link : LinkSettings.default.ok = true := by decide
  have tracker : TrackerSettings.default.ok = true := by decide
  refine ⟨?_, List.nodup_nil, settings, rfl, curves.1, curves.2, rfl, Nat.zero_le _, mechanism, counters, Nat.zero_le _, battery, link, tracker,
    Nat.zero_le _, Nat.zero_le _, Nat.zero_le _⟩
  rw [Nvs.ok_iff]
  exact ⟨h, by simp [State.dark], by simp [State.dark]⟩

end Restored

section StartUp
variable {s₀ s : State}

theorem State.dark_others (st : Store) (contactor : Bool) (free : Nat) (pending : List Instr) :
    (State.dark st contactor free pending).sequenceInv ∧ (State.dark st contactor free pending).linkInv
      ∧ (State.dark st contactor free pending).poolInv ∧ (State.dark st contactor free pending).authorityInv := by
  refine ⟨⟨?_, ?_, ?_⟩, ⟨?_, ?_⟩, ?_, ?_⟩
  · simp [State.dark, State.reset, Sqc.shotOk]
  · simp [State.dark, State.reset]
  · simp [State.dark, State.reset]
  · simp [State.dark, State.reset]
  · simp [State.dark, State.reset, standingOf, LinkSettings.default]
  · simp [State.dark, State.reset, State.poolInv, Rpu.used, Rpu.eventOrMeasureCount]
  · simp [State.dark, State.reset, State.authorityInv, Panel.isRunning]

theorem Nvs.lose_ok {n : Nvs} (h : n.ok = true) : n.lose.store.ok = true := by
  obtain ⟨store, -, writing⟩ := n.ok_iff.mp h
  unfold Nvs.lose
  dsimp only
  split
  · next w hw =>
    unfold Store.cutOff
    split
    · exact store
    · exact Store.tear_ok store (writing w hw)
  · exact store

theorem Keeps.powerLoss (h : Keeps s₀ s) : Keeps s₀ s.powerLoss := by
  obtain ⟨sequence, link, pool, authority⟩ := State.dark_others s.nvs.lose.store s.bcu.contactorClosed s.freeIndex s.pending
  exact h.trans ⟨fun r => State.dark_records (Nvs.lose_ok r.nvs.1) _ _ _, fun _ _ => sequence, fun _ _ => link, fun _ => pool,
    fun _ => authority⟩

/-- The warn level of a record in range (Table 7-6). -/
theorem LinkSettings.ok_warn {l : LinkSettings} (h : l.ok = true) : 8 ≤ l.warnLevel := by
  simp only [LinkSettings.ok, Option.isNone_iff_eq_none, badField_none] at h
  exact (within_iff.mp (h.2 (within 8 160 l.warnLevel) (by simp [linkChecks, LinkSettings.fields]))).1

theorem State.restored_authority (s : State) : s.restored.authorityInv := by
  have perm := s.nvs.store.tags_perm
  have slots : (s.nvs.store.tags.map Tag.slot).Nodup := (perm.map _).nodup_iff.mpr Store.keptTags_slots
  have bound (t : Tag) (ht : t ∈ s.nvs.store.tags) : t.slot < 8 := Store.keptTags_bound (perm.mem_iff.mp ht)
  exact ⟨slots_length bound slots, bound, slots, (perm.map _).nodup_iff.mpr Store.keptTags_kinds, fun _ => rfl, fun _ => rfl⟩

theorem State.restored_records (h : s.nvs.store.ok = true) : s.restored.recordsInv := by
  refine ⟨?_, List.nodup_nil, Store.activeSettings_ok h, rfl, Store.userCurve1_ok h, Store.userCurve2_ok h, Store.tags_ok h,
    placementsAfter_le _, Store.mechanism_ok h, Store.restoredCounters_ok h, Store.recordRing_ok h, Store.battery_ok h, Store.link_ok h,
    Store.tracker_ok h, Nat.zero_le _, Nat.zero_le _, Nat.zero_le _⟩
  rw [Nvs.ok_iff]
  exact ⟨h, by simp [State.restored, State.dark], by simp [State.restored, State.dark]⟩

theorem Keeps.restored (h : Keeps s₀ s) : Keeps s₀ s.restored := by
  refine h.trans ⟨fun r => State.restored_records (s.nvs.ok_iff.mp r.nvs.1).1, fun _ _ => ?_, fun r _ => ?_, fun _ => ?_, fun _ => s.restored_authority⟩
  · exact ⟨Nat.zero_le _, Nat.zero_le _, fun _ => ⟨rfl, rfl⟩⟩
  · have warn := LinkSettings.ok_warn (Store.link_ok (s.nvs.ok_iff.mp r.nvs.1).1)
    refine ⟨Nat.zero_le _, ?_⟩
    change Standing.good = standingOf (s.nvs.store.link.getD .default).warnLevel 0
    rw [standingOf, if_pos (by omega)]
  · exact (State.dark_others s.nvs.store true s.freeIndex s.pending).2.2.1

/-- The records reported failed are ones the store can hold. -/
theorem Store.failed_known {st : Store} {id : RecordId} (h : id ∈ st.failed) : id.known := by
  unfold Store.failed idWhen at h
  simp only [List.mem_append, List.mem_map] at h
  rcases h with ((((((((((h | h) | h) | ⟨n, hn, rfl⟩) | h) | h) | h) | h) | h) | h) | h) | h
  case inl.inl.inl.inl.inl.inl.inl.inl.inr => exact List.mem_range.mp (List.mem_filter.mp hn).1
  all_goals
    split at h
    · rw [List.mem_singleton.mp h]; trivial
    · cases h

theorem Keeps.announceFailed (h : Keeps s₀ s) (st : Store) : Keeps s₀ (s.announceFailed st) := by
  have placed : ∀ (l : List RecordId) (t : State), (∀ id ∈ l, id.known) → Keeps s₀ t → Keeps s₀ (l.foldl (fun s id => s.place id) t) := by
    intro l
    induction l with
    | nil => exact fun _ _ ht => ht
    | cons id rest ih =>
      exact fun t hk ht => ih _ (fun i hi => hk i (List.mem_cons_of_mem _ hi)) (ht.place id (hk id List.mem_cons_self))
  unfold State.announceFailed
  split
  · exact h
  · exact placed _ _ (fun _ => Store.failed_known) ((h.alarm _ _).raise _)

theorem Keeps.announceLostTest (h : Keeps s₀ s) : Keeps s₀ s.announceLostTest := by
  unfold State.announceLostTest
  split
  · refine Keeps.bcu (Keeps.announce ?_ _ _ fun _ k => k) _ (by rfl)
    exact (h.free _).withStored (fun b => { b with pending := false }) fun _ ok => ok
  · exact h

theorem Keeps.announceLatch (h : Keeps s₀ s) : Keeps s₀ s.announceLatch := by
  unfold State.announceLatch
  split
  · exact (h.raise _).mechanismAlarm _ _
  · exact h

theorem Keeps.start (h : Keeps s₀ s) : Keeps s₀ s.start := by
  have failed := (h.restored.event .start [s.nvs.store.cause.code]).announceFailed s.nvs.store
  unfold State.start
  dsimp only
  refine Keeps.announceLostTest (Keeps.announceLatch ?_)
  split
  · exact failed.place .shutdownMark
  · exact failed

theorem Keeps.powerOn (h : Keeps s₀ s) (contacts : Option Contacts) : Keeps s₀ (s.powerOn contacts) := by
  have dark : Keeps s₀ (if s.powered then s.powerLoss else s) := by
    split
    · exact h.powerLoss
    · exact h
  unfold State.powerOn
  dsimp only
  split
  · exact dark.start.contactsRead _
  · exact dark.start

/-! ### Store writes (R185) -/

theorem Keeps.writeOver (h : Keeps s₀ s) (content : Content) : Keeps s₀ (s.writeOver content) := by
  have next : Keeps s₀ { s with nvs := ({ s.nvs with writing := none } : Nvs).kick } := by
    refine h.nvs _ (fun n => Nvs.kick_ok ?_) fun q => Nvs.kick_nodup q
    rw [Nvs.ok_iff] at n ⊢
    exact ⟨n.1, n.2.1, by simp⟩
  unfold State.writeOver
  dsimp only
  split
  · exact Keeps.powerLoss (next.bcu _ (by rfl))
  · exact next.drainStore

/-- The write in progress has ended, and the store holds what it left. -/
theorem Keeps.written (h : Keeps s₀ s) {w : Writing} (hw : s.nvs.writing = some w) {st : Store}
    (hs : s.nvs.store.ok = true → w.content.ok = true → st.ok = true) : Keeps s₀ { s with nvs := { s.nvs with store := st } } := by
  refine h.nvs _ (fun n => ?_) fun q => q
  rw [Nvs.ok_iff] at n ⊢
  obtain ⟨store, queue, writing⟩ := n
  exact ⟨hs store (writing w hw), queue, writing⟩

theorem Keeps.writeComplete (h : Keeps s₀ s) (readBack : ReadBack) : Keeps s₀ (s.writeComplete readBack) := by
  unfold State.writeComplete
  split
  · exact h
  · next w hw =>
    split
    · exact (h.written hw fun st c => Store.put_ok st c).writeOver _
    · split
      · refine h.nvs _ (fun n => ?_) fun q => q
        rw [Nvs.ok_iff] at n ⊢
        obtain ⟨store, queue, writing⟩ := n
        exact ⟨store, queue, fun w' hw' => by cases hw'; exact writing w hw⟩
      · refine (Keeps.raise (Keeps.alarm (h.written hw fun st c => ?_) _ _) _).writeOver _
        unfold Store.giveUp
        split
        · exact st
        · exact Store.tear_ok st c

end StartUp
end Sys2Proof.Machine
end

section
/-! PROOFS. What every event and every step keeps, and the invariants that follow (R91, R134, R150, R184). -/

namespace Sys2Proof.Machine

section Events
variable {s₀ s : State}

/-! ### Contacts -/

theorem Keeps.hear {α : Type} [DecidableEq α] {k : Contact α} (h : Keeps s₀ s) (keep : ∀ x t, Keeps s₀ t → Keeps s₀ (k.keep x t))
    (take : ∀ a t, Keeps s₀ t → Keeps s₀ (k.take a t)) (reading : α) : Keeps s₀ (k.hear reading s) := by
  have settle {t : State} (ht : Keeps s₀ t) : Keeps s₀ (k.settle t) := by
    unfold Contact.settle
    split
    · split
      · exact take _ _ (keep _ _ ht)
      · exact ht
    · exact ht
  unfold Contact.hear
  split
  · split
    · exact settle (h.reach _)
    · exact keep _ _ (settle h)
  · exact keep _ _ (settle h)

/-- A stand, a reading or a mark of the AU that no invariant reads. -/
theorem Keeps.marks (h : Keeps s₀ s) (a : Au) (ht : a.tags = s.au.tags) (hp : a.placements = s.au.placements) (hm : a.mode = s.au.mode)
    (hs : a.selection = s.au.selection) (hd : a.panel = s.au.panel) : Keeps s₀ { s with au := a } :=
  h.au a ht hp fun i => by
    unfold State.authorityInv at *
    simpa only [ht, hm, hs, hd] using i

theorem Keeps.keyReading (h : Keeps s₀ s) (mode : ControlMode) : Keeps s₀ (s.keyReading mode) := by
  unfold State.keyReading
  split
  · exact h.marks _ rfl rfl rfl rfl rfl
  · split
    · exact h.changeMode _
    · exact h.newMode _ _

theorem Keeps.buttonReading (h : Keeps s₀ s) (pressed : Bool) : Keeps s₀ (s.buttonReading pressed) := by
  have read : Keeps s₀ (s.withAu fun a => { a with buttonPressed := pressed }) := h.marks _ rfl rfl rfl rfl rfl
  unfold State.buttonReading
  dsimp only
  split
  · exact read.requestTrip _
  · exact read

/-! ### The radio -/

/-- The RPU's supply and timers, which no invariant reads. -/
theorem Keeps.radio (h : Keeps s₀ s) (r : Rpu) (hr : r.used = s.rpu.used ∧ r.qAlarm = s.rpu.qAlarm ∧ r.qEvent = s.rpu.qEvent
      ∧ r.qMeasure = s.rpu.qMeasure ∧ r.held = s.rpu.held := by exact ⟨rfl, rfl, rfl, rfl, rfl⟩)
    (hl : r.settings = s.rpu.settings := by rfl) (ha : r.answers = s.rpu.answers := by rfl) (hs : r.score = s.rpu.score := by rfl)
    (ht : r.standing = s.rpu.standing := by rfl) : Keeps s₀ { s with rpu := r } := by
  obtain ⟨used, alarms, events, measures, held⟩ := hr
  refine h.rpu r hl (le_of_eq (congrArg _ ha)) hs ht fun p => ?_
  unfold Rpu.poolOk Rpu.eventOrMeasureCount at *
  simpa only [used, alarms, events, measures, held] using p

theorem Rpu.find_mem {r : Rpu} {object : Nat} {x : Report} (h : r.find object = some x) :
    x ∈ r.qAlarm ++ r.held ++ r.qEvent ++ r.qMeasure := List.mem_of_find?_eq_some h

theorem Keeps.startFrame (h : Keeps s₀ s) (item : TxItem) : Keeps s₀ (s.startFrame item) := by
  unfold State.startFrame
  split
  · split
    · next a rest ha =>
      refine h.rpu _ rfl ?_ rfl rfl fun p => p
      rw [ha]
      exact Nat.le_succ _
    · exact h
  · split
    · next object disconnect x hx =>
      refine h.rpu _ rfl le_rfl rfl rfl fun p => ?_
      have out := Rpu.takeOut_subperm p (Rpu.find_mem hx)
      refine Rpu.poolOk_of_takeOut (x := x) p (without_sublist _ _) (without_sublist _ _) (without_sublist _ _) (without_sublist _ _) rfl
        (List.Subperm.trans ((List.subperm_cons _).mpr (List.Sublist.subperm ?_)) out)
      exact List.Sublist.map _ ((((List.Sublist.refl _).append (.refl _)).append (List.nil_sublist _)).append (.refl _))
    · exact h

theorem Keeps.frameMayStart (h : Keeps s₀ s) : Keeps s₀ s.frameMayStart := by
  unfold State.frameMayStart
  split
  · next t _ =>
    dsimp only
    split
    · exact Keeps.startFrame ((h.reach t).radio { s.rpu with radio := .on }) _
    · exact h
  · exact h

theorem Keeps.frameOver (h : Keeps s₀ s) (tx : Transmission) : Keeps s₀ (s.frameOver tx) := by
  have ended : Keeps s₀ { s.reach tx.ends with rpu := { s.rpu with tx := none } } := (h.reach tx.ends).radio _
  unfold State.frameOver
  dsimp only
  split
  · exact ended
  · split
    · split
      · exact Keeps.radioDone (Keeps.lastCall (ended.radio _) _)
      · exact Keeps.radioDone (ended.lastCall _)
    · split
      · exact ended.radio _
      · exact ended

theorem Keeps.channelWaitOver (h : Keeps s₀ s) : Keeps s₀ s.channelWaitOver := by
  have cleared : Keeps s₀ { s with rpu := { s.rpu with channelWait := none } } := h.radio _
  unfold State.channelWaitOver
  dsimp only
  split
  · refine cleared.rpu { s.rpu with channelWait := none, answers := s.rpu.answers.drop 1 } rfl ?_ rfl rfl fun p => p
    simp
  · split
    · next object _ _ x hx =>
      have charged : Keeps s₀ (State.charge false x { s with rpu := { s.rpu with channelWait := none } }) :=
        h.chargeFrom (r := { s.rpu with channelWait := none }) false x rfl rfl (fun p => p) fun p => Rpu.takeOut_subperm p (Rpu.find_mem hx)
      split
      · exact charged.radio _
      · exact charged
    · exact cleared
  · exact cleared

theorem Rpu.carrierTo_fields (active : Bool) (now : Nat) (r : Rpu) : ∃ carrier holdoff,
    r.carrierTo active now = { r with carrier := carrier, holdoff := holdoff } := by
  unfold Rpu.carrierTo
  split
  · exact ⟨_, _, rfl⟩
  · exact ⟨_, _, rfl⟩

theorem Keeps.radioGivenUp (h : Keeps s₀ s) : Keeps s₀ s.radioGivenUp := by
  unfold State.radioGivenUp
  split
  · exact Keeps.radioDone ((h.reach _).lastCall _)
  · exact h

/-! ### Line events -/

theorem Oeb.update_curves (settings : Settings) (shot dt : Nat) (c : Currents) (o : Oeb) :
    (o.update settings shot dt c).1.u1 = o.u1 ∧ (o.update settings shot dt c).1.u2 = o.u2 := by
  unfold Oeb.update
  dsimp only
  split <;> exact ⟨rfl, rfl⟩

theorem Keeps.updateLine (h : Keeps s₀ s) (r : Readings) : Keeps s₀ (s.updateLine r) := by
  obtain ⟨u1, u2⟩ := Oeb.update_curves ((s.reach (s.lmu.lastUpdate + s.lmu.interval)).measureLine r).sqc.active
    ((s.reach (s.lmu.lastUpdate + s.lmu.interval)).measureLine r).sqc.shot s.lmu.interval
    ((s.reach (s.lmu.lastUpdate + s.lmu.interval)).measureLine r).lmu.currents
    ((s.reach (s.lmu.lastUpdate + s.lmu.interval)).measureLine r).oeb
  exact Keeps.takeUpdate (((h.reach _).measureLine r).oeb _ u1 u2) _

theorem Lmu.setChannel_settings (c : Channel) (v : VoltageChannel) (l : Lmu) : (l.setChannel c v).settings = l.settings := by
  cases c <;> rfl

theorem Keeps.cycleComplete (h : Keeps s₀ s) (c : Channel) (length : Nat) : Keeps s₀ (s.cycleComplete c length) :=
  (Keeps.followSource ((h.reach _).lmu _ (Lmu.setChannel_settings _ _ _)) c).keepLock

theorem Keeps.crossingLost (h : Keeps s₀ s) (c : Channel) : Keeps s₀ (s.crossingLost c) := by
  unfold State.crossingLost
  split
  · exact h
  · exact Keeps.keepLock ((h.reach _).lmu _ (Lmu.setChannel_settings _ _ _))

theorem Keeps.lockQualified (h : Keeps s₀ s) : Keeps s₀ s.lockQualified := by
  unfold State.lockQualified
  repeat' split
  all_goals first | exact h | exact (h.reach _).lockTo _

theorem Keeps.holdoverOver (h : Keeps s₀ s) : Keeps s₀ s.holdoverOver := by
  unfold State.holdoverOver
  split
  · exact (h.reach _).setTracker _ _
  · exact h

/-! ### Sequence events -/

theorem Keeps.intervalOver (h : Keeps s₀ s) : Keeps s₀ s.intervalOver := by
  unfold State.intervalOver
  split
  · next d hq =>
    refine (h.reach d).reclose _ (fun i => i.reported (by simp [hq])) (fun i => ?_) ⟨_, rfl⟩
    have less := i.1
    unfold Sqc.shotOk at less
    simpa [hq] using less
  · exact h

theorem Keeps.energyWaitOver (h : Keeps s₀ s) : Keeps s₀ s.energyWaitOver := by
  unfold State.energyWaitOver
  split
  · next d hq => exact ((h.reach d).enterLockout _ _ fun i => i.reported (by simp [hq])).alarm _ _
  · exact h

theorem Keeps.reclaimOver (h : Keeps s₀ s) : Keeps s₀ s.reclaimOver := by
  unfold State.reclaimOver
  split
  · next d hq => exact (h.reach d).enterReady fun i => i.reported (by simp [hq])
  · exact h

/-! ### Every command -/

/-- Every event keeps what every request keeps. -/
theorem exec_event_keeps {c : Instr} {t : State} (hc : c.request = none) (h : exec c s = .next t) : Keeps s t := by
  have k := Keeps.refl s
  cases c <;> first | (cases hc; done) | dsimp only [exec] at h
  case badFrame port bytes =>
    refine k.act ?_ h
    cases port
    · exact k.transactOnC _
    · exact k.receive _ _
    · exact k.receive _ _
  case answerRead n => exact k.act (k.readAnswer n) h
  case pAnswerSend => exact k.act k.sendAnswer h
  case frameGapTimeout port bytes =>
    refine k.act ?_ h
    unfold State.gapOver
    dsimp only
    split
    · exact k.receive _ _
    · exact ((k.receive _ _).reach _).failPartial _
  case lineBreak port bytes => exact k.act ((k.receive port bytes).setParser port [] _) h
  case uartFramingError port bytes => exact k.act ((k.receive port bytes).failPartial port) h
  case ack => exact k.ack h
  case powerOn contacts =>
    cases h
    exact (k.powerOn contacts).rejudge
  case resetInAsserted =>
    refine k.act (f := fun s => if s.ports.resetIn then s else s.interfaceReset) ?_ h
    split
    · exact k
    · exact k.interfaceReset
  case resetInReleased => exact k.act (k.ports { s.ports with resetIn := false } rfl rfl) h
  case measurementUpdate r => exact k.act (k.updateLine r) h
  case sourceCycleComplete c length => exact k.act (k.cycleComplete c length) h
  case noCrossingTimeout c => exact k.act (k.crossingLost c) h
  case sourceLockQualified => exact k.act k.lockQualified h
  case holdoverTimerExpiry => exact k.act k.holdoverOver h
  case capacitorMeasurement v => exact k.act ((k.reach _).measureCapacitor v) h
  case lowEnergyWatchExpiry =>
    refine k.act ?_ h
    split
    · exact (k.reach _).raiseLowEnergy
    · exact k
  case poleIndicationChange c => exact k.act (k.contactsRead c) h
  case tripPulseEnd => exact k.act k.tripPulseOver h
  case tripSettleExpiry => exact k.act k.tripWindowOver h
  case retripSettleExpiry => exact k.act k.retripWindowOver h
  case closePulseEnd => exact k.act k.closePulseOver h
  case closeSettleExpiry => exact k.act k.closeWindowOver h
  case invalidWatchExpiry => exact k.act k.invalidWatchOver h
  case mixedWatchExpiry => exact k.act k.mixedWatchOver h
  case recloseIntervalExpiry => exact k.act k.intervalOver h
  case energyWaitExpiry => exact k.act k.energyWaitOver h
  case reclaimExpiry => exact k.act k.reclaimOver h
  case controlKeyChange reading =>
    exact k.act (k.hear (fun _ _ ht => ht.marks _ (by rfl) (by rfl) (by rfl) (by rfl) (by rfl)) (fun _ _ ht => ht.keyReading _) reading) h
  case supervisorKeyChange held =>
    exact k.act (k.hear (fun _ _ ht => ht.marks _ (by rfl) (by rfl) (by rfl) (by rfl) (by rfl)) (fun _ _ ht => ht.marks _ (by rfl) (by rfl) (by rfl) (by rfl) (by rfl)) held) h
  case handleLockChange pulled =>
    exact k.act (k.hear (fun _ _ ht => ht.marks _ (by rfl) (by rfl) (by rfl) (by rfl) (by rfl)) (fun _ _ ht => ht.marks _ (by rfl) (by rfl) (by rfl) (by rfl) (by rfl)) pulled) h
  case tripPushbutton =>
    exact k.act (k.hear (k := pushbutton) (fun _ _ ht => ht.marks _ (by rfl) (by rfl) (by rfl) (by rfl) (by rfl)) (fun _ _ ht => ht.buttonReading _) true) h
  case tripPushbuttonRelease =>
    exact k.act (k.hear (k := pushbutton) (fun _ _ ht => ht.marks _ (by rfl) (by rfl) (by rfl) (by rfl) (by rfl)) (fun _ _ ht => ht.buttonReading _) false) h
  case selectionExpiry =>
    refine k.act ?_ h
    split
    · exact (k.reach _).clearSelection
    · exact k
  case panelCloseDelayExpiry =>
    refine k.act ?_ h
    split
    · exact (k.reach _).placePanelClose
    · exact k
  case acStateChange present =>
    exact k.act (k.hear (k := acSense) (fun _ _ ht => ht.bcu _ rfl) (fun _ _ ht => ht.acReading _) present) h
  case batteryMeasurement v i temperature => exact k.act ((k.reach _).measureBattery v i temperature) h
  case absorbTimeout =>
    refine k.act ?_ h
    split
    · exact (k.reach _).bcu _ rfl
    · exact k
  case floatDropExpiry =>
    refine k.act ?_ h
    split
    · exact (k.reach _).bcu _ (Bcu.toBulk_stored _)
    · exact k
  case disconnectTimerExpiry =>
    refine k.act ?_ h
    split
    · exact (k.reach _).setTier _
    · exact k
  case shutdownRadioTimeout => exact k.act k.radioGivenUp h
  case shutdownStoreTimeout =>
    refine k.act ?_ h
    split
    · exact (k.reach _).writeMark
    · exact k
  case dayIncrease => exact k.act (k.reach _).dayPassed h
  case scheduledTestAttempt =>
    refine k.act ?_ h
    split
    · exact (k.reach _).attempt _
    · exact k
  case restTimerExpiry v =>
    refine k.act ?_ h
    split
    · exact (k.reach _).endRest _
    · exact k
  case loadTimerExpiry v i =>
    refine k.act ?_ h
    split
    · exact (k.reach _).endLoad _ _
    · exact k
  case suspensionTimerExpiry =>
    refine k.act ?_ h
    split
    · exact (k.reach _).abortTest _
    · exact k
  case floatWindowComplete =>
    refine k.act ?_ h
    split
    · exact k.closeFloatWindow
    · exact k
  case hotHourComplete =>
    refine k.act ?_ h
    split
    · exact k.closeHotHour
    · exact k
  case measurementTimerExpiry =>
    refine k.act ?_ h
    split
    · exact (k.reach _).takeSnapshots.radio _
    · exact k
  case transmitFrameStart => exact k.act k.frameMayStart h
  case frameEnd =>
    refine k.act ?_ h
    split
    · exact k.frameOver _
    · exact k
  case ackTimeout =>
    refine k.act ?_ h
    split
    · exact (k.reach _).chargeInFlight
    · exact k
  case channelWaitTimeout =>
    refine k.act ?_ h
    split
    · exact (k.reach _).channelWaitOver
    · exact k
  case probeTimerExpiry =>
    refine k.act ?_ h
    split
    · exact (k.reach _).radio _
    · exact k
  case radioWarmupEnd =>
    refine k.act ?_ h
    split
    · exact (k.reach _).radio _
    · exact k
  case carrierDetectChange active =>
    obtain ⟨carrier, holdoff, e⟩ := s.rpu.carrierTo_fields active s.now
    refine k.act (f := fun s => { s with rpu := s.rpu.carrierTo active s.now }) ?_ h
    rw [e]
    exact k.radio _
  case listenWindowOpen =>
    refine k.act ?_ h
    split
    · exact (k.reach _).radio _
    · exact k
  case listenWindowClose =>
    refine k.act ?_ h
    split
    · exact (k.reach _).radio _
    · exact k
  case storeWriteComplete readBack =>
    cases h
    split
    · dsimp only
      split
      · exact (k.writeComplete readBack).rejudge
      · exact k.writeComplete readBack
    · exact k
  case notBeforeTimeReached number =>
    refine k.act ?_ h
    split
    · exact k.reach _
    · exact k
  case powerLoss =>
    cases h
    split
    · exact k.powerLoss
    · exact k

theorem exec_keeps {c : Instr} {t : State} (h : exec c s = .next t) : Keeps s t := by
  cases hc : c.request with
  | some r => exact exec_request_keeps (by rw [hc]; rfl) h
  | none => exact exec_event_keeps hc h

theorem Keeps.idle (h : Keeps s₀ s) : Keeps s₀ s.idle := by
  unfold State.idle
  split
  · split
    · exact h.queue _
    · exact (h.reach _).queue _
  · exact h

/-- Every step keeps the records in range, the sequence, the link, the pool and the authority. -/
theorem step_keeps {t : State} (h : step s = .next t) : Keeps s t := by
  cases hp : s.pending with
  | nil =>
    rw [step_nil hp] at h
    cases h
    exact (Keeps.refl s).idle
  | cons c rest =>
    rw [step_cons hp] at h
    exact ((Keeps.refl s).queue rest).trans (exec_keeps h)

end Events

/-! ### The obligations -/

/-- Settles O56: each step keeps the records, the sequence and the link, operation by operation. -/
theorem stepsKeepRecordsSequenceAndLink : Obligations.StepsKeepRecordsSequenceAndLink := by
  unfold Obligations.StepsKeepRecordsSequenceAndLink
  intro s t records h
  have k := step_keeps h
  exact ⟨k.records records, k.sequence records, k.link records⟩

/-- Settles O57: each step keeps the tag table, the selection and the panel close delay, operation by operation. -/
theorem stepsKeepAuthority : Obligations.StepsKeepAuthority := by
  unfold Obligations.StepsKeepAuthority
  exact fun s t authority h => (step_keeps h).authority authority

/-- Settles O59: each step keeps the pool, operation by operation. -/
theorem stepsKeepThePool : Obligations.StepsKeepThePool := by
  unfold Obligations.StepsKeepThePool
  exact fun s t pool h => (step_keeps h).pool pool

end Sys2Proof.Machine
end

section
/-! PROOFS. The test load and the coils: what every operation keeps of them (R69, R70, R73, R79, R122). -/

namespace Sys2Proof.Machine

/-! ### The relations -/

/-- The test load's circuit: the running test, the load, the AC supply, and the BCU's notes of the MDR. -/
structure Circuit where
  test : Option TestRun
  loadOn : Bool
  acPresent : Bool
  opInFlight : Bool
  recharging : Bool

def Bcu.circuit (b : Bcu) : Circuit := ⟨b.test, b.loadOn, b.acPresent, b.opInFlight, b.recharging⟩

/-- The phase is LOAD. -/
def TestRun.loads (r : TestRun) : Bool :=
  match r.phase with
  | .load _ => true
  | _ => false

/-- The load is connected exactly in LOAD, a test runs with AC present only, and LOAD goes with nothing in flight and no recharge. -/
def Circuit.ok (c : Circuit) : Prop :=
  c.loadOn = c.test.any TestRun.loads ∧ (c.test.isSome = true → c.acPresent = true)
    ∧ (c.test.any TestRun.loads = true → c.opInFlight = false ∧ c.recharging = false)

theorem Bcu.inLoad_eq (b : Bcu) : b.inLoad = b.circuit.test.any TestRun.loads := by
  unfold Bcu.inLoad Bcu.circuit TestRun.loads
  cases b.test <;> rfl

theorem State.loadInv_iff (s : State) : s.loadInv ↔
    s.bcu.circuit.ok ∧ s.bcu.opInFlight = s.mdr.op.isSome ∧ s.bcu.recharging = s.mdr.rechargeSince.isSome := by
  unfold State.loadInv Circuit.ok
  rw [Bcu.inLoad_eq]
  simp only [Bcu.circuit, and_assoc]

/-- The load's and the coils' invariants hold after it where they held before. -/
structure Sound (s t : State) : Prop where
  load : s.loadInv → t.loadInv
  mechanism : s.mechanismInv → t.mechanismInv

/-- What no operation but the start of a close does: drive a close coil not driven before. -/
structure Drives (s t : State) : Prop extends Sound s t where
  quiet : t.mdr.closeDrive = true → s.mdr.closeDrive = true

theorem Sound.refl (s : State) : Sound s s := ⟨id, id⟩

theorem Sound.trans {s t u : State} (h : Sound s t) (h' : Sound t u) : Sound s u :=
  ⟨fun i => h'.load (h.load i), fun i => h'.mechanism (h.mechanism i)⟩

theorem Drives.refl (s : State) : Drives s s := ⟨Sound.refl s, id⟩

theorem Drives.trans {s t u : State} (h : Drives s t) (h' : Drives t u) : Drives s u :=
  ⟨h.toSound.trans h'.toSound, fun d => h.quiet (h'.quiet d)⟩

section Operations
variable {s₀ s : State}

/-- A change of neither the circuit nor the mechanism. -/
theorem Drives.same (h : Drives s₀ s) {t : State} (hb : t.bcu.circuit = s.bcu.circuit) (hm : t.mdr = s.mdr) : Drives s₀ t := by
  refine h.trans ⟨⟨fun i => ?_, fun i => ?_⟩, fun d => hm ▸ d⟩
  · have notes : t.bcu.opInFlight = s.bcu.opInFlight ∧ t.bcu.recharging = s.bcu.recharging :=
      ⟨congrArg Circuit.opInFlight hb, congrArg Circuit.recharging hb⟩
    rw [State.loadInv_iff] at i ⊢
    rw [hb, hm, notes.1, notes.2]
    exact i
  · unfold State.mechanismInv at *
    rwa [hm]

theorem Sound.same (h : Sound s₀ s) {t : State} (hb : t.bcu.circuit = s.bcu.circuit) (hm : t.mdr = s.mdr) : Sound s₀ t :=
  h.trans ((Drives.refl s).same hb hm).toSound

/-- A change of the MDR that keeps the load's notes of it right. -/
theorem Drives.mdr (h : Drives s₀ s) {t : State} (hb : t.bcu = s.bcu) (ho : t.mdr.op.isSome = s.mdr.op.isSome)
    (hr : t.mdr.rechargeSince.isSome = s.mdr.rechargeSince.isSome) (hm : s.mechanismInv → t.mechanismInv)
    (hq : t.mdr.closeDrive = true → s.mdr.closeDrive = true) : Drives s₀ t := by
  refine h.trans ⟨⟨fun i => ?_, hm⟩, hq⟩
  rw [State.loadInv_iff] at i ⊢
  rw [hb, ho, hr]
  exact i

/-- A change of the MDR's account, settings, poles or recharge. -/
theorem Drives.account (h : Drives s₀ s) {t : State} (hb : t.bcu = s.bcu) (hm : t.mdr = { s.mdr with
      poles := t.mdr.poles, settings := t.mdr.settings, vcap := t.mdr.vcap, lastMeasurement := t.mdr.lastMeasurement
      estimate := t.mdr.estimate, measuredEstimate := t.mdr.measuredEstimate, lowWatch := t.mdr.lowWatch }) : Drives s₀ t := by
  refine h.mdr hb ?_ ?_ (fun i => ?_) fun d => ?_
  · rw [hm]
  · rw [hm]
  · unfold State.mechanismInv at *
    rw [hm]
    exact i
  · rw [hm] at d
    exact d

/-! ### The circuit through the battery's operations -/

theorem State.withStored_circuit (f : BatteryRecord → BatteryRecord) (s : State) : (s.withStored f).bcu.circuit = s.bcu.circuit := rfl

theorem State.judgeVerdict_circuit (s : State) : s.judgeVerdict.bcu.circuit = s.bcu.circuit := by
  unfold State.judgeVerdict
  dsimp only
  repeat' split
  all_goals rfl

theorem State.attributeUpdate_circuit (f : Attributes → Attributes) (s : State) : (s.attributeUpdate f).bcu.circuit = s.bcu.circuit :=
  (s.withAttributes f).judgeVerdict_circuit

theorem State.testUpdate_circuit (f : Attributes → Attributes) (s : State) : (s.testUpdate f).bcu.circuit = s.bcu.circuit :=
  (s.withAttributes f).judgeVerdict_circuit

theorem State.testUpdates_circuit (res : TestResult) (v : Nat) (s : State) : (s.testUpdates res v).bcu.circuit = s.bcu.circuit := by
  unfold State.testUpdates
  dsimp only
  simp only [State.testUpdate_circuit, State.withStored_circuit]
  split <;> simp only [State.testUpdate_circuit]

theorem State.announce_circuit (e : TestEntry) (port : Option Port) {updates : State → State}
    (hu : ∀ t : State, (updates t).bcu.circuit = t.bcu.circuit) (s : State) : (s.announce e port updates).bcu.circuit = s.bcu.circuit := by
  have last : (s.announce e port updates).bcu = (updates (s.withStored fun b => { b with history := pushRing 8 e b.history })).bcu := by
    unfold State.announce
    simp only [State.releaseHold_frame, State.raise_bcu, State.event_bcu, State.place_bcu]
  rw [last]
  exact hu _

/-- A test that ends leaves the load off and no test running. -/
theorem State.leaveTest_circuit (s : State) : s.leaveTest.bcu.circuit = { s.bcu.circuit with test := none, loadOn := false } := rfl

theorem State.abortTest_circuit (cause : TestCause) {s : State} (h : s.bcu.test.isSome = true) :
    (s.abortTest cause).bcu.circuit = { s.bcu.circuit with test := none, loadOn := false } := by
  unfold State.abortTest
  split
  · exact (State.announce_circuit _ _ (fun _ => rfl) _).trans s.leaveTest_circuit
  · next h' => simp [h'] at h

/-- The circuit with no test running, or none in LOAD. -/
def Circuit.stopped (c c' : Circuit) : Prop :=
  c' = { c with test := c'.test, loadOn := false } ∧ (c'.test.isSome = true → c.test.isSome = true) ∧ c'.test.any TestRun.loads = false

/-- A suspension leaves the load off, whatever becomes of the test (R124). -/
theorem State.suspendTest_circuit {s : State} (h : s.bcu.loadOn = s.bcu.inLoad) : s.bcu.circuit.stopped s.suspendTest.bcu.circuit := by
  rw [Bcu.inLoad_eq] at h
  unfold State.suspendTest
  split
  · next r hr =>
    split
    · next holds =>
      have off : r.loads = false := by
        unfold Bcu.testHolds at holds
        unfold TestRun.loads
        simp only [hr] at holds
        cases hp : r.phase <;> simp_all
      have circuit : s.bcu.circuit.test = some r := hr
      refine ⟨?_, id, by simp [circuit, off]⟩
      have : s.bcu.loadOn = false := by rw [h, circuit]; exact off
      simp only [Bcu.circuit, this]
    · dsimp only
      split
      · rw [State.abortTest_circuit _ (by rfl)]
        exact ⟨rfl, by simp, rfl⟩
      · exact ⟨rfl, fun _ => by simp [Bcu.circuit, hr], rfl⟩
  · next hr =>
    have circuit : s.bcu.circuit.test = none := hr
    refine ⟨?_, id, by simp [circuit]⟩
    have : s.bcu.loadOn = false := by rw [h, circuit]; rfl
    simp only [Bcu.circuit, this]

theorem Circuit.stopped.ok {c c' : Circuit} (h : c.stopped c') (hc : c.test.isSome = true → c.acPresent = true) : c'.ok := by
  obtain ⟨e, test, loads⟩ := h
  refine ⟨by rw [e, ← loads], fun ht => ?_, fun hl => ?_⟩
  · rw [e]; exact hc (test ht)
  · rw [loads] at hl; cases hl

/-- A test that restarts does so in REST, with nothing in flight and no recharge (R124). -/
theorem State.resumeTest_circuit (s : State) : s.resumeTest.bcu.circuit = s.bcu.circuit
    ∨ ∃ r r', s.bcu.test = some r ∧ r.loads = false ∧ r'.loads = false ∧ s.resumeTest.bcu.circuit = { s.bcu.circuit with test := some r' } := by
  unfold State.resumeTest
  split
  · next r hr =>
    split
    · next d hd =>
      split
      · exact .inl rfl
      · exact .inr ⟨r, { r with phase := .rest (s.now + restTime) }, hr, by simp [TestRun.loads, hd], rfl, rfl⟩
    · exact .inl rfl
  · exact .inl rfl

theorem State.resumeTest_ok {s : State} (h : s.bcu.circuit.ok) : s.resumeTest.bcu.circuit.ok
    ∧ s.resumeTest.bcu.opInFlight = s.bcu.opInFlight ∧ s.resumeTest.bcu.recharging = s.bcu.recharging := by
  rcases s.resumeTest_circuit with e | ⟨r, r', hr, off, off', e⟩
  · exact ⟨e ▸ h, congrArg Circuit.opInFlight e, congrArg Circuit.recharging e⟩
  · refine ⟨?_, congrArg Circuit.opInFlight e, congrArg Circuit.recharging e⟩
    obtain ⟨load, ac, -⟩ := h
    have test : s.bcu.circuit.test = some r := hr
    rw [test] at load ac
    rw [e]
    exact ⟨load.trans (by simp [off, off']), fun _ => ac rfl, fun hl => by simp [off'] at hl⟩

/-! ### Battery operations -/

theorem Drives.bcu (h : Drives s₀ s) {t : State} (hm : t.mdr = s.mdr) (hb : s.bcu.circuit.ok → t.bcu.circuit.ok
      ∧ t.bcu.opInFlight = s.bcu.opInFlight ∧ t.bcu.recharging = s.bcu.recharging) : Drives s₀ t := by
  refine h.trans ⟨⟨fun i => ?_, fun i => ?_⟩, fun d => hm ▸ d⟩
  · rw [State.loadInv_iff] at i ⊢
    obtain ⟨ok, flight, recharge⟩ := i
    obtain ⟨ok', e1, e2⟩ := hb ok
    rw [hm, e1, e2]
    exact ⟨ok', flight, recharge⟩
  · unfold State.mechanismInv at *
    rwa [hm]

theorem Drives.abortTest (h : Drives s₀ s) (cause : TestCause) : Drives s₀ (s.abortTest cause) := by
  cases ht : s.bcu.test with
  | none =>
    have : s.abortTest cause = s := by simp [State.abortTest, ht]
    rwa [this]
  | some r =>
    have e := State.abortTest_circuit cause (s := s) (by simp [ht])
    refine h.bcu (by simp) fun _ => ⟨?_, congrArg Circuit.opInFlight e, congrArg Circuit.recharging e⟩
    rw [e]
    exact ⟨rfl, by simp, by simp⟩

theorem Drives.resumeTest (h : Drives s₀ s) : Drives s₀ s.resumeTest := h.bcu (by simp) State.resumeTest_ok

/-- The AC supply is among the conditions of a test (Table 6-5). -/
theorem State.precondition_ac {s : State} (h : s.precondition = none) : s.bcu.acPresent = true := by
  unfold State.precondition at h
  split at h
  · cases h
  · split at h
    · cases h
    · simp_all

theorem Drives.startTest (h : Drives s₀ s) (hp : s.precondition = none) (mode : TestMode) (port : Option Port) :
    Drives s₀ (s.startTest mode port) := by
  refine h.bcu (by simp) fun _ => ⟨?_, rfl, rfl⟩
  exact ⟨rfl, fun _ => State.precondition_ac (s := s) hp, fun hl => by cases hl⟩

theorem Drives.attempt (h : Drives s₀ s) (retry : Bool) : Drives s₀ (s.attempt retry) := by
  unfold State.attempt
  split
  · exact h.startTest ‹_› _ _
  · exact h.same rfl rfl

theorem Drives.attributeUpdate (h : Drives s₀ s) (f : Attributes → Attributes) : Drives s₀ (s.attributeUpdate f) :=
  h.same (s.attributeUpdate_circuit f) (by simp)

theorem Drives.dayPassed (h : Drives s₀ s) : Drives s₀ s.dayPassed := by
  have counted := Drives.attributeUpdate (h.same (t := (s.withBcu fun b => { b with nextDay := b.nextDay + day }).withStored fun b =>
    { b with days := satSucc 65535 s.bcu.stored.days }) rfl rfl) (·.setDays (satSucc 65535 s.bcu.stored.days))
  unfold State.dayPassed
  dsimp only
  split
  · exact counted.attempt _
  · exact counted

theorem Drives.closeFloatWindow (h : Drives s₀ s) : Drives s₀ s.closeFloatWindow :=
  Drives.attributeUpdate (h.same (t := s.withBcu fun b => { b with floatSum := 0, floatCount := 0 }) rfl rfl) _

theorem Drives.closeHotHour (h : Drives s₀ s) : Drives s₀ s.closeHotHour :=
  Drives.attributeUpdate (h.same (t := (s.withBcu fun b => { b with hotCount := 0 }).withStored fun b =>
    { b with hot := satSucc 65535 s.bcu.stored.hot }) rfl rfl) _

theorem Drives.endRest (h : Drives s₀ s) (v : Nat) : Drives s₀ (s.endRest v) := by
  unfold State.endRest
  split
  · next r hr =>
    dsimp only
    split
    · refine h.bcu (by simp) fun ok => ?_
      obtain ⟨load, ac, -⟩ := ok
      have test : s.bcu.circuit.test = some r := hr
      have stop := State.suspendTest_circuit (s := s.withBcu fun b => { b with test := some { r with vRest := some v } }) (by
        rw [Bcu.inLoad_eq]
        rw [test] at load
        exact load)
      exact ⟨stop.ok fun _ => ac (by rw [test]; rfl), congrArg Circuit.opInFlight stop.1, congrArg Circuit.recharging stop.1⟩
    · next free =>
      simp only [State.withBcu, Bool.or_eq_true, not_or, Bool.not_eq_true] at free
      refine h.bcu (by simp) fun ok => ⟨?_, rfl, rfl⟩
      obtain ⟨-, ac, -⟩ := ok
      refine ⟨rfl, fun _ => ac (by simp [Bcu.circuit, hr]), fun _ => free⟩
  · exact h

theorem Drives.endLoad (h : Drives s₀ s) (v : Nat) (i : Int) : Drives s₀ (s.endLoad v i) := by
  unfold State.endLoad
  split
  · refine h.bcu (by simp [State.announce]) fun _ => ?_
    have e {t : State} (ht : t.bcu.circuit = { s.bcu.circuit with test := none, loadOn := false }) : t.bcu.circuit.ok
        ∧ t.bcu.opInFlight = s.bcu.opInFlight ∧ t.bcu.recharging = s.bcu.recharging := by
      refine ⟨?_, congrArg Circuit.opInFlight ht, congrArg Circuit.recharging ht⟩
      rw [ht]
      exact ⟨rfl, by simp, by simp⟩
    exact e ((State.announce_circuit _ _ (fun t => t.testUpdates_circuit _ _) _).trans s.leaveTest_circuit)
  · exact h

/-- The notice of an operation's start (R124). -/
theorem State.operationStarted_ok {s : State} (h : s.bcu.circuit.ok) : s.operationStarted.bcu.circuit.ok
    ∧ s.operationStarted.bcu.opInFlight = true ∧ s.operationStarted.bcu.recharging = s.bcu.recharging := by
  obtain ⟨load, ac, -⟩ := h
  have stop := State.suspendTest_circuit (s := s.withBcu fun b => { b with opInFlight := true }) (by rw [Bcu.inLoad_eq]; exact load)
  exact ⟨stop.ok ac, congrArg Circuit.opInFlight stop.1, congrArg Circuit.recharging stop.1⟩

/-- The notice of an operation's end (R124). -/
theorem State.operationEnded_ok {s : State} (h : s.bcu.circuit.ok) : s.operationEnded.bcu.circuit.ok
    ∧ s.operationEnded.bcu.opInFlight = false ∧ s.operationEnded.bcu.recharging = s.bcu.recharging := by
  obtain ⟨load, ac, quiet⟩ := h
  exact State.resumeTest_ok (s := s.withBcu fun b => { b with opInFlight := false }) ⟨load, ac, fun hl => ⟨rfl, (quiet hl).2⟩⟩

/-- The notice of a recharge's start (R124). -/
theorem State.rechargeStarted_ok {s : State} (h : s.bcu.circuit.ok) : s.rechargeStarted.bcu.circuit.ok
    ∧ s.rechargeStarted.bcu.opInFlight = s.bcu.opInFlight ∧ s.rechargeStarted.bcu.recharging = true := by
  obtain ⟨load, ac, -⟩ := h
  have stop := State.suspendTest_circuit (s := s.withBcu fun b => { b with recharging := true }) (by rw [Bcu.inLoad_eq]; exact load)
  exact ⟨stop.ok ac, congrArg Circuit.opInFlight stop.1, congrArg Circuit.recharging stop.1⟩

/-- The notice of a recharge's end (R124). -/
theorem State.rechargeStopped_ok {s : State} (h : s.bcu.circuit.ok) (duration : Option Nat) : (s.rechargeStopped duration).bcu.circuit.ok
    ∧ (s.rechargeStopped duration).bcu.opInFlight = s.bcu.opInFlight ∧ (s.rechargeStopped duration).bcu.recharging = false := by
  obtain ⟨load, ac, quiet⟩ := h
  have ok : (s.withBcu fun b => { b with recharging := false }).bcu.circuit.ok := ⟨load, ac, fun hl => ⟨(quiet hl).1, rfl⟩⟩
  unfold State.rechargeStopped
  dsimp only
  split
  · next d =>
    have e := State.attributeUpdate_circuit (·.setRecharge d) (s.withBcu fun b => { b with recharging := false })
    obtain ⟨h1, h2, h3⟩ := State.resumeTest_ok (by rw [e]; exact ok)
    exact ⟨h1, h2.trans (congrArg Circuit.opInFlight e), h3.trans (congrArg Circuit.recharging e)⟩
  · exact State.resumeTest_ok ok

/-- A recharge ends at the MDR and at the BCU (R85). -/
theorem Drives.endRecharge (h : Drives s₀ s) (duration : Option Nat) :
    Drives s₀ (State.rechargeStopped duration { s with mdr := { s.mdr with rechargeSince := none } }) := by
  refine h.trans ⟨⟨fun i => ?_, fun i => ?_⟩, fun d => ?_⟩
  · rw [State.loadInv_iff] at i ⊢
    obtain ⟨ok, flight, -⟩ := i
    obtain ⟨ok', e1, e2⟩ := State.rechargeStopped_ok (s := { s with mdr := { s.mdr with rechargeSince := none } }) ok duration
    refine ⟨ok', e1.trans (flight.trans ?_), e2.trans ?_⟩ <;> simp
  · unfold State.mechanismInv at *
    simpa using i
  · simpa using d

theorem Drives.stopRecharge (h : Drives s₀ s) : Drives s₀ s.stopRecharge := h.endRecharge none

theorem Drives.beginShutdown (h : Drives s₀ s) : Drives s₀ s.beginShutdown := by
  have stopped := Drives.stopRecharge (h.same (t := s.withBcu fun b => { b with charger := .off }) rfl rfl)
  have asked := stopped.same (t := (s.withBcu fun b => { b with charger := .off }).stopRecharge.askLastCall) (by simp) (by simp)
  exact asked.same rfl rfl

theorem Drives.tierToTest (h : Drives s₀ s) (new : Tier) : Drives s₀ (s.tierToTest new) := by
  unfold State.tierToTest
  split
  · split
    · exact h
    · split
      · exact h
      · exact h.abortTest _
  · exact h

theorem Drives.withBcu (h : Drives s₀ s) (f : Bcu → Bcu) (hf : (f s.bcu).circuit = s.bcu.circuit) : Drives s₀ (s.withBcu f) := h.same hf rfl
theorem Drives.raise (h : Drives s₀ s) (f : Flag) : Drives s₀ (s.raise f) := h.same rfl rfl
theorem Drives.alarm (h : Drives s₀ s) (id : AlarmId) (payload : List Byte) : Drives s₀ (s.alarm id payload) := h.same rfl rfl
theorem Drives.event (h : Drives s₀ s) (kind : EventKind) (payload : List Byte) : Drives s₀ (s.event kind payload) := h.same rfl rfl
theorem Drives.place (h : Drives s₀ s) (id : RecordId) : Drives s₀ (s.place id) := h.same rfl rfl
theorem Drives.reach (h : Drives s₀ s) (t : Nat) : Drives s₀ (s.reach t) := h.same rfl rfl

theorem Drives.setTier (h : Drives s₀ s) (new : Tier) : Drives s₀ (s.setTier new) := by
  unfold State.setTier
  dsimp only
  split
  · exact h
  have told := Drives.tierToTest (h.same (t := (s.withBcu fun b => { b with tier := new }).tierToRpu s.bcu.tier new) rfl rfl) new
  have alarmed {t : State} (ht : Drives s₀ t) : Drives s₀ (match new.alarm with
      | some id => if decide (s.bcu.tier.rank < new.rank) then t.alarm id (t.bcu.vAndT ++ [acCode t.bcu.acPresent]) else t
      | none => t) := by
    split
    · split
      · exact ht.alarm _ _
      · exact ht
    · exact ht
  have counted {t : State} (ht : Drives s₀ t) (c : Prop) [Decidable c] : Drives s₀ (if c then
      (t.withStored fun b => { b with deep := satSucc 65535 t.bcu.stored.deep }).attributeUpdate
        (·.setDeep (satSucc 65535 t.bcu.stored.deep)) else t) := by
    split
    · exact Drives.attributeUpdate (ht.same (t := t.withStored fun b => { b with deep := satSucc 65535 t.bcu.stored.deep }) rfl rfl) _
    · exact ht
  have cleared {t : State} (ht : Drives s₀ t) : Drives s₀ (if new = .normal then t.event .tierCleared (be 2 t.bcu.v) else t) := by
    split
    · exact ht.event _ _
    · exact ht
  have ended {t : State} (ht : Drives s₀ t) : Drives s₀ (if new = .disconnect then t.beginShutdown else t) := by
    split
    · exact ht.beginShutdown
    · exact ht
  exact ended ((cleared (counted (alarmed told) _)).raise _)

theorem Bcu.toBulk_circuit (b : Bcu) : b.toBulk.circuit = b.circuit := rfl

theorem Bcu.leaveOff_circuit (b : Bcu) : b.leaveOff.circuit = b.circuit := by
  unfold Bcu.leaveOff; split <;> rfl

theorem Bcu.putOff_circuit (b : Bcu) : b.putOff.circuit = b.circuit := by
  unfold Bcu.putOff; split <;> rfl

theorem Bcu.chargerStep_circuit (now : Nat) (b : Bcu) : (b.chargerStep now).circuit = b.circuit := by
  unfold Bcu.chargerStep
  dsimp only
  repeat' split
  all_goals rfl

theorem Bcu.thermalStep_circuit (b : Bcu) : b.thermalStep.circuit = b.circuit := by
  unfold Bcu.thermalStep
  dsimp only
  split
  · exact Bcu.putOff_circuit _
  · exact Bcu.leaveOff_circuit _

theorem Drives.floatStep (h : Drives s₀ s) : Drives s₀ s.floatStep := by
  unfold State.floatStep
  dsimp only
  split
  · split
    · exact h.closeFloatWindow.same rfl rfl
    · exact h.same rfl rfl
  · exact h

theorem Drives.hotStep (h : Drives s₀ s) : Drives s₀ s.hotStep := by
  unfold State.hotStep
  dsimp only
  split
  · split
    · exact h.closeHotHour.same rfl rfl
    · exact h.same rfl rfl
  · exact h

theorem Drives.tierStep (h : Drives s₀ s) : Drives s₀ s.tierStep :=
  (h.withBcu (fun b => { b with disconnectSince := b.disconnectStep s.now }) rfl).setTier _

theorem Drives.measureBattery (h : Drives s₀ s) (v : Nat) (i t : Int) : Drives s₀ (s.measureBattery v i t) := by
  have read := h.withBcu (fun b => (b.read s.now v i t).thermalStep) (Bcu.thermalStep_circuit _)
  unfold State.measureBattery
  dsimp only
  refine Drives.withBcu ?_ Bcu.keepMeasured rfl
  split
  · exact read.hotStep
  · exact (read.withBcu _ (Bcu.chargerStep_circuit _ _)).tierStep.floatStep.hotStep

theorem Drives.announceAcLost (h : Drives s₀ s) : Drives s₀ s.announceAcLost := (h.alarm _ _).raise _

theorem Drives.acReading (h : Drives s₀ s) (present : Bool) : Drives s₀ (s.acReading present) := by
  have there (hp : present = true) : Drives s₀ (s.withBcu fun b => { b with acQualified := true, acPresent := present }) :=
    h.bcu rfl fun ⟨load, _, quiet⟩ => ⟨⟨load, fun _ => hp, quiet⟩, rfl, rfl⟩
  have same (hp : present = s.bcu.acPresent) : Drives s₀ (s.withBcu fun b => { b with acQualified := true, acPresent := present }) :=
    h.same (by simp [Bcu.circuit, hp]) rfl
  have lost : Drives s₀ ((s.withBcu fun b => { b with acQualified := true, acPresent := present }).abortTest .acLoss) := by
    refine h.bcu (by simp) fun ⟨load, _, quiet⟩ => ?_
    cases ht : s.bcu.test with
    | none =>
      have circuit : s.bcu.circuit.test = none := ht
      rw [circuit] at load quiet
      have idle : (s.withBcu fun b => { b with acQualified := true, acPresent := present }).abortTest .acLoss
          = s.withBcu fun b => { b with acQualified := true, acPresent := present } := by simp [State.abortTest, ht]
      rw [idle]
      exact ⟨⟨by simpa [Bcu.circuit, ht] using load, by simp [Bcu.circuit, ht], by simp [Bcu.circuit, ht]⟩, rfl, rfl⟩
    | some r =>
      have e := State.abortTest_circuit .acLoss (s := s.withBcu fun b => { b with acQualified := true, acPresent := present }) (by simp [ht])
      refine ⟨?_, congrArg Circuit.opInFlight e, congrArg Circuit.recharging e⟩
      rw [e]
      exact ⟨rfl, by simp, by simp⟩
  unfold State.acReading
  dsimp only
  split
  · next hp =>
    have stopped := (there hp).withBcu (fun b => { b with disconnectSince := none }) rfl
    split
    · refine Drives.withBcu ?_ Bcu.leaveOff (Bcu.leaveOff_circuit _)
      split
      · exact stopped
      · exact stopped.event _ _
    · exact there hp
  · split
    · exact (lost.withBcu _ (Bcu.putOff_circuit _)).announceAcLost
    · next hc =>
      have kept := same (by simpa using hc)
      split
      · exact kept.announceAcLost
      · exact kept

end Operations
end Sys2Proof.Machine
end

section
/-! PROOFS. The coils through the mechanism's operations (R69 to R80), and the test load at each notice of them (R124). -/

namespace Sys2Proof.Machine

section Mechanism
variable {s₀ s : State}

/-! ### Starts of operations (R69) -/

/-- The load after the notice of an operation's start, in a state that has one in flight. -/
theorem State.operationStarted_load {u : State} (hb : u.bcu = s.bcu) (ho : u.mdr.op.isSome = true)
    (hr : u.mdr.rechargeSince.isSome = s.mdr.rechargeSince.isSome) (i : s.loadInv) : u.operationStarted.loadInv := by
  rw [State.loadInv_iff] at i ⊢
  obtain ⟨ok, -, recharge⟩ := i
  obtain ⟨ok', flight, recharge'⟩ := State.operationStarted_ok (s := u) (hb ▸ ok)
  have mdr : u.operationStarted.mdr = u.mdr := by simp
  rw [mdr]
  exact ⟨ok', flight.trans ho.symm, by rw [recharge', hb, recharge, hr]⟩

/-- The trip that a trip request starts (R69, R84). -/
def State.newTrip (origin : Origin) (element : Option Element) (currents : Currents) (s : State) : Operation :=
  ⟨.trip, [origin], .pulse, false, s.now, s.mdr.estimate, s.mdr.estimate < s.mdr.settings.eTrip, element,
    currents, s.oru.counters.next⟩

/-- The close that a close request starts (R69). -/
def State.newClose (origin : Origin) (s : State) : Operation :=
  ⟨.close, [origin], .pulse, false, s.now, s.mdr.estimate, false, none, s.lmu.currents, s.oru.counters.next⟩

theorem State.beginClose_mdr (o : Origin) (s : State) : (s.beginClose o).mdr = { s.mdr with
      op := some (s.newClose o), estimate := s.mdr.estimate - s.mdr.settings.eClose, closeDrive := true, invalidWatch := none
      mixedWatch := none } := by
  simp [State.beginClose, State.newClose, Mdr.debit, Mdr.stopWatches, State.withMdr, State.reserve, State.now]

theorem State.beginTrip_mdr (o : Origin) (e : Option Element) (c : Currents) (s : State) : (s.beginTrip o e c).mdr = { s.mdr with
      op := some (s.newTrip o e c), estimate := s.mdr.estimate - s.mdr.settings.eTrip, tripDrive := true, closeDrive := false
      invalidWatch := none, mixedWatch := none } := by
  unfold State.beginTrip
  dsimp only
  split <;> simp [State.newTrip, Mdr.debit, Mdr.stopWatches, State.withMdr, State.reserve, State.now, *]

theorem State.beginTrip_load (o : Origin) (e : Option Element) (c : Currents) (i : s.loadInv) : (s.beginTrip o e c).loadInv := by
  unfold State.beginTrip
  dsimp only
  split <;> exact State.operationStarted_load (by simp [State.withMdr]) (by simp [State.withMdr]) (by simp [State.withMdr, Mdr.debit, Mdr.stopWatches]) i

theorem State.beginClose_load (o : Origin) (i : s.loadInv) : (s.beginClose o).loadInv :=
  State.operationStarted_load (by simp [State.withMdr]) (by simp [State.withMdr])
    (by simp [State.withMdr, Mdr.debit, Mdr.stopWatches]) i

theorem State.beginTrip_mechanism (o : Origin) (e : Option Element) (c : Currents) : (s.beginTrip o e c).mechanismInv := by
  unfold State.mechanismInv
  rw [State.beginTrip_mdr]
  exact ⟨rfl, rfl, fun op h => by cases h; exact ⟨rfl, fun _ => rfl⟩, fun _ => ⟨rfl, rfl⟩⟩

/-- A trip that begins ends the drive of the close coil, whatever drove it. -/
theorem Drives.beginTrip (hl : s₀.loadInv → s.loadInv) (o : Origin) (e : Option Element) (c : Currents) : Drives s₀ (s.beginTrip o e c) :=
  ⟨⟨fun i => State.beginTrip_load o e c (hl i), fun _ => State.beginTrip_mechanism o e c⟩, fun d => by
    rw [State.beginTrip_mdr] at d; cases d⟩

/-- A close begins with nothing in flight (R67). -/
theorem Sound.beginClose (h : Sound s₀ s) (o : Origin) (idle : s.mdr.op = none) : Sound s₀ (s.beginClose o) := by
  refine h.trans ⟨State.beginClose_load o, fun i => ?_⟩
  unfold State.mechanismInv at *
  obtain ⟨trip, -, -, -⟩ := i
  rw [State.beginClose_mdr]
  rw [idle] at trip
  exact ⟨trip, rfl, fun op e => by cases e; exact ⟨rfl, fun _ => rfl⟩, fun _ => ⟨rfl, rfl⟩⟩

/-- R71: the retrip of the trip in flight. -/
theorem Drives.retrip (h : Drives s₀ s) {op : Operation} (ho : s.mdr.op = some op) (hk : op.kind = .trip) : Drives s₀ (s.retrip op) := by
  refine h.mdr rfl (by simp [State.retrip, State.withMdr, ho]) rfl (fun i => ?_) id
  obtain ⟨-, close, -, watches⟩ := i
  rw [ho] at close
  refine ⟨by simp [State.retrip, State.withMdr, Operation.drivesTrip, hk], ?_, ?_, fun _ => watches (.inr (by simp [ho]))⟩
  · exact Eq.trans close (by simp [State.retrip, State.withMdr, Operation.drivesClose, hk]; rfl)
  · intro op' e
    cases e
    exact ⟨rfl, fun e => by simp [hk] at e⟩

/-! ### Ends of operations (R77) -/

/-- R70, R73: a phase that drives nothing follows its pulse. -/
theorem Drives.toPhase (h : Drives s₀ s) {op : Operation} {phase : Phase} (ho : s.mdr.op = some op)
    (hp : op.phase = .pulse ∧ phase = .settle ∨ op.phase = .retripPulse ∧ phase = .retripSettle) : Drives s₀ (s.toPhase phase op) := by
  refine h.mdr rfl (by simp [State.toPhase, State.withMdr, ho]) rfl (fun i => ?_) (by simp [State.toPhase, State.withMdr])
  obtain ⟨-, -, flag, watches⟩ := i
  obtain ⟨retrip, close⟩ := flag op ho
  refine ⟨?_, ?_, ?_, fun _ => watches (.inr (by simp [ho]))⟩
  · rcases hp with ⟨-, rfl⟩ | ⟨-, rfl⟩ <;> simp [State.toPhase, State.withMdr, Operation.drivesTrip]
  · rcases hp with ⟨-, rfl⟩ | ⟨-, rfl⟩ <;> simp [State.toPhase, State.withMdr, Operation.drivesClose]
  · intro op' e
    cases e
    refine ⟨?_, close⟩
    rcases hp with ⟨hp, rfl⟩ | ⟨hp, rfl⟩ <;> exact retrip.trans (by rw [hp]; rfl)

theorem Drives.handOff (h : Drives s₀ s) (outcome : OpOutcome) (op : Operation) : Drives s₀ (s.handOff outcome op) :=
  h.same (by simp [Bcu.circuit]) (by simp)

theorem State.endOperation_mdr (outcome : OpOutcome) (op : Operation) (s : State) :
    (s.endOperation outcome op).mdr = { s.mdr with op := none, tripDrive := false, closeDrive := false } := by
  simp [State.endOperation, State.withMdr]

theorem Drives.endOperation (h : Drives s₀ s) (outcome : OpOutcome) (op : Operation) : Drives s₀ (s.endOperation outcome op) := by
  refine h.trans ⟨⟨fun i => ?_, fun i => ?_⟩, fun d => ?_⟩
  · rw [State.loadInv_iff] at i ⊢
    obtain ⟨ok, -, recharge⟩ := i
    rw [State.endOperation_mdr]
    have bcu : ((s.withMdr fun m => { m with op := none, tripDrive := false, closeDrive := false }).handOff outcome op).bcu = s.bcu := by
      simp [State.withMdr]
    obtain ⟨ok', flight, recharge'⟩ := State.operationEnded_ok
      (s := (s.withMdr fun m => { m with op := none, tripDrive := false, closeDrive := false }).handOff outcome op) (by rw [bcu]; exact ok)
    exact ⟨ok', flight, recharge'.trans (by rw [bcu]; exact recharge)⟩
  · unfold State.mechanismInv at *
    obtain ⟨-, -, -, watches⟩ := i
    rw [State.endOperation_mdr]
    refine ⟨rfl, rfl, by simp, ?_⟩
    rintro (latch | flight)
    · exact watches (.inl latch)
    · cases flight
  · rw [State.endOperation_mdr] at d
    cases d

/-! ### The arbiter (R66 to R68, R74) -/

/-- The close coil's drive alone has no part in the load. -/
theorem State.withoutClose_load (i : s.loadInv) : (s.withMdr fun m => { m with closeDrive := false }).loadInv := i

theorem Drives.cutClose (h : Drives s₀ s) (o : Origin) (e : Option Element) (c : Currents) (op : Operation) :
    Drives s₀ (s.cutClose o e c op) :=
  (Drives.beginTrip (fun i => State.withoutClose_load (h.load i)) o e c).handOff _ _

theorem Drives.requestTripWith (h : Drives s₀ s) (o : Origin) (e : Option Element) (c : Currents) :
    Drives s₀ (s.requestTripWith o e c) := by
  rcases s.requestTripWith_cases o e c with ⟨-, eq⟩ | ⟨op, ho, hk, eq⟩ | ⟨op, -, -, eq⟩ <;> rw [eq]
  · exact Drives.beginTrip h.load o e c
  · split
    · exact h
    · refine h.mdr rfl (by simp [State.withMdr, ho]) rfl (fun i => ?_) id
      obtain ⟨trip, close, flag, watches⟩ := i
      rw [ho] at trip close
      refine ⟨trip, close, fun op' eq' => ?_, fun _ => watches (.inr (by simp [ho]))⟩
      cases eq'
      exact flag op ho
  · exact h.cutClose _ _ _ _

theorem Drives.requestTrip (h : Drives s₀ s) (o : Origin) : Drives s₀ (s.requestTrip o) := h.requestTripWith _ _ _

/-- The close permit asks that nothing is in flight (R67). -/
theorem State.closeFailed_idle {o : Origin} (h : s.closeFailed o = []) : s.mdr.op = none := by
  simp only [State.closeFailed, Mdr.failed, List.append_eq_nil_iff, failedWhen] at h
  obtain ⟨-, ⟨⟨h, -⟩, -⟩, -⟩ := h
  cases ho : s.mdr.op with
  | none => rfl
  | some op => simp [ho] at h

theorem Sound.requestClose (h : Sound s₀ s) (o : Origin) : Sound s₀ (s.requestClose o).1 := by
  rcases s.requestClose_cases o with ⟨idle, e⟩ | ⟨-, e⟩ <;> rw [e]
  · exact h.beginClose o (State.closeFailed_idle idle)
  · exact h

theorem Drives.tagToMechanism (h : Drives s₀ s) : Drives s₀ s.tagToMechanism := by
  unfold State.tagToMechanism
  split
  · split
    · exact h.cutClose _ _ _ _
    · exact h
  · exact h

/-! ### Latch and alarms (R81) -/

theorem Drives.setLatch (h : Drives s₀ s) : Drives s₀ s.setLatch := by
  unfold State.setLatch
  split
  · exact h
  · have latched : Drives s₀ (s.withMdr fun m => { m.stopWatches with latch := true }) :=
      h.mdr rfl rfl rfl (fun ⟨trip, close, flag, _⟩ => ⟨trip, close, flag, fun _ => ⟨rfl, rfl⟩⟩) id
    exact (latched.raise _).place _

theorem Drives.mechanismAlarm (h : Drives s₀ s) (cause : MechCause) (n : Option Nat) : Drives s₀ (s.mechanismAlarm cause n) := h.alarm _ _
theorem Drives.discordanceAlarm (h : Drives s₀ s) (n : Option Nat) : Drives s₀ (s.discordanceAlarm n) := h.alarm _ _

/-! ### Trip and close operations (R70 to R76) -/

theorem Drives.tripOpened (h : Drives s₀ s) (op : Operation) : Drives s₀ (s.tripOpened op) := h.endOperation _ _

theorem Drives.tripPulseOver (h : Drives s₀ s) : Drives s₀ s.tripPulseOver := by
  unfold State.tripPulseOver
  split
  · next op ho =>
    have reached := h.reach (op.pulseStart + tripPulse)
    split
    · split
      · next hp =>
        dsimp only
        split
        · exact reached.tripOpened _
        · exact reached.toPhase ho (.inl ⟨hp, rfl⟩)
      · next hp =>
        dsimp only
        split
        · exact reached.tripOpened _
        · exact reached.toPhase ho (.inr ⟨hp, rfl⟩)
      · exact h
    · exact h
  · exact h

/-- The end of a trip's pulse leaves nothing in flight, or a trip. -/
theorem State.tripPulseOver_trip {op : Operation} (h : s.tripPulseOver.mdr.op = some op) (hs : ∀ op, s.mdr.op = some op → op.kind = .trip) :
    op.kind = .trip := by
  unfold State.tripPulseOver at h
  split at h
  · next op' ho =>
    have trip := hs op' ho
    have ended {t : State} {phase : Phase} (h : (if t.mdr.poles.allOpen then t.tripOpened op' else t.toPhase phase op').mdr.op = some op) :
        op.kind = .trip := by
      split at h
      · rw [State.tripOpened, State.endOperation_mdr] at h
        cases h
      · cases h; exact trip
    rw [if_pos trip] at h
    split at h
    · exact ended h
    · exact ended h
    · exact hs op h
  · exact hs op h

theorem Drives.tripWindowOver (h : Drives s₀ s) : Drives s₀ s.tripWindowOver := by
  have ended {t : State} (ht : Drives s₀ t) (kind : ∀ op, t.mdr.op = some op → op.kind = .trip) : Drives s₀ (match t.mdr.op with
      | some op => if (t.reach (op.pulseStart + tripWindow)).mdr.poles.allOpen then (t.reach (op.pulseStart + tripWindow)).tripOpened op
        else (t.reach (op.pulseStart + tripWindow)).retrip op
      | none => t) := by
    split
    · next op ho =>
      split
      · exact (ht.reach _).tripOpened _
      · exact (ht.reach _).retrip ho (kind op ho)
    · exact ht
  unfold State.tripWindowOver
  dsimp only
  split
  · next op ho =>
    split
    · next hk =>
      have trip (op' : Operation) (e : s.mdr.op = some op') : op'.kind = .trip := by
        rw [ho] at e; cases e
        simp only [Bool.and_eq_true, decide_eq_true_eq] at hk
        exact hk.1
      refine ended (t := if op.phase = .pulse then s.tripPulseOver else s) ?_ ?_
      · split
        · exact h.tripPulseOver
        · exact h
      · split
        · exact fun op' e => State.tripPulseOver_trip e trip
        · exact trip
    · exact h
  · exact h

theorem Drives.retripWindowOver (h : Drives s₀ s) : Drives s₀ s.retripWindowOver := by
  have ended {t : State} (ht : Drives s₀ t) : Drives s₀ (match t.mdr.op with
      | some op => if (t.reach (op.pulseStart + tripWindow)).mdr.poles.allOpen then (t.reach (op.pulseStart + tripWindow)).tripOpened op
        else (((t.reach (op.pulseStart + tripWindow)).setLatch.discordanceAlarm (some op.number)).mechanismAlarm .tripFailed
          (some op.number)).endOperation .discordant op
      | none => t) := by
    split
    · split
      · exact (ht.reach _).tripOpened _
      · exact (((ht.reach _).setLatch.discordanceAlarm _).mechanismAlarm _ _).endOperation _ _
    · exact ht
  unfold State.retripWindowOver
  dsimp only
  split
  · split
    · refine ended ?_
      split
      · exact h.tripPulseOver
      · exact h
    · exact h
  · exact h

theorem Drives.closePulseOver (h : Drives s₀ s) : Drives s₀ s.closePulseOver := by
  unfold State.closePulseOver
  split
  · next op ho =>
    split
    · next hk => exact (h.reach _).toPhase ho (.inl ⟨by simp_all, rfl⟩)
    · exact h
  · exact h

theorem Drives.closeFailedAt (h : Drives s₀ s) (op : Operation) : Drives s₀ (s.closeFailedAt op) := by
  unfold State.closeFailedAt
  dsimp only
  split
  · exact (h.setLatch.mechanismAlarm _ _).endOperation _ _
  · have cut := Drives.beginTrip (fun i => State.withoutClose_load (h.setLatch.load i)) .discordance none s.setLatch.lmu.currents
    exact ((cut.discordanceAlarm _).mechanismAlarm _ _).handOff _ _

theorem Drives.closeWindowOver (h : Drives s₀ s) : Drives s₀ s.closeWindowOver := by
  unfold State.closeWindowOver
  dsimp only
  split
  · split
    · split
      · exact (h.reach _).endOperation _ _
      · exact (h.reach _).closeFailedAt _
    · exact h
  · exact h

/-! ### Pole indications (R65, R78 to R80) -/

theorem Drives.watch (h : Drives s₀ s) : Drives s₀ (s.withMdr (·.watch s.now)) := by
  have keeps : (s.mdr.watch s.now).op = s.mdr.op ∧ (s.mdr.watch s.now).tripDrive = s.mdr.tripDrive
      ∧ (s.mdr.watch s.now).closeDrive = s.mdr.closeDrive ∧ (s.mdr.watch s.now).latch = s.mdr.latch
      ∧ (s.mdr.watch s.now).rechargeSince = s.mdr.rechargeSince := by
    unfold Mdr.watch
    split <;> exact ⟨rfl, rfl, rfl, rfl, rfl⟩
  obtain ⟨op, tripDrive, closeDrive, latch, recharge⟩ := keeps
  refine h.mdr rfl (congrArg _ op) (congrArg _ recharge) (fun ⟨trip, close, flag, _⟩ => ?_) fun d => closeDrive ▸ d
  refine ⟨by simpa [State.withMdr, tripDrive, op] using trip, by simpa [State.withMdr, closeDrive, op] using close,
    by simpa [State.withMdr, op] using flag, fun c => ?_⟩
  have stopped : (s.mdr.latch || s.mdr.op.isSome) = true := by simpa [State.withMdr, latch, op] using c
  simp [State.withMdr, Mdr.watch, stopped, Mdr.stopWatches]

/-- A state whose SQC, AU, pool or store alone has changed. -/
theorem Drives.elsewhere (h : Drives s₀ s) {t : State} (hb : t.bcu = s.bcu) (hm : t.mdr = s.mdr) : Drives s₀ t :=
  h.same (by rw [hb]) hm

theorem Drives.externalOpen (h : Drives s₀ s) : Drives s₀ s.externalOpen := by
  have stopped : Drives s₀ (s.withMdr Mdr.stopWatches) :=
    h.mdr rfl rfl rfl (fun ⟨trip, close, flag, _⟩ => ⟨trip, close, flag, fun _ => ⟨rfl, rfl⟩⟩) id
  unfold State.externalOpen
  dsimp only
  split <;> exact stopped.elsewhere (by simp) (by simp)

theorem Drives.unexpectedClose (h : Drives s₀ s) : Drives s₀ s.unexpectedClose := by
  unfold State.unexpectedClose
  dsimp only
  split
  · exact (h.mechanismAlarm _ _).requestTrip _
  · exact ((h.setLatch.elsewhere (t := s.setLatch.latchNoticed) (by simp) (by simp)).mechanismAlarm _ _).requestTrip _

theorem Drives.judgePoles (h : Drives s₀ s) (op : Operation) : Drives s₀ (s.judgePoles op) := by
  unfold State.judgePoles
  split
  · split
    · exact h.tripOpened _
    · exact h
  · split
    · exact h.endOperation _ _
    · exact h

theorem Drives.indicationEvent (h : Drives s₀ s) (before : Poles) : Drives s₀ (s.indicationEvent before) := by
  unfold State.indicationEvent
  split
  · exact h.judgePoles _
  · split
    · exact h.externalOpen
    · split
      · exact h.unexpectedClose
      · exact h.watch

theorem Drives.judgeReport (h : Drives s₀ s) : Drives s₀ s.judgeReport := by
  have closed {t : State} (ht : Drives s₀ t) : Drives s₀ (if s.mdr.poles.anyClosed then t.requestTrip .discordance else t) := by
    split
    · exact ht.requestTrip _
    · exact ht
  unfold State.judgeReport
  dsimp only
  split
  · exact h
  · have latched := h.setLatch.mechanismAlarm .powerOn none
    refine closed ?_
    split
    · exact latched.discordanceAlarm _
    · exact latched

theorem Drives.firstReport (h : Drives s₀ s) : Drives s₀ s.firstReport := by
  have judged := (h.elsewhere (t := s.takeReport s.mdr.poles) (by simp) (by simp)).judgeReport
  unfold State.firstReport
  dsimp only
  split
  · exact judged.judgePoles _
  · exact judged

theorem Drives.contactsRead (h : Drives s₀ s) (c : Contacts) : Drives s₀ (s.contactsRead c) := by
  have read : Drives s₀ (s.withMdr fun m => { m with poles := polesOf c }) := h.account rfl rfl
  unfold State.contactsRead
  dsimp only
  split
  · exact read.firstReport
  · split
    · exact h
    · exact read.indicationEvent _

theorem Drives.invalidWatchOver (h : Drives s₀ s) : Drives s₀ s.invalidWatchOver := by
  unfold State.invalidWatchOver
  split
  · next d _ => exact ((h.reach d).setLatch.elsewhere (by simp) (by simp)).mechanismAlarm _ _
  · exact h

theorem Drives.mixedWatchOver (h : Drives s₀ s) : Drives s₀ s.mixedWatchOver := by
  unfold State.mixedWatchOver
  split
  · exact (((h.reach _).requestTrip _).setLatch.discordanceAlarm _).mechanismAlarm _ _
  · exact h

/-! ### Requests of the SQC (R46, R51, R53) -/

theorem Drives.takeDecision (h : Drives s₀ s) (decision : List Element) : Drives s₀ (s.takeDecision decision) := by
  have counted (hot : Bool) : Drives s₀ ((s.setShot (s.sqc.shot + 1)).setSequence (.tripping .protection hot)) := h.elsewhere rfl rfl
  have marked (kind : TripKind) (hot : Bool) : Drives s₀ (s.setSequence (.tripping kind hot)) := h.elsewhere rfl rfl
  unfold State.takeDecision
  dsimp only
  split
  · exact h
  · split
    · exact (counted _).requestTripWith _ _ _
    · exact (counted _).requestTripWith _ _ _
    · exact marked _ _
    · exact h

theorem Drives.takeUpdate (h : Drives s₀ s) (r : UpdateResult) : Drives s₀ (s.takeUpdate r) := by
  have picked : Drives s₀ { s with sqc := { s.sqc with picked := r.picked } } := h.elsewhere rfl rfl
  have finish {t : State} (ht : Drives s₀ t) : Drives s₀ (if t.pauseReclaim.sqc.sequence = .ready then t.pauseReclaim.activationTest
      else t.pauseReclaim) := by
    split <;> exact ht.elsewhere (by simp) (by simp)
  unfold State.takeUpdate
  dsimp only
  refine finish ?_
  split
  · exact picked.elsewhere (by simp) (by simp)
  · exact picked.takeDecision _

/-! ### The energy account (R83 to R86) -/

theorem Drives.rechargeControl (h : Drives s₀ s) : Drives s₀ s.rechargeControl := by
  unfold State.rechargeControl
  split
  · split
    · refine h.trans ⟨⟨fun i => ?_, fun i => ?_⟩, fun d => ?_⟩
      · rw [State.loadInv_iff] at i ⊢
        obtain ⟨ok, flight, -⟩ := i
        obtain ⟨ok', e1, e2⟩ := State.rechargeStarted_ok (s := s.withMdr fun m => { m with rechargeSince := some s.now }) ok
        refine ⟨ok', e1.trans (flight.trans ?_), e2.trans ?_⟩ <;> simp [State.withMdr]
      · unfold State.mechanismInv at *
        simpa [State.withMdr] using i
      · simpa [State.withMdr] using d
    · exact h
  · split
    · exact h.endRecharge _
    · exact h

theorem Drives.raiseLowEnergy (h : Drives s₀ s) : Drives s₀ s.raiseLowEnergy := by
  have raised : Drives s₀ (s.withMdr fun m => { m with lowWatch := .raised }) := h.account rfl rfl
  exact (raised.alarm _ _).raise _

theorem Drives.lowEnergyWatch (h : Drives s₀ s) : Drives s₀ s.lowEnergyWatch := by
  unfold State.lowEnergyWatch
  split
  · split
    · exact h.account rfl rfl
    · split
      · exact h.raiseLowEnergy
      · exact h
    · exact h
  · exact h.account rfl rfl

/-- R83, up to the question of a recharge's close. -/
def State.capacitorRead (vcap : Nat) (s : State) : State :=
  (s.withMdr fun m => { m with
    vcap := vcap, estimate := energyOf m.settings.capacitance vcap, measuredEstimate := energyOf m.settings.capacitance vcap
    lastMeasurement := s.now }).rechargeControl.lowEnergyWatch

theorem State.measureCapacitor_eq (vcap : Nat) (s : State) : s.measureCapacitor vcap = (s.capacitorRead vcap).askAgain := rfl

theorem Drives.capacitorRead (h : Drives s₀ s) (vcap : Nat) : Drives s₀ (s.capacitorRead vcap) := by
  have measured : Drives s₀ (s.withMdr fun m => { m with
      vcap := vcap, estimate := energyOf m.settings.capacitance vcap, measuredEstimate := energyOf m.settings.capacitance vcap
      lastMeasurement := s.now }) := h.account rfl rfl
  exact measured.rechargeControl.lowEnergyWatch

/-! ### Closes the SQC and the AU ask for -/

theorem Sound.reclose (h : Sound s₀ s) (wait : Sequence) : Sound s₀ (s.reclose wait) := by
  have asked := h.requestClose .reclose
  unfold State.reclose
  dsimp only
  split
  · exact asked.same rfl rfl
  · exact asked.same rfl rfl
  · split <;> exact asked.same (by simp [Bcu.circuit]) (by simp)

theorem Sound.askAgain (h : Sound s₀ s) : Sound s₀ s.askAgain := by
  unfold State.askAgain
  split
  · exact h.reclose _
  · exact h

theorem Sound.placePanelClose (h : Sound s₀ s) : Sound s₀ s.placePanelClose := (h.requestClose .p).same rfl rfl

end Mechanism
end Sys2Proof.Machine
end

section
/-! PROOFS. The test load and the coils through every request, event and step (R122, R69, R70, R73, R79). -/

namespace Sys2Proof.Machine

section Commands
variable {s₀ s : State}

/-! ### Requests -/

theorem Drives.answer (h : Drives s₀ s) (port : Port) (a : Answer) : Drives s₀ (s.answer port a) := h.elsewhere (by simp) (by simp)

theorem Sound.answer (h : Sound s₀ s) (port : Port) (a : Answer) : Sound s₀ (s.answer port a) := h.trans ((Drives.refl s).answer port a).toSound

theorem Drives.rejudge (h : Drives s₀ s) : Drives s₀ s.rejudge := h.elsewhere rfl rfl

theorem Sound.rejudge (h : Sound s₀ s) : Sound s₀ s.rejudge := h.trans (Drives.refl s).rejudge.toSound

theorem Drives.turnedAway (h : Drives s₀ s) (src : Source) : Drives s₀ (s.turnedAway src) := by
  cases src with
  | c => exact h.elsewhere rfl rfl
  | p => exact h
  | l => exact h

/-- A request is taken, if at all, on its source's port. -/
theorem State.arrival_port {src : Source} {port : Port} (h : s.arrival src = .from port) : port = sourcePort src := by
  cases src with
  | c => simp only [State.arrival] at h; split at h <;> cases h; rfl
  | p => simp only [State.arrival] at h; split at h <;> cases h; rfl
  | l station => simp only [State.arrival] at h; repeat' split at h
                 all_goals cases h
                 rfl

theorem State.arrival_group {src : Source} (h : s.arrival src = .group) : sourcePort src = .l := by
  cases src with
  | c => simp only [State.arrival] at h; split at h <;> cases h
  | p => simp only [State.arrival] at h; split at h <;> cases h
  | l station => rfl

/-- What the owner of a request keeps on the port of its source, the request keeps. -/
theorem respond_closed {P : State → Prop} {kind : RequestKind} {src : Source} (ref : Byte) {owner : Port → State → Taken} (hs : P s)
    (away : P (s.turnedAway src)) (answer : ∀ u port a, P u → P (u.answer port a))
    (ho : kind.permitted (sourcePort src) = true → P (owner (sourcePort src) s).state) : P (Machine.respond kind src ref owner s) := by
  have judged : P (s.judgeRequest kind (sourcePort src) owner).state := by
    unfold State.judgeRequest
    split
    · exact hs
    · split
      · exact hs
      · next hp => exact ho (by simpa using hp)
  unfold Machine.respond
  split
  · exact away
  · next port ha =>
    rw [State.arrival_port ha]
    dsimp only
    split
    · exact answer _ _ _ judged
    · exact judged
  · next ha =>
    rw [← State.arrival_group ha]
    split
    · exact hs
    · exact judged

theorem Sound.respond (kind : RequestKind) (src : Source) (ref : Byte) {owner : Port → State → Taken}
    (ho : ∀ port, Sound s (owner port s).state) : Sound s (Machine.respond kind src ref owner s) :=
  respond_closed ref (Sound.refl s) ((Drives.refl s).turnedAway src).toSound (fun _ _ _ k => k.answer _ _) fun _ => ho _

theorem Sound.act {f : State → State} {t : State} (hf : Sound s (f s)) (ht : Machine.act f s = .next t) : Sound s t := by
  unfold Machine.act at ht
  split at ht
  · cases ht; exact hf.rejudge
  · cases ht; exact Sound.refl s

theorem Drives.act {f : State → State} {t : State} (hf : Drives s (f s)) (ht : Machine.act f s = .next t) : Drives s t := by
  unfold Machine.act at ht
  split at ht
  · cases ht; exact hf.rejudge
  · cases ht; exact Drives.refl s

theorem Drives.placeTag (h : Drives s₀ s) (slot : Nat) (kind : TagKind) (origin : Port) (crew : Nat) (note : List Byte) :
    Drives s₀ (s.placeTag slot kind origin crew note) := by
  have added : Drives s₀ ((s.withAu fun a => a.addTag slot kind origin crew s.stamp note).dropCloses .tag) := h.elsewhere rfl rfl
  unfold State.placeTag
  dsimp only
  exact added.tagToMechanism.elsewhere (by simp) (by simp)

theorem Drives.removeTag (h : Drives s₀ s) (slot : Nat) : Drives s₀ (s.removeTag slot) :=
  h.elsewhere (by simp [State.removeTag]) (by simp [State.removeTag])

theorem Drives.replaceBattery (h : Drives s₀ s) : Drives s₀ s.replaceBattery :=
  h.same (State.judgeVerdict_circuit _) (by simp [State.replaceBattery])

theorem Drives.clearLatch (h : Drives s₀ s) : Drives s₀ ((s.withMdr fun m => { m with latch := false }).place .mechanism) := by
  have cleared : Drives s₀ (s.withMdr fun m => { m with latch := false }) := by
    refine h.mdr rfl rfl rfl (fun ⟨trip, close, flag, watches⟩ => ⟨trip, close, flag, ?_⟩) id
    rintro (latch | flight)
    · cases latch
    · exact watches (.inr flight)
  exact cleared.place _

theorem Drives.beginHold (h : Drives s₀ s) (port : Port) (ref : Byte) : Drives s₀ (s.beginHold port ref) := by
  cases port <;> exact h.elsewhere rfl rfl


theorem exec_request_sound {c : Instr} {t : State} (hc : c.request.isSome = true) (h : exec c s = .next t) : Sound s t := by
  have k := Drives.refl s
  cases c <;> first | (cases hc; done) | refine Sound.act (Sound.respond _ _ _ fun port => ?_) h
  case statusRead | tagList | readAttributes | readTestHistory => exact k.toSound
  case clearAlerts =>
    dsimp only
    split <;> exact (k.elsewhere (by rfl) (by rfl)).toSound
  case trip => exact (k.requestTrip _).toSound
  case close =>
    dsimp only
    split
    · exact k.toSound
    · have started (n : Nat) : Drives s (s.withAu fun a => { a with panel := .running n }) := k.elsewhere rfl rfl
      split
      · exact ((started _).answer _ _).toSound.placePanelClose
      · exact (started _).toSound
  case selectClose =>
    dsimp only
    split
    · exact k.toSound
    · exact (k.elsewhere (by rfl) (by rfl)).toSound
  case operateClose =>
    have spent : Drives s s.clearSelection := k.elsewhere rfl rfl
    dsimp only
    split
    · exact spent.toSound.requestClose _
    · exact k.toSound
  case cancel =>
    repeat' split
    all_goals first | exact k.toSound | exact (k.elsewhere (by rfl) (by rfl)).toSound
  case tagPlace =>
    repeat' split
    all_goals first | exact k.toSound | exact (k.placeTag _ _ _ _ _).toSound
  case tagRemove =>
    repeat' split
    all_goals first | exact k.toSound | exact (k.removeTag _).toSound
  case recloseBlock =>
    repeat' split
    all_goals first | exact k.toSound | exact (k.elsewhere (by rfl) (by rfl)).toSound
  case settingsWrite =>
    dsimp only
    repeat' split
    all_goals first | exact k.toSound | exact (k.elsewhere (by simp [Taken.done]) (by simp [Taken.done])).toSound
  case settingsRead =>
    repeat' split
    all_goals exact k.toSound
  case curveLoad =>
    repeat' split
    all_goals first | exact k.toSound | exact (k.elsewhere (by rfl) (by rfl)).toSound
  case mechanismSettings =>
    split
    · exact k.toSound
    · exact (Drives.place (k.account (by rfl) (by rfl)) _).toSound
  case mechanismFaultReset =>
    dsimp only
    split
    · exact k.toSound
    · split
      · split
        · exact k.clearLatch.watch.toSound
        · exact k.clearLatch.toSound
      · exact k.toSound
  case batterySettings src ref fields =>
    dsimp only
    split
    · exact k.toSound
    · have set (b : BatterySettings) : Drives s (((s.withStored fun r => { r with settings := b }).place .battery).judgeVerdict) :=
        k.same (State.judgeVerdict_circuit _) (by simp)
      split
      · exact ((set (batteryOf fields)).withBcu (fun b => { b with nextAttempt := b.nextAttempt.filter fun a => a.retry }) rfl).toSound
      · split
        · exact ((set _).attempt _).toSound
        · exact (set _).toSound
  case batteryTest =>
    repeat' split
    all_goals first
      | exact k.toSound
      | exact ((k.startTest ‹_› _ _).beginHold _ _).toSound
      | exact (k.startTest ‹_› _ _).toSound
      | unfold Taken.precondition; split <;> exact k.toSound
  case abortTest =>
    split
    · exact (k.abortTest _).toSound
    · exact k.toSound
  case batteryReplaced =>
    repeat' split
    all_goals first | exact k.toSound | exact k.replaceBattery.toSound
  case readRecord =>
    split <;> exact k.toSound
  case readCounters =>
    dsimp only
    repeat' split
    all_goals first | exact k.toSound | exact (k.elsewhere (by simp [Taken.done, State.setWearLimit]) (by simp [Taken.done, State.setWearLimit])).toSound
  case timeSet =>
    dsimp only
    split
    · exact k.toSound
    · exact (k.elsewhere (by rfl) (by rfl)).toSound
  case trackerSources =>
    split
    · exact k.toSound
    · exact (k.elsewhere (by simp [Taken.code, State.newSources]) (by simp [Taken.code, State.newSources])).toSound
  case linkSettings =>
    split
    · exact k.toSound
    · exact (k.elsewhere (by simp [Taken.code, State.newLink]) (by simp [Taken.code, State.newLink])).toSound

/-! ### Received bytes -/

theorem Drives.ack (station : Word16) (number : Nat) {t : State} (ht : exec (.ack station number) s = .next t) : Drives s t := by
  refine Drives.act (f := fun s => if s.rpu.hears && station = s.rpu.settings.address then s.acknowledge number else s) ?_ ht
  have k := Drives.refl s
  split
  · exact k.elsewhere (by simp) (by simp)
  · exact k

theorem Sound.takeCommand (h : Sound s₀ s) (c : Instr) : Sound s₀ (s.takeCommand c) := by
  rcases s.takeCommand_cases c with e | ⟨hc | ⟨station, number, rfl⟩, e⟩
  · rwa [e]
  · exact h.trans (exec_request_sound hc e)
  · exact h.trans (Drives.ack station number e).toSound

theorem State.setParser_frame (port : UartPort) (kept : List Byte) (last : Nat) (s : State) : (s.setParser port kept last).bcu = s.bcu
    ∧ (s.setParser port kept last).mdr = s.mdr ∧ (s.setParser port kept last).au = s.au
    ∧ (s.setParser port kept last).clock = s.clock := by
  cases port <;> exact ⟨rfl, rfl, rfl, rfl⟩

theorem Drives.setParser (h : Drives s₀ s) (port : UartPort) (kept : List Byte) (last : Nat) : Drives s₀ (s.setParser port kept last) := by
  obtain ⟨bcu, mdr, -, -⟩ := s.setParser_frame port kept last
  exact h.elsewhere bcu mdr

theorem Sound.setParser (h : Sound s₀ s) (port : UartPort) (kept : List Byte) (last : Nat) : Sound s₀ (s.setParser port kept last) :=
  h.trans ((Drives.refl s).setParser port kept last).toSound

theorem Sound.receive (h : Sound s₀ s) (port : UartPort) (bytes : List Byte) : Sound s₀ (s.receive port bytes) :=
  receive_closed h (fun _ _ _ k => k.setParser _ _ _) (fun _ _ k => k.answer _ _) (fun _ _ _ k => k.takeCommand _) bytes

theorem Drives.failPartial (h : Drives s₀ s) (port : UartPort) : Drives s₀ (s.failPartial port) :=
  failPartial_closed h (fun _ _ _ k => k.setParser _ _ _) fun _ _ k => k.answer _ _

theorem Drives.readAnswer (h : Drives s₀ s) (n : Nat) : Drives s₀ (s.readAnswer n) := by
  unfold State.readAnswer
  split <;> exact h.elsewhere rfl rfl

theorem Sound.transactOnC (bytes : List Byte) : Sound s (s.transactOnC bytes) := by
  have k := Drives.refl s
  unfold State.transactOnC
  split
  · exact k.toSound
  · split
    · exact (k.turnedAway _).toSound
    · split
      · exact (k.readAnswer _).toSound
      · exact found_closed (port := .c) k.toSound (fun _ k => k.answer _ _) (fun _ _ k => k.takeCommand _) fun c hc => checkPortFrame_carried hc

theorem Drives.sendAnswer (h : Drives s₀ s) : Drives s₀ s.sendAnswer := by
  unfold State.sendAnswer
  split
  · exact h.elsewhere rfl rfl
  · exact h

theorem Drives.interfaceReset (h : Drives s₀ s) : Drives s₀ s.interfaceReset := by
  have detached : (s.bcu.test.map TestRun.detach).any TestRun.loads = s.bcu.test.any TestRun.loads := by
    cases s.bcu.test with
    | none => rfl
    | some r =>
      simp only [Option.map_some, Option.any_some, TestRun.detach]
      split <;> rfl
  refine h.bcu rfl fun ⟨load, ac, quiet⟩ => ⟨⟨load.trans detached.symm, fun some => ac ?_, fun loads => quiet (detached ▸ loads)⟩, rfl, rfl⟩
  simpa [State.interfaceReset, State.dropCloses, Bcu.circuit] using some

/-! ### Supply and store -/

/-- A part without supply runs nothing. -/
theorem Drives.ofIdle (hb : s.bcu.circuit = ⟨none, false, s.bcu.acPresent, false, false⟩) (hm : s.mdr.op = none ∧ s.mdr.tripDrive = false
      ∧ s.mdr.closeDrive = false ∧ s.mdr.rechargeSince = none ∧ s.mdr.invalidWatch = none ∧ s.mdr.mixedWatch = none) : Drives s₀ s := by
  obtain ⟨op, trip, close, recharge, invalid, mixed⟩ := hm
  refine ⟨⟨fun _ => ?_, fun _ => ?_⟩, fun d => by rw [close] at d; cases d⟩
  · rw [State.loadInv_iff, hb, op, recharge]
    exact ⟨⟨rfl, by simp, by simp⟩, congrArg Circuit.opInFlight hb, congrArg Circuit.recharging hb⟩
  · unfold State.mechanismInv
    rw [op, trip, close]
    exact ⟨rfl, rfl, by simp, fun _ => ⟨invalid, mixed⟩⟩

theorem Drives.dark (st : Store) (contactor : Bool) (free : Nat) (pending : List Instr) : Drives s₀ (State.dark st contactor free pending) :=
  Drives.ofIdle rfl ⟨rfl, rfl, rfl, rfl, rfl, rfl⟩

theorem Drives.powerLoss : Drives s₀ s.powerLoss := Drives.dark _ _ _ _

theorem Drives.restored : Drives s₀ s.restored := Drives.ofIdle rfl ⟨rfl, rfl, rfl, rfl, rfl, rfl⟩

theorem Drives.announceFailed (h : Drives s₀ s) (st : Store) : Drives s₀ (s.announceFailed st) := by
  have placed : ∀ (l : List RecordId) (t : State), Drives s₀ t → Drives s₀ (l.foldl (fun s id => s.place id) t) := by
    intro l
    induction l with
    | nil => exact fun _ ht => ht
    | cons id rest ih => exact fun t ht => ih _ (ht.place id)
  unfold State.announceFailed
  split
  · exact h
  · exact placed _ _ ((h.alarm _ _).raise _)

theorem Drives.announceLostTest (h : Drives s₀ s) : Drives s₀ s.announceLostTest := by
  unfold State.announceLostTest
  split
  · have cleared : Drives s₀ (State.withStored (fun b => { b with pending := false }) { s with freeIndex := s.freeIndex + 1 }) :=
      h.same rfl rfl
    exact (cleared.same (State.announce_circuit _ _ (fun _ => rfl) _) (by simp [State.announce])).same rfl rfl
  · exact h

theorem Drives.announceLatch (h : Drives s₀ s) : Drives s₀ s.announceLatch := by
  unfold State.announceLatch
  split
  · exact (h.raise _).mechanismAlarm _ _
  · exact h

theorem Drives.start : Drives s₀ s.start := by
  have failed : Drives s₀ ((s.restored.event .start [s.nvs.store.cause.code]).announceFailed s.nvs.store) :=
    (Drives.restored.event _ _).announceFailed _
  unfold State.start
  dsimp only
  refine Drives.announceLostTest (Drives.announceLatch ?_)
  split
  · exact failed.place .shutdownMark
  · exact failed

theorem Drives.powerOn (contacts : Option Contacts) : Drives s₀ (s.powerOn contacts) := by
  unfold State.powerOn
  dsimp only
  split
  · exact Drives.start.contactsRead _
  · exact Drives.start

theorem Drives.writeMark (h : Drives s₀ s) : Drives s₀ s.writeMark := h.same rfl rfl

theorem Drives.drainStore (h : Drives s₀ s) : Drives s₀ s.drainStore := by
  unfold State.drainStore
  repeat' split
  all_goals first | exact h | exact h.writeMark

theorem Drives.radioDone (h : Drives s₀ s) : Drives s₀ s.radioDone := by
  unfold State.radioDone
  repeat' split
  all_goals first | exact h | exact Drives.drainStore (h.same rfl rfl)

theorem Drives.writeOver (h : Drives s₀ s) (content : Content) : Drives s₀ (s.writeOver content) := by
  have next : Drives s₀ { s with nvs := ({ s.nvs with writing := none } : Nvs).kick } := h.same rfl rfl
  unfold State.writeOver
  dsimp only
  split
  · exact Drives.powerLoss
  · exact next.drainStore

theorem Drives.writeComplete (h : Drives s₀ s) (readBack : ReadBack) : Drives s₀ (s.writeComplete readBack) := by
  have stored (n : Nvs) : Drives s₀ { s with nvs := n } := h.same rfl rfl
  unfold State.writeComplete
  dsimp only
  split
  · exact h
  · split
    · exact (stored _).writeOver _
    · split
      · exact stored _
      · exact (((stored _).alarm _ _).raise _).writeOver _

/-! ### Events -/

theorem Drives.hear {α : Type} [DecidableEq α] {k : Contact α} (h : Drives s₀ s) (keep : ∀ x t, Drives s₀ t → Drives s₀ (k.keep x t))
    (take : ∀ a t, Drives s₀ t → Drives s₀ (k.take a t)) (reading : α) : Drives s₀ (k.hear reading s) := by
  have settle {t : State} (ht : Drives s₀ t) : Drives s₀ (k.settle t) := by
    unfold Contact.settle
    split
    · split
      · exact take _ _ (keep _ _ ht)
      · exact ht
    · exact ht
  unfold Contact.hear
  split
  · split
    · exact settle (h.reach _)
    · exact keep _ _ (settle h)
  · exact keep _ _ (settle h)

theorem Drives.withAu (h : Drives s₀ s) (f : Au → Au) : Drives s₀ (s.withAu f) := h.same rfl rfl

theorem Drives.keyReading (h : Drives s₀ s) (mode : ControlMode) : Drives s₀ (s.keyReading mode) := by
  unfold State.keyReading
  repeat' split
  all_goals exact h.elsewhere (by simp) (by simp)

theorem Drives.buttonReading (h : Drives s₀ s) (pressed : Bool) : Drives s₀ (s.buttonReading pressed) := by
  unfold State.buttonReading
  dsimp only
  split
  · exact (h.withAu _).requestTrip _
  · exact h.withAu _

theorem Drives.rpu (h : Drives s₀ s) (r : Rpu) : Drives s₀ { s with rpu := r } := h.same rfl rfl

theorem Drives.lmu (h : Drives s₀ s) (l : Lmu) : Drives s₀ { s with lmu := l } := h.same rfl rfl

theorem Drives.startFrame (h : Drives s₀ s) (item : TxItem) : Drives s₀ (s.startFrame item) := by
  unfold State.startFrame
  repeat' split
  all_goals first | exact h | exact h.elsewhere (by rfl) (by rfl)

theorem Drives.frameMayStart (h : Drives s₀ s) : Drives s₀ s.frameMayStart := by
  unfold State.frameMayStart
  split
  · dsimp only
    split
    · exact ((h.reach _).rpu _).startFrame _
    · exact h
  · exact h

theorem Drives.frameOver (h : Drives s₀ s) (tx : Transmission) : Drives s₀ (s.frameOver tx) := by
  have ended : Drives s₀ { s.reach tx.ends with rpu := { s.rpu with tx := none } } := h.elsewhere rfl rfl
  unfold State.frameOver
  dsimp only
  split
  · exact ended
  · split
    · split
      · exact Drives.radioDone (ended.rpu _)
      · exact Drives.radioDone (ended.rpu _)
    · split
      · exact ended.rpu _
      · exact ended

theorem Drives.channelWaitOver (h : Drives s₀ s) : Drives s₀ s.channelWaitOver := by
  unfold State.channelWaitOver
  dsimp only
  repeat' split
  all_goals exact h.elsewhere (by simp) (by simp)

theorem Drives.lockQualified (h : Drives s₀ s) : Drives s₀ s.lockQualified := by
  unfold State.lockQualified
  repeat' split
  all_goals first | exact h | exact h.elsewhere (by simp) (by simp)

theorem Drives.updateLine (h : Drives s₀ s) (r : Readings) : Drives s₀ (s.updateLine r) := by
  have measured : Drives s₀ ((s.reach (s.lmu.lastUpdate + s.lmu.interval)).measureLine r) := h.elsewhere (by simp) (by simp)
  exact Drives.takeUpdate (measured.elsewhere (by rfl) (by rfl)) _

end Commands

/-- The events that may start a close, or carry bytes that may. -/
def mayClose : Instr → Bool
  | .badFrame _ _ | .frameGapTimeout _ _ | .lineBreak _ _ | .uartFramingError _ _ | .panelCloseDelayExpiry | .recloseIntervalExpiry
  | .capacitorMeasurement _ => true
  | _ => false

section Dispatch
variable {s : State}

theorem exec_event_drives {c : Instr} {t : State} (hc : c.request = none) (hm : mayClose c = false) (h : exec c s = .next t) :
    Drives s t := by
  have k := Drives.refl s
  cases c <;> first | (cases hc; done) | (cases hm; done) | dsimp only [exec] at h
  case answerRead n => exact Drives.act (k.readAnswer n) h
  case pAnswerSend => exact Drives.act k.sendAnswer h
  case ack station number => exact Drives.ack station number h
  case powerOn contacts =>
    cases h
    exact (Drives.powerOn contacts).rejudge
  case resetInAsserted =>
    refine Drives.act (f := fun s => if s.ports.resetIn then s else s.interfaceReset) ?_ h
    split
    · exact k
    · exact k.interfaceReset
  case resetInReleased => exact Drives.act (f := fun s => { s with ports := { s.ports with resetIn := false } }) (k.elsewhere rfl rfl) h
  case measurementUpdate r => exact Drives.act (k.updateLine r) h
  case sourceCycleComplete c length => exact Drives.act (f := (·.cycleComplete c length)) (k.elsewhere (by simp [State.cycleComplete]) (by simp [State.cycleComplete])) h
  case noCrossingTimeout c =>
    refine Drives.act (f := (·.crossingLost c)) ?_ h
    dsimp only [State.crossingLost]
    split
    · exact k
    · exact k.elsewhere (by simp) (by simp)
  case sourceLockQualified => exact Drives.act k.lockQualified h
  case holdoverTimerExpiry =>
    refine Drives.act ?_ h
    unfold State.holdoverOver
    split
    · exact k.elsewhere (by simp) (by simp)
    · exact k
  case lowEnergyWatchExpiry =>
    refine Drives.act ?_ h
    split
    · exact (k.reach _).raiseLowEnergy
    · exact k
  case poleIndicationChange c => exact Drives.act (k.contactsRead c) h
  case tripPulseEnd => exact Drives.act k.tripPulseOver h
  case tripSettleExpiry => exact Drives.act k.tripWindowOver h
  case retripSettleExpiry => exact Drives.act k.retripWindowOver h
  case closePulseEnd => exact Drives.act k.closePulseOver h
  case closeSettleExpiry => exact Drives.act k.closeWindowOver h
  case invalidWatchExpiry => exact Drives.act k.invalidWatchOver h
  case mixedWatchExpiry => exact Drives.act k.mixedWatchOver h
  case energyWaitExpiry =>
    refine Drives.act ?_ h
    unfold State.energyWaitOver
    split
    · exact k.elsewhere (by simp) (by simp)
    · exact k
  case reclaimExpiry =>
    refine Drives.act ?_ h
    unfold State.reclaimOver
    split
    · exact k.elsewhere (by simp) (by simp)
    · exact k
  case controlKeyChange reading =>
    exact Drives.act (k.hear (k := controlKey) (fun _ _ ht => ht.elsewhere (by rfl) (by rfl)) (fun _ _ ht => ht.keyReading _) reading) h
  case supervisorKeyChange held =>
    exact Drives.act (k.hear (k := supervisorKey) (fun _ _ ht => ht.elsewhere (by rfl) (by rfl)) (fun _ _ ht => ht.elsewhere (by rfl) (by rfl)) held) h
  case handleLockChange pulled =>
    exact Drives.act (k.hear (k := handleLock) (fun _ _ ht => ht.elsewhere (by rfl) (by rfl)) (fun _ _ ht => ht.elsewhere (by rfl) (by rfl)) pulled) h
  case tripPushbutton =>
    exact Drives.act (k.hear (k := pushbutton) (fun _ _ ht => ht.elsewhere (by rfl) (by rfl)) (fun _ _ ht => ht.buttonReading _) true) h
  case tripPushbuttonRelease =>
    exact Drives.act (k.hear (k := pushbutton) (fun _ _ ht => ht.elsewhere (by rfl) (by rfl)) (fun _ _ ht => ht.buttonReading _) false) h
  case selectionExpiry =>
    refine Drives.act ?_ h
    split
    · exact k.elsewhere rfl rfl
    · exact k
  case acStateChange present =>
    exact Drives.act (k.hear (k := acSense) (fun _ _ ht => ht.same (by rfl) (by rfl)) (fun _ _ ht => ht.acReading _) present) h
  case batteryMeasurement v i temperature => exact Drives.act ((k.reach _).measureBattery v i temperature) h
  case absorbTimeout =>
    refine Drives.act ?_ h
    split
    · exact (k.reach _).withBcu _ rfl
    · exact k
  case floatDropExpiry =>
    refine Drives.act ?_ h
    split
    · exact (k.reach _).withBcu _ (Bcu.toBulk_circuit _)
    · exact k
  case disconnectTimerExpiry =>
    refine Drives.act ?_ h
    split
    · exact (k.reach _).setTier _
    · exact k
  case shutdownRadioTimeout =>
    refine Drives.act ?_ h
    unfold State.radioGivenUp
    split
    · exact Drives.radioDone ((k.reach _).rpu _)
    · exact k
  case shutdownStoreTimeout =>
    refine Drives.act ?_ h
    split
    · exact (k.reach _).writeMark
    · exact k
  case dayIncrease => exact Drives.act (k.reach _).dayPassed h
  case scheduledTestAttempt =>
    refine Drives.act ?_ h
    split
    · exact (k.reach _).attempt _
    · exact k
  case restTimerExpiry v =>
    refine Drives.act ?_ h
    split
    · exact (k.reach _).endRest _
    · exact k
  case loadTimerExpiry v i =>
    refine Drives.act ?_ h
    split
    · exact (k.reach _).endLoad _ _
    · exact k
  case suspensionTimerExpiry =>
    refine Drives.act ?_ h
    split
    · exact (k.reach _).abortTest _
    · exact k
  case floatWindowComplete =>
    refine Drives.act ?_ h
    split
    · exact k.closeFloatWindow
    · exact k
  case hotHourComplete =>
    refine Drives.act ?_ h
    split
    · exact k.closeHotHour
    · exact k
  case measurementTimerExpiry =>
    refine Drives.act ?_ h
    split
    · exact k.elsewhere (by simp) (by simp)
    · exact k
  case transmitFrameStart => exact Drives.act k.frameMayStart h
  case frameEnd =>
    refine Drives.act ?_ h
    split
    · exact k.frameOver _
    · exact k
  case ackTimeout =>
    refine Drives.act ?_ h
    split
    · exact k.elsewhere (by simp) (by simp)
    · exact k
  case channelWaitTimeout =>
    refine Drives.act ?_ h
    split
    · exact (k.reach _).channelWaitOver
    · exact k
  case probeTimerExpiry =>
    refine Drives.act ?_ h
    split
    · exact (k.reach _).rpu _
    · exact k
  case radioWarmupEnd =>
    refine Drives.act ?_ h
    split
    · exact (k.reach _).rpu _
    · exact k
  case carrierDetectChange active => exact Drives.act (f := fun s => { s with rpu := s.rpu.carrierTo active s.now }) (k.rpu _) h
  case listenWindowOpen =>
    refine Drives.act ?_ h
    split
    · exact (k.reach _).rpu _
    · exact k
  case listenWindowClose =>
    refine Drives.act ?_ h
    split
    · exact (k.reach _).rpu _
    · exact k
  case storeWriteComplete readBack =>
    cases h
    split
    · dsimp only
      split
      · exact (k.writeComplete readBack).rejudge
      · exact k.writeComplete readBack
    · exact k
  case notBeforeTimeReached number =>
    refine Drives.act ?_ h
    split
    · exact k.reach _
    · exact k
  case powerLoss =>
    cases h
    split
    · exact Drives.powerLoss
    · exact k

theorem exec_closing_sound {c : Instr} {t : State} (hm : mayClose c = true) (h : exec c s = .next t) : Sound s t := by
  have k := Drives.refl s
  cases c <;> first | (cases hm; done) | dsimp only [exec] at h
  case badFrame port bytes =>
    refine Sound.act ?_ h
    cases port
    · exact Sound.transactOnC _
    · exact k.toSound.receive _ _
    · exact k.toSound.receive _ _
  case frameGapTimeout port bytes =>
    refine Sound.act ?_ h
    have received := k.toSound.receive port bytes
    unfold State.gapOver
    dsimp only
    split
    · exact received
    · exact received.trans (((Drives.refl _).reach _).failPartial _).toSound
  case lineBreak port bytes => exact Sound.act ((k.toSound.receive port bytes).setParser port [] _) h
  case uartFramingError port bytes =>
    exact Sound.act ((k.toSound.receive port bytes).trans ((Drives.refl _).failPartial port).toSound) h
  case capacitorMeasurement v => exact Sound.act ((k.reach _).capacitorRead v).toSound.askAgain h
  case recloseIntervalExpiry =>
    refine Sound.act ?_ h
    unfold State.intervalOver
    split
    · exact (k.reach _).toSound.reclose _
    · exact k.toSound
  case panelCloseDelayExpiry =>
    refine Sound.act ?_ h
    split
    · exact (k.reach _).toSound.placePanelClose
    · exact k.toSound

theorem exec_sound {c : Instr} {t : State} (h : exec c s = .next t) : Sound s t := by
  cases hc : c.request with
  | some r => exact exec_request_sound (by rw [hc]; rfl) h
  | none =>
    cases hm : mayClose c with
    | true => exact exec_closing_sound hm h
    | false => exact (exec_event_drives hc hm h).toSound

theorem Drives.idle : Drives s s.idle := by
  have k := Drives.refl s
  unfold State.idle
  split
  · split <;> exact k.elsewhere rfl rfl
  · exact k

end Dispatch

/-- Settles O58: each step keeps the load and the coils, operation by operation. -/
theorem stepsKeepLoadAndCoils : Obligations.StepsKeepLoadAndCoils := by
  unfold Obligations.StepsKeepLoadAndCoils
  intro s t h
  have k : Sound s t := by
    cases hp : s.pending with
    | nil =>
      rw [step_nil hp] at h
      cases h
      exact Drives.idle.toSound
    | cons c rest =>
      rw [step_cons hp] at h
      have taken : Drives s { s with pending := rest } := (Drives.refl s).elsewhere rfl rfl
      exact taken.toSound.trans (exec_sound h)
  exact ⟨k.load, k.mechanism⟩

end Sys2Proof.Machine
end

section
/-! PROOFS. A close coil is driven by a close that had the whole permit (R67, R68, R99). -/

namespace Sys2Proof.Machine

/-! ### The permit -/

theorem failedWhen_nil {c : Failed} {b : Bool} : failedWhen c b = [] ↔ b = false := by
  cases b <;> simp [failedWhen]

/-- The close permit, condition by condition (R67, R68, R99). -/
theorem State.closeFailed_nil {o : Origin} {s : State} : s.closeFailed o = [] ↔
    s.au.tags = [] ∧ s.au.handlePulled = false ∧ (o = .reclose → s.au.block = false) ∧ o.modeFails s.au.mode = false
      ∧ s.mdr.op = none ∧ s.mdr.latch = false ∧ s.mdr.poles.allOpen = true ∧ s.mdr.settings.closeEnergy ≤ s.mdr.estimate := by
  simp [State.closeFailed, Au.failed, Mdr.failed, failedWhen_nil]

/-- A close of origin `o` begins at the moment of `s` and is in its pulse in `t`, where the permit still stands. -/
structure Began (o : Origin) (s t : State) : Prop where
  idle : s.mdr.op = none
  tags : t.au.tags = []
  handle : t.au.handlePulled = false
  latch : t.mdr.latch = false
  poles : t.mdr.poles.allOpen = true
  energy : t.mdr.settings.eTrip ≤ t.mdr.estimate
  places : o = .c ∨ o = .l ∨ o = .p ∨ o = .reclose
  mode : o.modeFails t.au.mode = false
  block : o = .reclose → t.au.block = false
  op : ∃ op, t.mdr.op = some op ∧ op.kind = .close ∧ op.phase = .pulse ∧ op.origins = [o] ∧ op.pulseStart = s.now
    ∧ op.energyBefore = t.mdr.estimate + t.mdr.settings.eClose

/-- The states of a close in flight that agree in what the permit reads. -/
structure Carries (s t : State) : Prop where
  tags : s.au.tags = [] → t.au.tags = []
  handle : t.au.handlePulled = s.au.handlePulled
  mode : t.au.mode = s.au.mode
  latch : s.mdr.latch = false → t.mdr.latch = false
  poles : t.mdr.poles = s.mdr.poles
  settings : t.mdr.settings = s.mdr.settings
  estimate : t.mdr.estimate = s.mdr.estimate
  op : t.mdr.op = s.mdr.op

section
variable {s₀ s t : State}

theorem Carries.refl (s : State) : Carries s s := ⟨id, rfl, rfl, id, rfl, rfl, rfl, rfl⟩

theorem Carries.trans {u : State} (h : Carries s t) (h' : Carries t u) : Carries s u :=
  ⟨fun e => h'.tags (h.tags e), h'.handle.trans h.handle, h'.mode.trans h.mode, fun e => h'.latch (h.latch e), h'.poles.trans h.poles,
    h'.settings.trans h.settings, h'.estimate.trans h.estimate, h'.op.trans h.op⟩

theorem Began.carry {o : Origin} {u : State} (h : Began o s t) (k : Carries t u) (hb : o = .reclose → u.au.block = t.au.block) :
    Began o s u where
  idle := h.idle
  tags := k.tags h.tags
  handle := k.handle.trans h.handle
  latch := k.latch h.latch
  poles := by rw [k.poles]; exact h.poles
  energy := by rw [k.settings, k.estimate]; exact h.energy
  places := h.places
  mode := by rw [k.mode]; exact h.mode
  block := fun e => (hb e).trans (h.block e)
  op := by rw [k.op, k.settings, k.estimate]; exact h.op

/-- A state in which the MDR and what the permit reads of the AU are as they were. -/
theorem Carries.same (hm : t.mdr = s.mdr) (ht : s.au.tags = [] → t.au.tags = []) (hh : t.au.handlePulled = s.au.handlePulled)
    (ha : t.au.mode = s.au.mode) : Carries s t :=
  ⟨ht, hh, ha, fun e => hm ▸ e, by rw [hm], by rw [hm], by rw [hm], by rw [hm]⟩

/-- A close that fires had the permit (R68). -/
theorem State.beginClose_began {o : Origin} (ho : o = .c ∨ o = .l ∨ o = .p ∨ o = .reclose) (h : s.closeFailed o = []) :
    Began o s (s.beginClose o) := by
  obtain ⟨tags, handle, block, mode, idle, latch, poles, energy⟩ := State.closeFailed_nil.mp h
  have au : (s.beginClose o).au = s.au := by simp
  simp only [MechanismSettings.closeEnergy] at energy
  refine ⟨idle, au ▸ tags, au ▸ handle, ?_, ?_, ?_, ho, au ▸ mode, au ▸ block, ?_⟩ <;> rw [State.beginClose_mdr]
  · exact latch
  · exact poles
  · show s.mdr.settings.eTrip ≤ s.mdr.estimate - s.mdr.settings.eClose
    omega
  · refine ⟨_, rfl, rfl, rfl, rfl, rfl, ?_⟩
    show s.mdr.estimate = s.mdr.estimate - s.mdr.settings.eClose + s.mdr.settings.eClose
    omega

theorem State.requestClose_began {o : Origin} (ho : o = .c ∨ o = .l ∨ o = .p ∨ o = .reclose) (hs : s.mdr.closeDrive = false)
    (ht : (s.requestClose o).1.mdr.closeDrive = true) : Began o s (s.requestClose o).1 := by
  rcases s.requestClose_cases o with ⟨permit, e⟩ | ⟨-, e⟩
  · rw [e]; exact State.beginClose_began ho permit
  · rw [e] at ht; rw [hs] at ht; cases ht

/-! ### Requests -/

/-- What a request may do to the close coil: a close in flight goes on with its permit or loses its drive, and a new one begins with the
permit. -/
structure Pulses (s t : State) : Prop where
  now : t.now = s.now
  idle : t.mdr.op = none → s.mdr.op = none
  kept : (∃ op, s.mdr.op = some op ∧ op.kind = .close) → t.mdr.closeDrive = true → s.mdr.closeDrive = true ∧ Carries s t
  fires : s.mdr.closeDrive = false → t.mdr.closeDrive = true → ∃ o, o ≠ .reclose ∧ Began o s t

theorem Pulses.refl (s : State) : Pulses s s := ⟨rfl, id, fun _ d => ⟨d, Carries.refl s⟩, fun h d => by rw [h] at d; cases d⟩

theorem Pulses.trans {u : State} (h : Pulses s t) (h' : Pulses t u) : Pulses s u := by
  have inFlight {o : Origin} (b : Began o s t) : ∃ op, t.mdr.op = some op ∧ op.kind = .close := by
    obtain ⟨op, ho, hk, -⟩ := b.op
    exact ⟨op, ho, hk⟩
  refine ⟨h'.now.trans h.now, fun e => h.idle (h'.idle e), ?_, ?_⟩
  · rintro ⟨op, ho, hk⟩ d
    cases dt : t.mdr.closeDrive with
    | false =>
      obtain ⟨o, -, b⟩ := h'.fires dt d
      rw [h.idle b.idle] at ho
      cases ho
    | true =>
      obtain ⟨ds, k⟩ := h.kept ⟨op, ho, hk⟩ dt
      exact ⟨ds, k.trans (h'.kept ⟨op, k.op.trans ho, hk⟩ d).2⟩
  · intro ds d
    cases dt : t.mdr.closeDrive with
    | false =>
      obtain ⟨o, command, b⟩ := h'.fires dt d
      obtain ⟨op, ho, hk, hp, hs, start, before⟩ := b.op
      exact ⟨o, command, { b with idle := h.idle b.idle, op := ⟨op, ho, hk, hp, hs, start.trans h.now, before⟩ }⟩
    | true =>
      obtain ⟨o, command, b⟩ := h.fires ds dt
      exact ⟨o, command, b.carry (h'.kept (inFlight b) d).2 fun e => absurd e command⟩

/-- A state with the MDR as it was, and the AU's part of the permit. -/
theorem Pulses.same (h : Pulses s₀ s) (hm : t.mdr = s.mdr) (hn : t.now = s.now) (ht : s.au.tags = [] → t.au.tags = [])
    (hh : t.au.handlePulled = s.au.handlePulled) (ha : t.au.mode = s.au.mode) : Pulses s₀ t :=
  h.trans ⟨hn, fun e => hm ▸ e, fun _ d => ⟨hm ▸ d, Carries.same hm ht hh ha⟩, fun ds d => by rw [hm, ds] at d; cases d⟩

/-- A state with the MDR and the AU as they were. -/
theorem Pulses.elsewhere (h : Pulses s₀ s) (hm : t.mdr = s.mdr) (hn : t.now = s.now) (ha : t.au = s.au) : Pulses s₀ t :=
  h.same hm hn (fun e => ha ▸ e) (by rw [ha]) (by rw [ha])

/-- A state in which no close pulse goes on. -/
theorem Pulses.cut (hn : t.now = s.now) (hi : t.mdr.op = none → s.mdr.op = none)
    (hc : t.mdr.closeDrive = true → s.mdr.closeDrive = true ∧ ¬ ∃ op, s.mdr.op = some op ∧ op.kind = .close) : Pulses s t :=
  ⟨hn, hi, fun c d => absurd c (hc d).2, fun ds d => by rw [(hc d).1] at ds; cases ds⟩

theorem Pulses.requestClose {o : Origin} (h : Pulses s₀ s) (ho : o = .c ∨ o = .l ∨ o = .p) : Pulses s₀ (s.requestClose o).1 := by
  have places : o = .c ∨ o = .l ∨ o = .p ∨ o = .reclose := by tauto
  have command : o ≠ .reclose := by rintro rfl; simp at ho
  refine h.trans ⟨by simp [State.now], fun e => ?_, fun ⟨op, hop, _⟩ d => ?_, fun ds d => ⟨o, command, State.requestClose_began places ds d⟩⟩
  · rcases s.requestClose_cases o with ⟨permit, -⟩ | ⟨-, eq⟩
    · exact State.closeFailed_idle permit
    · rwa [eq] at e
  · rcases s.requestClose_cases o with ⟨permit, -⟩ | ⟨-, eq⟩
    · rw [State.closeFailed_idle permit] at hop; cases hop
    · rw [eq] at d ⊢
      exact ⟨d, Carries.refl s⟩

theorem State.cutClose_mdr (o : Origin) (e : Option Element) (c : Currents) (op : Operation) (s : State) :
    (s.cutClose o e c op).mdr.closeDrive = false ∧ (s.cutClose o e c op).mdr.op.isSome = true := by
  have mdr : (s.cutClose o e c op).mdr = ((s.withMdr fun m => { m with closeDrive := false }).beginTrip o e c).mdr := by simp [State.cutClose]
  rw [mdr, State.beginTrip_mdr]
  exact ⟨rfl, rfl⟩

/-- A trip ends the drive of a close (R66, R74). -/
theorem Pulses.requestTrip (o : Origin) (s : State) : Pulses s (s.requestTrip o) := by
  refine Pulses.cut (by simp [State.now]) (fun e => ?_) fun d => ?_
  all_goals
    unfold State.requestTrip at *
    rcases s.requestTripWith_cases o none s.lmu.currents with ⟨idle, eq⟩ | ⟨op, hop, hk, eq⟩ | ⟨op, -, -, eq⟩
  · exact idle
  · rw [eq] at e
    split at e
    · exact e
    · cases e
  · rw [eq] at e
    have some := (s.cutClose_mdr o none s.lmu.currents op).2
    rw [e] at some; cases some
  · rw [eq, State.beginTrip_mdr] at d; cases d
  · have trip : ¬ ∃ op, s.mdr.op = some op ∧ op.kind = .close := by
      rintro ⟨op', hop', hk'⟩
      rw [hop] at hop'; cases hop'
      rw [hk] at hk'; cases hk'
    rw [eq] at d
    split at d
    · exact ⟨d, trip⟩
    · exact ⟨d, trip⟩
  · rw [eq, (s.cutClose_mdr o none s.lmu.currents op).1] at d; cases d

theorem Pulses.placeTag (slot : Nat) (kind : TagKind) (origin : Port) (crew : Nat) (note : List Byte) (s : State) :
    Pulses s (s.placeTag slot kind origin crew note) := by
  have mdr : (s.placeTag slot kind origin crew note).mdr
      = (((s.withAu fun a => a.addTag slot kind origin crew s.stamp note).dropCloses .tag).tagToMechanism).mdr := by simp [State.placeTag]
  have same : ((s.withAu fun a => a.addTag slot kind origin crew s.stamp note).dropCloses .tag).mdr = s.mdr := rfl
  refine Pulses.cut (by simp [State.placeTag, State.now]) ?_ ?_
  all_goals
    rw [mdr]
    unfold State.tagToMechanism
    rw [same]
    split
  · next op hop =>
    split
    · intro e
      have some := (((s.withAu fun a => a.addTag slot kind origin crew s.stamp note).dropCloses .tag).cutClose_mdr .tag none
        ((s.withAu fun a => a.addTag slot kind origin crew s.stamp note).dropCloses .tag).lmu.currents op).2
      rw [e] at some; cases some
    · exact id
  · exact id
  · next op hop =>
    split
    · intro d
      rw [(((s.withAu fun a => a.addTag slot kind origin crew s.stamp note).dropCloses .tag).cutClose_mdr .tag none
        ((s.withAu fun a => a.addTag slot kind origin crew s.stamp note).dropCloses .tag).lmu.currents op).1] at d
      cases d
    · next hk =>
      intro d
      refine ⟨d, ?_⟩
      rintro ⟨op', hop', hk'⟩
      rw [hop] at hop'; cases hop'
      rw [hk] at hk'; cases hk'
  · next hop =>
    intro d
    exact ⟨d, by rintro ⟨op, hop', -⟩; rw [hop] at hop'; cases hop'⟩

/-- The latch cleared, and the watches afresh (R82). -/
theorem Pulses.clearLatch (h : Pulses s₀ s) : Pulses s₀ ((s.withMdr fun m => { m with latch := false }).place .mechanism) :=
  h.trans ⟨rfl, id, fun _ d => ⟨d, ⟨id, rfl, rfl, fun _ => rfl, rfl, rfl, rfl, rfl⟩⟩, fun ds d => by
    have off : s.mdr.closeDrive = true := d
    rw [ds] at off; cases off⟩

theorem Pulses.watch (h : Pulses s₀ s) : Pulses s₀ (s.withMdr (·.watch s.now)) := by
  have keeps : (s.mdr.watch s.now).op = s.mdr.op ∧ (s.mdr.watch s.now).closeDrive = s.mdr.closeDrive
      ∧ (s.mdr.watch s.now).latch = s.mdr.latch ∧ (s.mdr.watch s.now).poles = s.mdr.poles
      ∧ (s.mdr.watch s.now).settings = s.mdr.settings ∧ (s.mdr.watch s.now).estimate = s.mdr.estimate := by
    unfold Mdr.watch
    split <;> exact ⟨rfl, rfl, rfl, rfl, rfl, rfl⟩
  obtain ⟨op, drive, latch, poles, settings, estimate⟩ := keeps
  refine h.trans ⟨rfl, fun e => op ▸ e, fun _ d => ⟨drive ▸ d, ⟨id, rfl, rfl, fun e => latch.trans e, poles, settings, estimate, op⟩⟩, fun ds d => ?_⟩
  have on : s.mdr.closeDrive = true := drive ▸ d
  rw [ds] at on; cases on

theorem Pulses.answer (h : Pulses s₀ s) (port : Port) (a : Answer) : Pulses s₀ (s.answer port a) :=
  h.elsewhere (by simp) (by simp [State.now]) (by simp)

theorem Pulses.rejudge (h : Pulses s₀ s) : Pulses s₀ s.rejudge := h.elsewhere rfl rfl rfl

theorem Pulses.turnedAway (src : Source) (s : State) : Pulses s (s.turnedAway src) := by
  have k := Pulses.refl s
  cases src with
  | c => exact k.elsewhere rfl rfl rfl
  | p => exact k
  | l => exact k

theorem Pulses.respond {kind : RequestKind} {src : Source} (ref : Byte) {owner : Port → State → Taken}
    (ho : kind.permitted (sourcePort src) = true → Pulses s (owner (sourcePort src) s).state) : Pulses s (Machine.respond kind src ref owner s) :=
  respond_closed ref (Pulses.refl s) (Pulses.turnedAway src s) (fun _ _ _ k => k.answer _ _) ho

theorem Pulses.act {f : State → State} (hf : Pulses s (f s)) (ht : Machine.act f s = .next t) : Pulses s t := by
  unfold Machine.act at ht
  split at ht
  · cases ht; exact hf.rejudge
  · cases ht; exact Pulses.refl s

theorem portOrigin_command (port : Port) : portOrigin port = .c ∨ portOrigin port = .l ∨ portOrigin port = .p := by
  cases port <;> simp [portOrigin]

theorem Pulses.placePanelClose (h : Pulses s₀ s) : Pulses s₀ s.placePanelClose :=
  (h.requestClose (.inr (.inr rfl))).same rfl rfl id rfl rfl

theorem Pulses.withAu (h : Pulses s₀ s) (f : Au → Au) (ht : (f s.au).tags = s.au.tags := by rfl)
    (hh : (f s.au).handlePulled = s.au.handlePulled := by rfl) (ha : (f s.au).mode = s.au.mode := by rfl) : Pulses s₀ (s.withAu f) :=
  h.same rfl rfl (fun e => ht.trans e) hh ha

/-- The requests a byte stream can carry; the MECHANISM SETTINGS of the C-port alone may lower the energy of a permit (R87). -/
theorem exec_request_pulses {c : Instr} (hc : c.request.isSome = true)
    (hm : ∀ src ref fields, c = .mechanismSettings src ref fields → sourcePort src ≠ .c) (h : exec c s = .next t) : Pulses s t := by
  have k := Pulses.refl s
  cases c <;> first | (cases hc; done) | refine Pulses.act (Pulses.respond _ fun permitted => ?_) h
  case statusRead | tagList | readAttributes | readTestHistory => exact k
  case clearAlerts =>
    dsimp only
    split <;> exact k.elsewhere (by rfl) (by rfl) (by rfl)
  case trip => exact Pulses.requestTrip _ _
  case close =>
    dsimp only
    split
    · exact k
    · have started (n : Nat) : Pulses s (s.withAu fun a => { a with panel := .running n }) := k.withAu _
      split
      · exact ((started _).answer _ _).placePanelClose
      · exact started _
  case selectClose =>
    dsimp only
    split
    · exact k
    · exact k.same (by rfl) (by rfl) (by exact id) (by rfl) (by rfl)
  case operateClose =>
    have spent : Pulses s s.clearSelection := k.withAu _
    dsimp only
    split
    · exact spent.requestClose (portOrigin_command _)
    · exact k
  case cancel =>
    repeat' split
    all_goals first | exact k | exact k.same (by rfl) (by rfl) (by exact id) (by rfl) (by rfl)
  case tagPlace =>
    repeat' split
    all_goals first | exact k | exact Pulses.placeTag _ _ _ _ _ _
  case tagRemove =>
    have removed (slot : Nat) : Pulses s (s.removeTag slot) :=
      k.same (by simp [State.removeTag]) (by simp [State.removeTag, State.now]) (fun e => by simp [State.removeTag, e])
        (by simp [State.removeTag]) (by simp [State.removeTag])
    repeat' split
    all_goals first | exact k | exact removed _
  case recloseBlock =>
    repeat' split
    all_goals first | exact k | exact k.same (by rfl) (by rfl) (by exact id) (by rfl) (by rfl)
  case settingsWrite =>
    dsimp only
    repeat' split
    all_goals first | exact k | exact k.elsewhere (by simp [Taken.done]) (by simp [Taken.done, State.now]) (by simp [Taken.done])
  case settingsRead =>
    repeat' split
    all_goals exact k
  case curveLoad =>
    repeat' split
    all_goals first | exact k | exact k.elsewhere (by rfl) (by rfl) (by rfl)
  case mechanismSettings src ref fields =>
    have port := hm src ref fields rfl
    cases hp : sourcePort src <;> rw [hp] at permitted port <;> first | exact absurd rfl port | cases permitted
  case mechanismFaultReset =>
    dsimp only
    split
    · exact k
    · split
      · split
        · exact k.clearLatch.watch
        · exact k.clearLatch
      · exact k
  case batterySettings src ref fields =>
    have set (b : BatterySettings) : Pulses s (((s.withStored fun r => { r with settings := b }).place .battery).judgeVerdict) :=
      k.elsewhere (by simp) (by simp [State.now]) (by simp)
    dsimp only
    split
    · exact k
    · split
      · exact (set (batteryOf fields)).elsewhere rfl rfl rfl
      · split
        · exact (set (batteryOf fields)).elsewhere (by simp [Taken.code]) (by simp [Taken.code, State.now]) (by simp [Taken.code])
        · exact set _
  case batteryTest =>
    have started (mode : TestMode) (port : Option Port) : Pulses s (s.startTest mode port) :=
      k.elsewhere (by simp) (by simp [State.now]) (by simp)
    have hold {u : State} (h : Pulses s u) (port : Port) (ref : Byte) : Pulses s (u.beginHold port ref) := by
      cases port <;> exact h.elsewhere rfl rfl rfl
    repeat' split
    all_goals first
      | exact k
      | exact hold (started _ _) _ _
      | exact started _ _
      | unfold Taken.precondition; split <;> exact k
  case abortTest =>
    split
    · exact k.elsewhere (by simp [Taken.code]) (by simp [Taken.code, State.now]) (by simp [Taken.code])
    · exact k
  case batteryReplaced =>
    have replaced : Pulses s s.replaceBattery :=
      k.elsewhere (by simp [State.replaceBattery]) (by simp [State.replaceBattery, State.now]) (by simp [State.replaceBattery])
    repeat' split
    all_goals first | exact k | exact replaced
  case readRecord =>
    split <;> exact k
  case readCounters =>
    have limited (n : Nat) : Pulses s (s.setWearLimit n) :=
      k.elsewhere (by simp [State.setWearLimit]) (by simp [State.setWearLimit, State.now]) (by simp [State.setWearLimit])
    dsimp only
    repeat' split
    all_goals first | exact k | exact limited _
  case timeSet =>
    dsimp only
    split
    · exact k
    · exact k.elsewhere (by rfl) (by rfl) (by rfl)
  case trackerSources =>
    have listed (l : TrackerSettings) : Pulses s ((s.newSources l).place .tracker) :=
      k.elsewhere (by simp [State.newSources]) (by simp [State.newSources, State.now]) (by simp [State.newSources])
    split
    · exact k
    · exact listed _
  case linkSettings =>
    have linked (l : LinkSettings) : Pulses s (s.newLink l) :=
      k.elsewhere (by simp [State.newLink]) (by simp [State.newLink, State.now]) (by simp [State.newLink])
    split
    · exact k
    · exact linked _

/-! ### Received bytes -/

theorem Pulses.ack (station : Word16) (number : Nat) (ht : exec (.ack station number) s = .next t) : Pulses s t := by
  refine Pulses.act (f := fun s => if s.rpu.hears && station = s.rpu.settings.address then s.acknowledge number else s) ?_ ht
  have k := Pulses.refl s
  split
  · exact k.elsewhere (by simp) (by simp [State.now]) (by simp)
  · exact k

theorem Pulses.takeCommand (h : Pulses s₀ s) {port : Port} {c : Instr} (hc : carriedOn port c) (hp : port ≠ .c) :
    Pulses s₀ (s.takeCommand c) := by
  rcases s.takeCommand_cases c with e | ⟨hr | ⟨station, number, rfl⟩, e⟩
  · rwa [e]
  · refine h.trans (exec_request_pulses hr ?_ e)
    rintro src ref fields rfl
    rwa [hc _ src ref rfl]
  · exact h.trans (Pulses.ack station number e)

theorem Pulses.setParser (h : Pulses s₀ s) (port : UartPort) (kept : List Byte) (last : Nat) : Pulses s₀ (s.setParser port kept last) := by
  obtain ⟨-, mdr, au, clock⟩ := s.setParser_frame port kept last
  exact h.elsewhere mdr (congrArg Clock.running clock) au

theorem uartPort_ne (port : UartPort) : uartPort port ≠ .c := by cases port <;> simp [uartPort]

theorem Pulses.receive (port : UartPort) (bytes : List Byte) : Pulses s (s.receive port bytes) :=
  receive_closed (Pulses.refl s) (fun _ _ _ k => k.setParser _ _ _) (fun _ _ k => k.answer _ _)
    (fun _ _ hc k => k.takeCommand hc (uartPort_ne port)) bytes

theorem Pulses.failPartial (h : Pulses s₀ s) (port : UartPort) : Pulses s₀ (s.failPartial port) :=
  failPartial_closed h (fun _ _ _ k => k.setParser _ _ _) fun _ _ k => k.answer _ _

/-- A close that a step starts: with no running time passed after it, or by bytes whose gap passes after it. -/
def State.startsClose (s t : State) : Prop :=
  s.mdr.closeDrive = false → t.mdr.closeDrive = true → ∃ o u, Began o u t ∧ u.mdr.op = s.mdr.op ∧ t.now = u.now

theorem Pulses.starts (h : Pulses s t) : s.startsClose t := fun ds d =>
  let ⟨o, _, b⟩ := h.fires ds d
  ⟨o, s, b, rfl, h.now⟩

theorem Drives.starts (h : Drives s t) : s.startsClose t := fun ds d => by rw [h.quiet d] at ds; cases ds

theorem MechanismSettings.starts {src : Source} {ref : Byte} {fields : List Nat} (h : exec (.mechanismSettings src ref fields) s = .next t) :
    s.startsClose t := by
  have k := Drives.refl s
  refine Drives.starts (Drives.act (respond_closed (P := Drives s) ref k (k.turnedAway src) (fun _ _ _ k => k.answer _ _) fun _ => ?_) h)
  split
  · exact k
  · exact Drives.place (k.account (by rfl) (by rfl)) _

theorem exec_request_starts {c : Instr} (hc : c.request.isSome = true) (h : exec c s = .next t) : s.startsClose t := by
  by_cases hm : ∃ src ref fields, c = .mechanismSettings src ref fields
  · obtain ⟨src, ref, fields, rfl⟩ := hm
    exact MechanismSettings.starts h
  · exact (exec_request_pulses hc (fun src ref fields e => absurd ⟨src, ref, fields, e⟩ hm) h).starts

/-- The same start of a close, in a state that agrees with the one after it. -/
theorem State.startsClose.carry {u : State} (h : s.startsClose t) (hm : u.mdr = t.mdr) (hn : u.now = t.now) (ha : u.au.tags = t.au.tags
      ∧ u.au.handlePulled = t.au.handlePulled ∧ u.au.mode = t.au.mode ∧ u.au.block = t.au.block) : s.startsClose u := by
  intro ds d
  obtain ⟨tags, handle, mode, block⟩ := ha
  obtain ⟨o, v, b, idle, now⟩ := h ds (hm ▸ d)
  exact ⟨o, v, b.carry (Carries.same hm (fun e => tags.trans e) handle mode) fun _ => block, idle, hn.trans now⟩

theorem State.startsClose.act {f : State → State} (hf : s.startsClose (f s)) (ht : Machine.act f s = .next t) : s.startsClose t := by
  unfold Machine.act at ht
  split at ht
  · cases ht; exact hf.carry rfl rfl ⟨rfl, rfl, rfl, rfl⟩
  · cases ht; exact (Pulses.refl s).starts

theorem State.transactOnC_starts (bytes : List Byte) (s : State) : s.startsClose (s.transactOnC bytes) := by
  have k := Drives.refl s
  unfold State.transactOnC
  split
  · exact k.starts
  · split
    · exact (k.turnedAway _).starts
    · split
      · exact (k.readAnswer _).starts
      · refine found_closed (port := .c) k.starts (fun _ _ => (k.answer _ _).starts) (fun c _ _ => ?_) fun c hc => checkPortFrame_carried hc
        rcases s.takeCommand_cases c with e | ⟨hr | ⟨station, number, rfl⟩, e⟩
        · rw [e]; exact k.starts
        · exact exec_request_starts hr e
        · exact (Pulses.ack station number e).starts

/-- A close asked for with the coils and the AU as they were. -/
theorem State.requestClose_starts {o : Origin} (ho : o = .c ∨ o = .l ∨ o = .p ∨ o = .reclose) (hd : t.mdr.closeDrive = true → s.mdr.closeDrive = true)
    (hi : t.mdr.op = s.mdr.op) : s.startsClose (t.requestClose o).1 := by
  intro ds d
  have dt : t.mdr.closeDrive = false := by
    cases h : t.mdr.closeDrive with
    | false => rfl
    | true => rw [hd h] at ds; cases ds
  exact ⟨o, t, State.requestClose_began ho dt d, hi, by simp [State.now]⟩

/-- What the SQC does with the answer to a reclose leaves the close alone. -/
theorem State.reclose_starts (wait : Sequence) (hd : t.mdr.closeDrive = true → s.mdr.closeDrive = true) (hi : t.mdr.op = s.mdr.op) :
    s.startsClose (t.reclose wait) := by
  have asked := State.requestClose_starts (o := .reclose) (.inr (.inr (.inr rfl))) hd hi
  unfold State.reclose
  dsimp only
  split
  · exact asked.carry rfl rfl ⟨rfl, rfl, rfl, rfl⟩
  · exact asked.carry rfl rfl ⟨rfl, rfl, rfl, rfl⟩
  · split <;> exact asked.carry (by simp) (by simp [State.now]) (by simp)

theorem State.capacitorRead_op (vcap : Nat) (s : State) : (s.capacitorRead vcap).mdr.op = s.mdr.op := by
  have control (t : State) : t.rechargeControl.mdr.op = t.mdr.op := by
    unfold State.rechargeControl
    repeat' split
    all_goals simp [State.withMdr]
  have watch (t : State) : t.lowEnergyWatch.mdr.op = t.mdr.op := by
    unfold State.lowEnergyWatch
    repeat' split
    all_goals simp [State.withMdr, State.raiseLowEnergy]
  exact (watch _).trans (control _)

theorem exec_closing_starts {c : Instr} (hm : mayClose c = true) (hg : ∀ port bytes, c ≠ .frameGapTimeout port bytes) (h : exec c s = .next t) :
    s.startsClose t := by
  have k := Drives.refl s
  cases c <;> first | (cases hm; done) | (exact absurd rfl (hg _ _)) | dsimp only [exec] at h
  case badFrame port bytes =>
    refine State.startsClose.act ?_ h
    cases port
    · exact State.transactOnC_starts _ _
    · exact (Pulses.receive .p bytes).starts
    · exact (Pulses.receive .l bytes).starts
  case lineBreak port bytes => exact State.startsClose.act ((Pulses.receive port bytes).setParser port [] _).starts h
  case uartFramingError port bytes => exact State.startsClose.act ((Pulses.receive port bytes).failPartial port).starts h
  case capacitorMeasurement v =>
    have read := (k.reach (s.mdr.lastMeasurement + capacitorPeriod)).capacitorRead v
    refine State.startsClose.act ?_ h
    rw [State.measureCapacitor_eq]
    unfold State.askAgain
    split
    · exact State.reclose_starts _ read.quiet (State.capacitorRead_op _ _)
    · exact read.starts
  case recloseIntervalExpiry =>
    refine State.startsClose.act ?_ h
    unfold State.intervalOver
    split
    · exact State.reclose_starts _ (k.reach _).quiet rfl
    · exact k.starts
  case panelCloseDelayExpiry =>
    refine State.startsClose.act ?_ h
    split
    · exact (State.requestClose_starts (o := .p) (.inr (.inr (.inl rfl))) (k.reach _).quiet rfl).carry rfl rfl ⟨rfl, rfl, rfl, rfl⟩
    · exact k.starts

theorem exec_starts {c : Instr} (hg : ∀ port bytes, c ≠ .frameGapTimeout port bytes) (h : exec c s = .next t) : s.startsClose t := by
  cases hc : c.request with
  | some r => exact exec_request_starts (by rw [hc]; rfl) h
  | none =>
    cases hm : mayClose c with
    | true => exact exec_closing_starts hm hg h
    | false => exact (exec_event_drives hc hm h).starts

/-- The bytes of a gap timeout may start a close, and the gap passes after it (R171). -/
theorem gapTimeout_began {port : UartPort} {bytes : List Byte} (h : exec (.frameGapTimeout port bytes) s = .next t)
    (ds : s.mdr.closeDrive = false) (d : t.mdr.closeDrive = true) : ∃ o, Began o s t := by
  have received : Pulses s (s.receive port bytes) := Pulses.receive port bytes
  have took {u : State} (ht : Machine.act (fun s => s.gapOver port bytes) s = .next u) : u.mdr = (s.receive port bytes).mdr ∧
      u.au = (s.receive port bytes).au ∨ u = s := by
    unfold Machine.act at ht
    split at ht
    · cases ht
      refine .inl ?_
      unfold State.gapOver
      dsimp only
      split
      · exact ⟨rfl, rfl⟩
      · exact failPartial_closed (P := fun u => u.mdr = (s.receive port bytes).mdr ∧ u.au = (s.receive port bytes).au) ⟨rfl, rfl⟩
          (fun u kept last hu => ⟨(u.setParser_frame port kept last).2.1.trans hu.1, (u.setParser_frame port kept last).2.2.1.trans hu.2⟩)
          fun u a hu => ⟨by simpa using hu.1, by simpa using hu.2⟩
    · cases ht; exact .inr rfl
  rcases took h with ⟨mdr, au⟩ | rfl
  · obtain ⟨o, command, b⟩ := received.fires ds (mdr ▸ d)
    exact ⟨o, b.carry (Carries.same mdr (fun e => au ▸ e) (by rw [au]) (by rw [au])) fun e => absurd e command⟩
  · rw [ds] at d; cases d

end

/-- Settles O60: a step that drives a close coil anew places a close or carries the bytes of one, and it had the permit. -/
theorem closePulsesNeedThePermit : Obligations.ClosePulsesNeedThePermit := by
  unfold Obligations.ClosePulsesNeedThePermit
  intro s t h ds d
  have modes (o : Origin) (m : ControlMode) (hm : o.modeFails m = false) : (o = .c ∨ o = .l → m = .remoteMode) ∧ (o = .p → m = .localMode) := by
    constructor
    · rintro (rfl | rfl) <;> simpa [Origin.modeFails] using hm
    · rintro rfl; simpa [Origin.modeFails] using hm
  have settled {o : Origin} {u : State} (b : Began o u t) (idle : u.mdr.op = s.mdr.op)
      (time : u.now = t.now ∨ ∃ port bytes, s.pending.head? = some (.frameGapTimeout port bytes) ∧ u.now = s.now) :
      s.mdr.op = none ∧ t.au.tags = [] ∧ t.au.handlePulled = false ∧ t.mdr.latch = false ∧ t.mdr.poles.allOpen = true
      ∧ t.mdr.settings.eTrip ≤ t.mdr.estimate
      ∧ ∃ op o, t.mdr.op = some op ∧ op.kind = .close ∧ op.phase = .pulse ∧ op.origins = [o]
        ∧ (op.pulseStart = t.now ∨ ∃ port bytes, s.pending.head? = some (.frameGapTimeout port bytes) ∧ op.pulseStart = s.now)
        ∧ op.energyBefore = t.mdr.estimate + t.mdr.settings.eClose
        ∧ (o = .c ∨ o = .l ∨ o = .p ∨ o = .reclose)
        ∧ (o = .c ∨ o = .l → t.au.mode = .remoteMode) ∧ (o = .p → t.au.mode = .localMode) ∧ (o = .reclose → t.au.block = false) := by
    obtain ⟨op, ho, hk, hp, hs, start, before⟩ := b.op
    obtain ⟨remote, own⟩ := modes o _ b.mode
    rw [← start] at time
    exact ⟨idle ▸ b.idle, b.tags, b.handle, b.latch, b.poles, b.energy, op, o, ho, hk, hp, hs, time, before, b.places, remote, own, b.block⟩
  obtain hp | ⟨c, rest, hp⟩ : s.pending = [] ∨ ∃ c rest, s.pending = c :: rest := by cases s.pending <;> simp
  · rw [step_nil hp] at h
    cases h
    obtain ⟨o, u, b, idle, now⟩ := Drives.idle.starts ds d
    exact settled b idle (.inl now.symm)
  · rw [step_cons hp] at h
    by_cases hg : ∃ port bytes, c = .frameGapTimeout port bytes
    · obtain ⟨port, bytes, rfl⟩ := hg
      obtain ⟨o, b⟩ := gapTimeout_began h ds d
      exact settled b rfl (.inr ⟨port, bytes, by rw [hp]; rfl, rfl⟩)
    · obtain ⟨o, u, b, idle, now⟩ := exec_starts (fun port bytes e => hg ⟨port, bytes, e⟩) h ds d
      exact settled b idle (.inl now.symm)

end Sys2Proof.Machine
end

section
/-! PROOFS. Steps, the passing of time, and the state after reset (R147, R167). -/

namespace Sys2Proof.Machine

/-- Settles O1: the queue's front is its head. -/
theorem frontCommandRuns : Obligations.FrontCommandRuns := by
  unfold Obligations.FrontCommandRuns
  exact fun _ _ => step_cons rfl

/-- The reports a tick makes eligible are those whose not-before time falls in it (R147). -/
theorem mem_dueReports {s : State} {since n : Nat} : Instr.notBeforeTimeReached n ∈ s.dueReports since ↔
    ∃ x ∈ s.rpu.qAlarm ++ s.rpu.qEvent, x.number = n ∧ ∃ d, x.notBefore = some d ∧ since < d ∧ d ≤ s.now := by
  unfold State.dueReports
  rw [List.mem_filterMap]
  refine exists_congr fun x => and_congr_right fun _ => ?_
  cases hd : x.notBefore with
  | none => simp
  | some d =>
    dsimp only
    split
    · next h => simp_all
    · next h => simp_all

/-- Settles O2: what an empty queue does, by the supply and the due timers. -/
theorem emptyQueueLetsTimePass : Obligations.EmptyQueueLetsTimePass := by
  unfold Obligations.EmptyQueueLetsTimePass
  intro s hp
  rw [step_nil hp]
  refine ⟨fun off => by simp [State.idle, off], fun c rest on due => by simp [State.idle, on, due], fun on none => ?_⟩
  refine ⟨s.tick, by simp [State.idle, on, none], ?_, rfl, fun n => ?_⟩
  · rw [← hp]; rfl
  · have tick : s.now + Config.tick = s.now + 1000 := rfl
    have now : (s.reach (s.now + Config.tick)).now = s.now + 1000 := by
      simp [State.now, Clock.reach, Config.tick]
    refine (mem_dueReports (s := s.reach (s.now + Config.tick))).trans ?_
    rw [now]
    rfl

/-- Settles O3: the milliseconds of the running time, carried into the seconds. -/
theorem timeOfDayFollowsRunningTime : Obligations.TimeOfDayFollowsRunningTime := by
  unfold Obligations.TimeOfDayFollowsRunningTime
  intro c t hm
  have seconds := c.seconds.isLt
  simp only [Clock.reach, Clock.stamp, Stamp.later, ms, BitVec.toNat_add, BitVec.toNat_ofNat]
  generalize max t c.running / 1000 - c.running / 1000 = d
  refine ⟨trivial, Nat.mod_lt _ (by omega), trivial, ?_⟩
  omega

/-! ### The state after reset -/

theorem State.reset_records : State.reset.recordsInv := by
  unfold State.recordsInv
  decide +kernel

theorem State.reset_sequence : State.reset.sequenceInv := ⟨Nat.zero_le _, Nat.zero_le _, fun _ => ⟨rfl, rfl⟩⟩

theorem State.reset_link : State.reset.linkInv := by
  unfold State.linkInv
  decide +kernel

/-- The fail-safe entry alone, and nothing selected or running (R91). -/
theorem State.reset_authority : State.reset.authorityInv := by
  refine ⟨by decide, by decide, by decide, by decide, fun _ => rfl, fun _ => rfl⟩

theorem State.reset_load : State.reset.loadInv := by
  unfold State.loadInv
  decide +kernel

theorem State.reset_mechanism : State.reset.mechanismInv := by
  unfold State.mechanismInv
  exact ⟨rfl, rfl, by simp [State.reset], fun _ => ⟨rfl, rfl⟩⟩

/-- The reports of the start stand in the pool alone (R134, R158). -/
theorem State.reset_pool : State.reset.poolInv := by
  unfold State.poolInv
  decide +kernel

/-- Settles O55: invariant by invariant, on the state after reset. -/
theorem resetMeetsTheInvariants : Obligations.ResetMeetsTheInvariants := by
  unfold Obligations.ResetMeetsTheInvariants
  exact ⟨State.reset_records, State.reset_sequence, State.reset_link, State.reset_authority, State.reset_load, State.reset_mechanism,
    State.reset_pool⟩

end Sys2Proof.Machine
end

section
/-! PROOFS. Requests at the ports: what turns them away, group requests, reads, and the alert sets (R155, R156, R162, R173, R177 to R181). -/

namespace Sys2Proof.Machine

/-! ### Requests and their owners -/

/-- A request's effect is that of its owner, from whatever source it comes. -/
theorem exec_sentFrom {c : Instr} {kind : RequestKind} {src : Source} {ref : Byte} (hc : c.request = some (kind, src, ref)) :
    ∃ owner : Port → State → Taken, ∀ (src' : Source) (s : State), exec (c.sentFrom src') s = act (respond kind src' ref owner) s := by
  cases c <;> first | (cases hc; done) | (cases hc; exact ⟨_, fun _ _ => rfl⟩)

theorem sentFrom_own {c : Instr} {kind : RequestKind} {src : Source} {ref : Byte} (hc : c.request = some (kind, src, ref)) :
    c.sentFrom src = c := by
  cases c <;> first | (cases hc; done) | (cases hc; rfl)

section
variable {c : Instr} {s u : State} {kind : RequestKind} {src : Source} {ref : Byte} {port : Port} {owner : Port → State → Taken}
  {code : Code} {body : List Byte}

/-- A taken request completes as its owner's reply says. -/
theorem State.completes_of_owner (hc : c.request = some (kind, src, ref)) (he : exec c s = act (respond kind src ref owner) s)
    (ht : s.taken c port) {v : State} (ho : owner port s = ⟨v, some (code, body)⟩) (hu : v.answersAs s = u)
    (ha : ∀ q, v.answersAt q = s.answersAt q) : s.completes c port code body u := by
  refine State.completes_of hc he (State.taken_elim hc ht) (code := code) (body := body) ?_ ?_ ?_ <;> rw [ho]
  · exact hu
  · exact ha

/-- A taken request is refused with its owner's reply. -/
theorem State.refuses_of_owner (hc : c.request = some (kind, src, ref)) (he : exec c s = act (respond kind src ref owner) s)
    (ht : s.taken c port) (ho : owner port s = ⟨s, some (code, body)⟩) : s.refuses c port code body :=
  State.completes_of_owner hc he ht ho rfl fun _ => rfl

/-- A request that arrives on a port is answered as it is judged there. -/
theorem State.refuses_of_judged (hc : c.request = some (kind, src, ref)) (he : exec c s = act (respond kind src ref owner) s)
    (hp : s.powered = true) (ha : s.arrival src = .from port) (hj : s.judgeRequest kind port owner = ⟨s, some (code, body)⟩) :
    s.refuses c port code body := by
  have answer : respond kind src ref owner s = s.answer port ⟨kind.code, ref, code, body⟩ := by simp [respond, ha, hj]
  refine ⟨kind, src, ref, _, hc, by rw [he, act_powered hp], ?_, ?_, ?_⟩
  · rw [answer]; simp
  · rw [answer]; simp [State.answer_answersAt]
  · intro q hq
    rw [answer]; simp [State.answer_answersAt, hq]

end

/-- Settles O4: the supply, the arrival, the hold and the permission come before the owner. -/
theorem requestsTurnedAway : Obligations.RequestsTurnedAway := by
  unfold Obligations.RequestsTurnedAway
  intro c kind src ref s hc
  obtain ⟨owner, he⟩ := exec_sentFrom hc
  have he : exec c s = act (respond kind src ref owner) s := by
    rw [← he src s, sentFrom_own hc]
  refine ⟨fun off => he.trans (act_unpowered off), fun on lost => ?_, fun port on ha held passes => ?_, fun port on ha held permitted => ?_⟩
  · refine State.leads_of on he ?_
    rw [respond_lost lost]
    cases src <;> rfl
  · refine State.refuses_of_judged hc he on ha ?_
    simp [State.judgeRequest, held, passes, Taken.code]
  · refine State.refuses_of_judged hc he on ha ?_
    have passed : ((s.ports.hold port).isSome && !kind.passesHold) = false := by
      cases hh : (s.ports.hold port).isSome
      · rfl
      · simp [held hh]
    simp [State.judgeRequest, passed, permitted, Taken.code]

/-! ### Group requests (R156) -/

theorem Rpu.unpooled_answers {r r' : Rpu} (h : r.unpooled = r'.unpooled) : r.answers = r'.answers :=
  show r.unpooled.answers = r'.unpooled.answers from congrArg Rpu.answers h

/-- What a request does on the L-port leaves the answers waiting there. -/
theorem judgeRequest_answers {c : Instr} {kind : RequestKind} {src : Source} {ref : Byte} (hc : c.request = some (kind, src, ref))
    (hd : kind.discardedInGroup = false) : ∃ owner : Port → State → Taken,
    (∀ (src' : Source) (s : State), exec (c.sentFrom src') s = act (respond kind src' ref owner) s)
      ∧ ∀ s : State, (s.judgeRequest kind .l owner).state.rpu.answers = s.rpu.answers := by
  have judged {kind : RequestKind} {owner : Port → State → Taken} (ho : ∀ s, kind.permitted .l = true → (owner .l s).state.rpu.answers = s.rpu.answers)
      (s : State) : (s.judgeRequest kind .l owner).state.rpu.answers = s.rpu.answers := by
    unfold State.judgeRequest
    split
    · rfl
    · split
      · rfl
      · next hp => exact ho s (by simpa using hp)
  cases c <;> first
    | (cases hc; done)
    | (cases hc; cases hd; done)
    | (cases hc; refine ⟨_, fun _ _ => rfl, judged fun s permitted => ?_⟩; first | (cases permitted; done) | skip)
  case trip => exact Rpu.unpooled_answers (by simp [Taken.code])
  case tagPlace =>
    repeat' split
    all_goals first | rfl | exact Rpu.unpooled_answers (by simp [Taken.done, State.placeTag])
  case tagRemove =>
    repeat' split
    all_goals first | rfl | exact Rpu.unpooled_answers (by simp [Taken.code, State.removeTag])
  case settingsWrite =>
    repeat' split
    all_goals first | rfl | exact Rpu.unpooled_answers (by simp [Taken.done])
  case batteryTest =>
    repeat' split
    all_goals first
      | rfl
      | exact Rpu.unpooled_answers (by simp [Taken.code, State.beginHold])
      | unfold Taken.precondition; split <;> rfl
  case abortTest =>
    split
    · exact Rpu.unpooled_answers (by simp [Taken.code])
    · rfl
  case readCounters =>
    split
    · rfl
    · rfl
  all_goals
    repeat' split
    all_goals rfl

/-- Settles O5: a group request and an exact one have one owner; the exact one's answer alone is added. -/
theorem groupRequestsActUnanswered : Obligations.GroupRequestsActUnanswered := by
  unfold Obligations.GroupRequestsActUnanswered
  intro c kind src ref s hc on ha
  refine ⟨fun discarded => ?_, fun select operate => ?_⟩
  · obtain ⟨owner, he⟩ := exec_sentFrom hc
    refine State.leads_of on (f := respond kind src ref owner) (by rw [← he src s, sentFrom_own hc]) ?_
    have dropped : kind.discardedInGroup = true := by rcases discarded with rfl | rfl <;> rfl
    simp [respond, ha, dropped]
  · have kept : kind.discardedInGroup = false := by cases kind <;> first | rfl | exact absurd rfl select | exact absurd rfl operate
    obtain ⟨owner, he, answers⟩ := judgeRequest_answers hc kept
    have hears : s.rpu.hears = true := by
      cases src <;> simp only [State.arrival] at ha <;> split at ha <;> first | cases ha | simp_all
    have exact : s.arrival (.l s.rpu.settings.address) = .from .l := by
      simp [State.arrival, hears, LinkSettings.judge]
    refine ⟨(s.judgeRequest kind .l owner).state.rejudge, _, ?_, by rw [he, act_powered on], ?_⟩
    · rw [← sentFrom_own hc, he, act_powered on]
      simp [respond, ha, kept]
    · rw [State.rejudge_supplyAs, State.rejudge_supplyAs]
      have same := answers s
      unfold respond
      rw [exact]
      dsimp only
      generalize (s.judgeRequest kind .l owner).state = t at same
      split <;> simp [State.supplyAs, State.answer, ← same]

/-! ### Reads (R44, R132, R162, R166, R180) -/

/-- Settles O6: four requests whose owners only read. -/
theorem readsAnswerAndChangeNothing : Obligations.ReadsAnswerAndChangeNothing := by
  unfold Obligations.ReadsAnswerAndChangeNothing
  refine ⟨fun port => by cases port <;> exact ⟨rfl, rfl, rfl, rfl⟩, fun src ref port s => ?_⟩
  intro b entry a entries running history
  refine ⟨fun ht => State.completes_of_read rfl rfl rfl ht, fun ht => State.completes_of_read rfl rfl ?_ ht,
    fun ht => State.completes_of_read rfl rfl ?_ ht, fun ht => State.completes_of_read rfl rfl rfl ht⟩
  · simp [Taken.done, BatteryRecord.attributesEnc, BatteryRecord.attributeEnc, HealthAttribute.enc, entries, entry, a, b, rawWidth, be]
  · cases ht : s.bcu.test <;> simp [Taken.done, State.historyBody, history, running, b, ht, encOpt, encList, testStateCode, be]

/-- Settles O8: the copy in force, and the staged one where there is one. -/
theorem settingsReadGivesTheCopyNamed : Obligations.SettingsReadGivesTheCopyNamed := by
  unfold Obligations.SettingsReadGivesTheCopyNamed
  refine ⟨fun port => by cases port <;> rfl, fun src ref port s => ⟨fun ht => ?_, fun r ht staged => ?_, fun ht staged => ?_⟩⟩
  · exact State.completes_of_read rfl rfl rfl ht
  · exact State.completes_of_owner rfl rfl ht (by simp [staged, Taken.done]) rfl fun _ => rfl
  · exact State.refuses_of_owner rfl rfl ht (by simp [staged, Taken.code])

/-- The entry of a number that the ring holds once is the one found under it. -/
theorem find_number {ring : List OpRecord} {r : OpRecord} (hr : r ∈ ring) (once : (ring.map OpRecord.number).Nodup) :
    ring.find? (fun x => x.number == r.number) = some r := by
  induction ring with
  | nil => cases hr
  | cons x rest ih =>
    rw [List.map_cons, List.nodup_cons] at once
    rcases List.mem_cons.mp hr with rfl | hr
    · simp
    · have other : x.number ≠ r.number := fun e => once.1 (e ▸ List.mem_map_of_mem hr)
      simpa [other] using ih hr once.2

/-- Settles O9: the record found under the number, or none. -/
theorem readRecordFindsTheNumber : Obligations.ReadRecordFindsTheNumber := by
  unfold Obligations.ReadRecordFindsTheNumber
  refine ⟨fun port => by cases port <;> rfl, fun src ref n port s => ⟨fun r hr once hn ht => ?_, fun none ht => ?_, fun on ha => ?_⟩⟩
  · subst hn
    exact State.completes_of_owner rfl rfl ht (by simp only [find_number hr once]; rfl) rfl fun _ => rfl
  · have gone : s.oru.ring.find? (fun r => r.number == n) = Option.none := by
      rw [List.find?_eq_none]
      exact fun r hr => by simpa using none r hr
    exact State.completes_of_owner rfl rfl ht (by simp only [gone]; rfl) rfl fun _ => rfl
  · refine State.leads_of on rfl ?_
    have judged : (s.judgeRequest .readRecord .l fun _ s =>
        match s.oru.ring.find? fun r => r.number == n with
        | some r => .done (r.enc ++ s.oru.bounds) s
        | none => ⟨s, some (.gone, s.oru.bounds)⟩).state = s := by
      unfold State.judgeRequest
      split
      · rfl
      · split
        · rfl
        · dsimp only
          split <;> rfl
    unfold respond
    rw [ha]
    exact congrArg (State.supplyAs · s) judged

/-! ### Alert sets (R177 to R179) -/

/-- Every bit of a set is some flag's (Table 9-3). -/
theorem exists_flag : ∀ i < 16, ∃ f ∈ [Flag.trip, .close, .lockout, .tagChanged, .modeChanged, .mechFault, .energyLow, .batteryTier,
    .batteryVerdict, .testDone, .freqState, .acSupply, .linkStanding, .storeFault, .settingsActive, .resetSeen], f.index = i := by
  decide

theorem Flag.bit_getLsbD (f : Flag) : f.bit.getLsbD f.index = true := by
  cases f <;> decide

/-- The output is active exactly when some flag is sticky and enabled. -/
theorem AlertSet.attn_iff (a : AlertSet) : a.attn = true ↔ ∃ f, a.sticky &&& a.mask &&& Flag.bit f ≠ 0 := by
  unfold AlertSet.attn
  rw [bne_iff_ne]
  generalize a.sticky &&& a.mask = x
  constructor
  · intro nonzero
    obtain ⟨i, hi, on⟩ : ∃ i, i < 16 ∧ x.getLsbD i = true := by
      by_contra none
      push Not at none
      exact nonzero (BitVec.eq_of_getLsbD_eq fun i hi => by simpa using none i hi)
    obtain ⟨f, -, rfl⟩ := exists_flag i hi
    refine ⟨f, fun zero => ?_⟩
    have bit : (x &&& f.bit).getLsbD f.index = true := by rw [BitVec.getLsbD_and, on, f.bit_getLsbD]; rfl
    rw [zero] at bit
    simp at bit
  · rintro ⟨f, on⟩ rfl
    exact on BitVec.zero_and

/-- Settles O10: the requesting port's own set alone, and the two outputs. -/
theorem clearAlertsActsOnItsOwnSet : Obligations.ClearAlertsActsOnItsOwnSet := by
  unfold Obligations.ClearAlertsActsOnItsOwnSet
  refine ⟨rfl, rfl, rfl, fun src ref flags mask s => ?_⟩
  refine ⟨fun ht => ?_, fun ht => ?_, s.ports.cAlerts.attn_iff, s.ports.pAlerts.attn_iff, fun f => rfl⟩
  · exact State.completes_of_owner rfl rfl ht rfl rfl fun q => by cases q <;> rfl
  · exact State.completes_of_owner rfl rfl ht rfl rfl fun q => by cases q <;> rfl

end Sys2Proof.Machine
end

section
/-! PROOFS. Closes: the permit's refusals, the selection, the panel close delay, and the close that fires (R67 to R69, R99 to R108). -/

namespace Sys2Proof.Machine

/-! ### Answers waiting at the ports -/

section
variable {s t : State}

/-- Announcements leave the answers that wait. -/
theorem State.answersAt_of (hr : t.rpu.unpooled = s.rpu.unpooled) (hp : t.ports.unflagged = s.ports.unflagged) (q : Port) :
    t.answersAt q = s.answersAt q := by
  cases q with
  | c => exact show t.ports.unflagged.cAnswers = s.ports.unflagged.cAnswers from congrArg _ hp
  | p => exact show t.ports.unflagged.pAnswers = s.ports.unflagged.pAnswers from congrArg _ hp
  | l => exact Rpu.unpooled_answers hr

theorem Ports.unflagged_hold {p p' : Ports} (h : p.unflagged = p'.unflagged) (q : Port) : p.hold q = p'.hold q := by
  cases q with
  | c => exact show p.unflagged.cHold = p'.unflagged.cHold from congrArg _ h
  | p => exact show p.unflagged.pHold = p'.unflagged.pHold from congrArg _ h
  | l => rfl

/-- A withheld answer joins the list of the port whose hold ends (R126). -/
theorem State.releaseHold_answersAt (port : Option Port) (body : List Byte) {q : Port} (h : s.ports.hold q = none) :
    (s.releaseHold port body).answersAt q = s.answersAt q := by
  unfold State.releaseHold
  split
  · split
    · next ref hc =>
      rw [State.answer_answersAt]
      cases q with
      | c => exact absurd hc (by rw [show s.ports.cHold = none from h]; simp)
      | p => rfl
      | l => rfl
    · rfl
  · split
    · next ref hc =>
      rw [State.answer_answersAt]
      cases q with
      | p => exact absurd hc (by rw [show s.ports.pHold = none from h]; simp)
      | c => rfl
      | l => rfl
    · rfl
  · rfl

theorem State.abortTest_answersAt (cause : TestCause) {q : Port} (h : s.ports.hold q = none) : (s.abortTest cause).answersAt q = s.answersAt q := by
  unfold State.abortTest
  split
  · next r hr =>
    unfold State.announce
    dsimp only
    refine (State.releaseHold_answersAt _ _ ?_).trans (State.answersAt_of ?_ ?_ q)
    · rw [← h]; exact Ports.unflagged_hold (by simp) q
    · simp
    · simp
  · rfl

theorem State.suspendTest_answersAt {q : Port} (h : s.ports.hold q = none) : s.suspendTest.answersAt q = s.answersAt q := by
  unfold State.suspendTest
  split
  · split
    · rfl
    · dsimp only
      split
      · exact State.abortTest_answersAt _ h
      · rfl
  · rfl

theorem State.operationStarted_answersAt {q : Port} (h : s.ports.hold q = none) : s.operationStarted.answersAt q = s.answersAt q :=
  State.suspendTest_answersAt (s := s.withBcu fun b => { b with opInFlight := true }) h

theorem State.beginClose_answersAt (o : Origin) {q : Port} (h : s.ports.hold q = none) : (s.beginClose o).answersAt q = s.answersAt q := by
  refine (State.operationStarted_answersAt ?_).trans (State.answersAt_of ?_ ?_ q)
  · rw [← h]; exact Ports.unflagged_hold (by simp) q
  · simp
  · simp

/-! ### What an operation's start does to the BCU (R124) -/

theorem State.suspendTest_free (h : s.bcu.testHolds = false) : s.suspendTest = s := by
  unfold State.suspendTest
  split
  · rw [if_pos (by simp [h])]
  · rfl

theorem State.suspendTest_held (h : s.bcu.testHolds = true) : s.suspendTest.bcu.loadOn = false := by
  unfold State.suspendTest
  split
  · rw [if_neg (by simp [h])]
    dsimp only
    split
    · exact congrArg Circuit.loadOn (State.abortTest_circuit .interrupted (by rfl))
    · rfl
  · next ht => simp [Bcu.testHolds, ht] at h

theorem State.suspendTest_notes (s : State) : s.suspendTest.bcu.opInFlight = s.bcu.opInFlight := by
  unfold State.suspendTest
  split
  · split
    · rfl
    · dsimp only
      split
      · exact congrArg Circuit.opInFlight (State.abortTest_circuit .interrupted (by rfl))
      · rfl
  · rfl

/-- The notice of an operation's start: it is in flight, and a test in REST or LOAD leaves the load off. -/
theorem State.operationStarted_bcu (s : State) : s.operationStarted.bcu.opInFlight = true
    ∧ (s.bcu.testHolds = true → s.operationStarted.bcu.loadOn = false)
    ∧ (s.bcu.testHolds = false → s.operationStarted.bcu = { s.bcu with opInFlight := true }) := by
  refine ⟨State.suspendTest_notes _, fun h => State.suspendTest_held (s := s.withBcu fun b => { b with opInFlight := true }) h, fun h => ?_⟩
  unfold State.operationStarted
  rw [State.suspendTest_free (by exact h)]
  rfl

/-! ### Closes that fire (R68, R69) -/

theorem State.operationStarted_rest (s : State) : s.operationStarted.oru = s.oru ∧ s.operationStarted.sqc = s.sqc
    ∧ s.operationStarted.oeb = s.oeb ∧ s.operationStarted.lmu = s.lmu := by simp

theorem State.closeStarted_sqc (o : Origin) (hr : s.sqc.reported = true) (ho : o.isCommand = true) : (s.closeStarted o).sqc =
    (match s.sqc.sequence with
      | .opened | .lockout _ | .interval _ | .energyWait _ => { s.sqc with sequence := .closing .command }
      | _ => s.sqc) := by
  unfold State.closeStarted
  rw [if_neg (by simp [hr, ho])]
  cases s.sqc.sequence <;> rfl

theorem State.beginClose_fired (o : Origin) (hp : s.powered = true) : State.closeFired o s (s.beginClose o) := by
  unfold State.closeFired
  obtain ⟨flight, held, free⟩ := State.operationStarted_bcu ((s.reserve.1.withMdr fun m =>
    { (m.debit m.settings.eClose).stopWatches with
      op := some ⟨.close, [o], .pulse, false, s.reserve.1.now, m.estimate, false, none, s.reserve.1.lmu.currents, s.reserve.2⟩
      closeDrive := true }).closeStarted o)
  simp only [State.closeStarted_frame, State.withMdr, State.reserve_frame] at held free
  refine ⟨State.beginClose_mdr o s, ?_, by simp, by simp, by simp, by simp [hp], by simp, flight, held, free, fun hr ho => ?_⟩
  · simp [State.beginClose, State.withMdr, State.reserve, State.takeNumber]
  · unfold State.beginClose
    dsimp only
    rw [(State.operationStarted_rest _).2.1, State.closeStarted_sqc o (by exact hr) ho]
    cases hq : s.sqc.sequence <;> simp [State.withMdr, hq]

/-- Table 4-4 and Table 5-4 in the order of R100. -/
theorem State.closeRefusal_eq {o : Origin} (ho : o = .c ∨ o = .p ∨ o = .l) :
    s.closeRefusal o = (s.closeFailed o).head?.map Failed.resultCode := by
  have head (c : Failed) (b : Bool) (l : List Failed) : (failedWhen c b ++ l).head?.map Failed.resultCode
      = if b then some c.resultCode else l.head?.map Failed.resultCode := by cases b <;> rfl
  have last (c : Failed) (b : Bool) : (failedWhen c b).head?.map Failed.resultCode = if b then some c.resultCode else none := by cases b <;> rfl
  have mode : (if o = .p then s.au.mode == .remoteMode else s.au.mode == .localMode) = o.modeFails s.au.mode := by
    rcases ho with rfl | rfl | rfl <;> cases s.au.mode <;> rfl
  have block : (o == .reclose && s.au.block) = false := by rcases ho with rfl | rfl | rfl <;> rfl
  unfold State.closeRefusal State.closeFailed Au.failed Mdr.failed
  rw [mode]
  simp only [List.append_assoc, head, last, block, firstOf, Failed.resultCode, MechanismSettings.closeEnergy]
  by_cases low : s.mdr.estimate < s.mdr.settings.eClose + s.mdr.settings.eTrip <;> simp [low]

theorem State.closeFired.carry {o : Origin} {u : State} (h : State.closeFired o s t) (hm : u.mdr = t.mdr ∧ u.oru = t.oru ∧ u.oeb = t.oeb ∧ u.lmu = t.lmu
      ∧ u.clock = t.clock ∧ u.powered = t.powered ∧ u.pending = t.pending ∧ u.bcu = t.bcu ∧ u.sqc = t.sqc) : State.closeFired o s u := by
  obtain ⟨mdr, oru, oeb, lmu, clock, powered, pending, bcu, sqc⟩ := hm
  unfold State.closeFired at *
  rw [mdr, oru, oeb, lmu, clock, powered, pending, bcu, sqc]
  exact h

/-- A close asked for with a condition of the permit failing changes nothing (R68). -/
theorem State.requestClose_refused {o : Origin} {code : Code} (ho : o = .c ∨ o = .p ∨ o = .l) (h : s.closeRefusal o = some code) :
    s.requestClose o = (s, s.closeFailed o) ∧ refusalCode (s.closeFailed o) = code ∧ (s.closeFailed o).isEmpty = false := by
  rw [State.closeRefusal_eq ho] at h
  rcases s.requestClose_cases o with ⟨nil, -⟩ | ⟨fails, e⟩
  · rw [nil] at h; cases h
  · exact ⟨e, by rw [refusalCode, h]; rfl, by simpa using fails⟩

/-- A close asked for with the whole permit fires (R68). -/
theorem State.requestClose_fires {o : Origin} (ho : o = .c ∨ o = .p ∨ o = .l) (h : s.closeRefusal o = none) :
    s.requestClose o = (s.beginClose o, []) := by
  rw [State.closeRefusal_eq ho] at h
  rcases s.requestClose_cases o with ⟨-, e⟩ | ⟨fails, -⟩
  · exact e
  · exact absurd (by simpa using h) fails

theorem portOrigin_port (port : Port) : portOrigin port = .c ∨ portOrigin port = .p ∨ portOrigin port = .l := by
  cases port <;> simp [portOrigin]

theorem pushAnswer_getLast (a : Answer) (l : List Answer) : (pushAnswer a l).getLast? = some a := by
  simp only [pushAnswer, pushRing]
  rw [List.getLast?_drop, if_neg (by simp)]
  simp

end

/-! ### The selection (R101 to R105) -/

/-- The checks of R102 in their order. -/
theorem State.selectRefusal_eq (port : Port) (s : State) : s.selectRefusal port = firstOf
    [(s.au.mode == .localMode, Code.mode), (!s.au.tags.isEmpty, .tag), (s.au.handlePulled, .handleLock), (s.mdr.latch, .mechFault),
     (match s.sqc.sequence with | .opened | .lockout _ => false | _ => true, .busy),
     (s.au.selection.any fun x => x.owner != port, .selectedElsewhere)] := by
  unfold State.selectRefusal
  cases s.sqc.sequence <;> simp [firstOf]

/-- Settles O13: the checks of R102, and the selection. -/
theorem selectCloseMakesASelection : Obligations.SelectCloseMakesASelection := by
  unfold Obligations.SelectCloseMakesASelection
  intro src ref port s ht
  dsimp only
  refine ⟨fun code refused => ?_, fun passed => ?_⟩
  · have refused := (s.selectRefusal_eq port).trans refused
    exact State.refuses_of_owner rfl rfl ht (by simp only [refused]; rfl)
  · have passed := (s.selectRefusal_eq port).trans passed
    exact State.completes_of_owner rfl rfl ht (by simp only [passed]; rfl) rfl fun q => by cases q <;> rfl

/-- Settles O14: without its own selection a port is turned away; with it the close of the port's origin is asked for. -/
theorem operateCloseSpendsTheSelection : Obligations.OperateCloseSpendsTheSelection := by
  unfold Obligations.OperateCloseSpendsTheSelection
  intro src ref selectRef port s ht
  dsimp only
  have selected : s.au.selectedBy port selectRef = true ↔ ∃ x, s.au.selection = some x ∧ x.owner = port ∧ x.ref = selectRef := by
    unfold Au.selectedBy
    cases s.au.selection <;> simp
  have origin := portOrigin_port port
  refine ⟨fun invalid => ?_, fun code valid refused => ?_, fun valid passes => ?_⟩
  · have none : s.au.selectedBy port selectRef = false := by rw [← selected] at invalid; simpa using invalid
    exact State.refuses_of_owner rfl rfl ht (by simp only [none]; rfl)
  · have own := selected.mpr valid
    obtain ⟨asked, answer, -⟩ := State.requestClose_refused (s := s.clearSelection) origin refused
    exact State.completes_of_owner rfl rfl ht (by simp only [own, asked, answer, if_true]; rfl) rfl fun q => by cases q <;> rfl
  · have own := selected.mpr valid
    have asked := State.requestClose_fires (s := s.clearSelection) origin passes
    have takes := State.taken_elim rfl ht
    refine ⟨_, act_powered takes.1, ?_, ?_, ?_⟩
    all_goals
      rw [respond_takes takes]
      simp only [own, asked, if_true, Taken.code]
    · unfold State.newestAnswer
      rw [State.rejudge_answersAt, State.answer_answersAt, if_pos rfl, pushAnswer_getLast]
      rfl
    · have fired := State.beginClose_fired (s := s.clearSelection) (portOrigin port) takes.1
      exact State.closeFired.carry (s := s) fired (by simp)
    · simp

/-! ### The panel close delay (R106 to R108) -/

/-- The checks of R106 in their order. -/
theorem Au.closeRefusal_eq (a : Au) : a.closeRefusal = firstOf
    [(a.mode == .remoteMode, Code.mode), (!a.tags.isEmpty, .tag), (a.handlePulled, .handleLock),
     (match a.panel with | .running _ => true | _ => false, .busy)] := by
  unfold Au.closeRefusal
  cases a.panel <;> simp [firstOf]

section
variable {s t : State}

/-- A panel close refused at the end of its delay. -/
theorem State.placePanelClose_refused {code : Code} (h : s.closeRefusal .p = some code) :
    s.placePanelClose = { s with au := { s.au with panel := .refused code } } := by
  obtain ⟨asked, answer, fails⟩ := State.requestClose_refused (.inr (.inl rfl)) h
  unfold State.placePanelClose
  simp only [asked, fails, answer]
  rfl

/-- A panel close that fires at the end of its delay. -/
theorem State.placePanelClose_fires (hp : s.powered = true) (h : s.closeRefusal .p = none) :
    State.closeFired .p s s.placePanelClose ∧ s.placePanelClose.au = { s.au with panel := .fired }
      ∧ ∀ q, s.placePanelClose.answersAt q = (s.beginClose .p).answersAt q := by
  have asked := State.requestClose_fires (.inr (.inl rfl)) h
  unfold State.placePanelClose
  simp only [asked]
  refine ⟨(State.beginClose_fired .p hp).carry (by simp), by simp, fun q => by cases q <;> rfl⟩

end

/-- A CLOSE with a delay of 0, answered before its close is placed (R106). -/
def State.panelClosing (ref : Byte) (s : State) : State :=
  State.answer .p ⟨RequestKind.close.code, ref, .accepted, []⟩ (s.withAu fun a => { a with panel := .running (s.now + 0 * second) })

/-- Settles O15: the checks of R106, the delay, and the close placed at its end. -/
theorem panelCloseRunsItsDelay : Obligations.PanelCloseRunsItsDelay := by
  unfold Obligations.PanelCloseRunsItsDelay
  intro src ref s
  dsimp only
  refine ⟨fun code ht refused => ?_, fun ht passed delay => ?_, fun ht passed zero => ⟨fun code refused => ?_, fun passes => ?_⟩,
    fun d on running => ⟨fun code refused => ?_, fun passes => ?_⟩⟩
  · have refused := s.au.closeRefusal_eq.trans refused
    exact State.refuses_of_owner rfl rfl ht (by simp only [refused]; rfl)
  · have passed := s.au.closeRefusal_eq.trans passed
    exact State.completes_of_owner rfl rfl ht (by simp only [passed, delay, if_false]; rfl) rfl fun q => by cases q <;> rfl
  · have passed := s.au.closeRefusal_eq.trans passed
    have takes := State.taken_elim rfl ht
    have placed := State.placePanelClose_refused (s := s.panelClosing ref) refused
    refine ⟨_, _, _, _, rfl, act_powered takes.1, ?_, ?_⟩
    all_goals
      rw [respond_takes takes]
      simp only [passed, zero, if_true]
    · rw [State.rejudge_answersAs]
      exact (congrArg (State.answersAs · s) placed).trans rfl
    · change s.answered .p .close ref .accepted [] (s.panelClosing ref).placePanelClose.rejudge
      rw [placed]
      refine ⟨rfl, fun q hq => ?_⟩
      rw [State.rejudge_answersAt]
      cases q <;> first | exact absurd rfl hq | rfl
  · have passed := s.au.closeRefusal_eq.trans passed
    have takes := State.taken_elim rfl ht
    have hold : s.ports.pHold = none := by
      by_contra some
      have held := takes.2.2.1 (Option.isSome_iff_ne_none.mpr some)
      cases held
    obtain ⟨fired, au, answers⟩ := State.placePanelClose_fires (s := s.panelClosing ref) takes.1 passes
    refine ⟨_, act_powered takes.1, ?_, ?_, ?_⟩
    all_goals
      rw [respond_takes takes]
      simp only [passed, zero, if_true]
    · rw [State.rejudge_answersAt]
      exact (answers .p).trans (State.beginClose_answersAt .p (q := .p) hold)
    · exact State.closeFired.carry (s := s) fired (by simp [State.panelClosing])
    · exact au
  · refine State.leads_of on (f := fun s => match s.au.panel with
      | .running t => (s.reach t).placePanelClose
      | _ => s) rfl ?_
    simp only [running]
    rw [State.placePanelClose_refused (s := s.reach d) refused]
    rfl
  · refine ⟨_, act_powered (f := fun s => match s.au.panel with
      | .running t => (s.reach t).placePanelClose
      | _ => s) on, ?_, ?_⟩
    all_goals
      simp only [running]
      obtain ⟨fired, au, -⟩ := State.placePanelClose_fires (s := s.reach d) on passes
    · exact fired.carry (by simp)
    · exact au

/-- Settles O16: the own pending close, or none. -/
theorem cancelAndExpiryEndPendingCloses : Obligations.CancelAndExpiryEndPendingCloses := by
  unfold Obligations.CancelAndExpiryEndPendingCloses
  intro src ref port s
  dsimp only
  refine ⟨fun ht away => ⟨fun none => ?_, fun x hx other => ?_, fun x hx own => ?_⟩, fun ht => ⟨fun d running => ?_, fun idle => ?_⟩,
    fun x on hx => ?_⟩
  · exact State.refuses_of_owner rfl rfl ht (by simp only [if_neg away, none]; rfl)
  · exact State.refuses_of_owner rfl rfl ht (by simp only [if_neg away, hx, if_neg other]; rfl)
  · exact State.completes_of_owner rfl rfl ht (by simp only [if_neg away, hx, if_pos own]; rfl) rfl fun q => by cases q <;> rfl
  · exact State.completes_of_owner rfl rfl ht (by simp only [if_true, running]; rfl) (by simp [State.cancelPanel, State.withAu, running, Panel.cancel]; rfl)
      fun q => by cases q <;> rfl
  · refine State.refuses_of_owner rfl rfl ht ?_
    cases hd : s.au.panel with
    | running d => exact absurd hd (idle d)
    | _ => simp only [if_true]; rfl
  · refine State.leads_of on (f := fun s => match s.au.selection with
      | some x => (s.reach x.expiry).clearSelection
      | none => s) rfl ?_
    simp only [hx]
    rfl

end Sys2Proof.Machine
end

section
/-! PROOFS. Settings, curves, mechanism and link records, the reclose block, the time and the wear limit (R36, R41 to R43, R82, R87, R98, R150, R157,
R165, R166, R168). -/

namespace Sys2Proof.Machine

/-! ### The first bad field -/

theorem firstBad_findIdx (n : Nat) (checks : List Bool) : firstBad n checks = (checks.findIdx? fun ok => !ok).map (· + n) := by
  induction checks generalizing n with
  | nil => rfl
  | cons ok rest ih =>
    cases ok with
    | true =>
      simp only [firstBad, ih, List.findIdx?_cons]
      cases List.findIdx? (fun ok => !ok) rest with
      | none => rfl
      | some k => simp [Nat.add_assoc, Nat.add_comm 1 n]
    | false => simp [firstBad, List.findIdx?_cons]

/-- The number of the first check that fails, as the requests count. -/
theorem firstBad_eq (checks : List Bool) : firstBad 1 checks = firstFailing checks := firstBad_findIdx 1 checks

section
variable {c : Instr} {s : State} {kind : RequestKind} {src : Source} {ref : Byte} {port : Port} {owner : Port → State → Taken}

/-- A request refused INVALID names the field. -/
theorem State.refuses_invalid (hc : c.request = some (kind, src, ref)) (he : exec c s = act (respond kind src ref owner) s)
    (ht : s.taken c port) {n : Nat} (ho : owner port s = .invalid n s) : s.refuses c port .invalid [BitVec.ofNat 8 n] := by
  refine State.refuses_of_owner hc he ht (ho.trans ?_)
  simp [Taken.invalid, be]

end

/-! ### RECLOSE BLOCK, TIME SET, READ COUNTERS (R98, R165, R166, R168) -/

/-- The alarms asked for as poles are newly past the wear limit (R165). -/
def State.askWear (payload : List Byte) (new : Bool) (s : State) : State := if new then s.alarm .wearLimit payload else s

theorem State.askWear_answersAt (payload : List Byte) (new : Bool) (s : State) (q : Port) : (s.askWear payload new).answersAt q = s.answersAt q := by
  unfold State.askWear
  split
  · exact State.answersAt_of (by simp) (by simp) q
  · rfl

theorem State.askWear_answersAs (payload : List Byte) (new : Bool) (t s : State) : (t.askWear payload new).answersAs s
    = (t.answersAs s).askWear payload new := by
  unfold State.askWear
  split
  · exact State.alarm_answersAs _ _ _ _
  · rfl

/-- The counters under a new limit, every pole judged anew (R166). -/
def Counters.limited (limit : Nat) (k : Counters) : Counters :=
  { k with limit := limit, marks := ⟨decide (limit ≠ 0 ∧ limit < k.wear.a), decide (limit ≠ 0 ∧ limit < k.wear.b), decide (limit ≠ 0 ∧ limit < k.wear.c)⟩ }

theorem Counters.relimit_marks (limit : Nat) (k : Counters) : { k.relimit limit with marks := (k.relimit limit).marksAfter } = k.limited limit := by
  have pole (mark : Bool) (wear : Nat) : Machine.passed limit wear (mark && (limit != 0 && limit < wear)) = decide (limit ≠ 0 ∧ limit < wear) := by
    unfold Machine.passed
    cases mark <;> by_cases h : limit = 0 <;> simp [h]
  simp [Counters.relimit, Counters.marksAfter, Counters.limited, pole]

/-- The marks of the moment, and an alarm for each pole newly marked (R165). -/
theorem State.judgeWear_eq {s : State} {k : Counters} (h : { s.oru.counters with marks := s.oru.counters.marksAfter } = k) :
    s.judgeWear = ((({ s with oru := { s.oru with counters := k } } : State).askWear k.wearPayload (k.marks.a && !s.oru.counters.marks.a)).askWear
      k.wearPayload (k.marks.b && !s.oru.counters.marks.b)).askWear k.wearPayload (k.marks.c && !s.oru.counters.marks.c) := by
  subst h
  rfl

/-- The alarms of a new limit, one for each pole newly past it, and the write (R166). -/
theorem State.setWearLimit_eq (limit : Nat) (s : State) :
    let k := s.oru.counters
    let k' := k.limited limit
    s.setWearLimit limit = State.place .counters ((((({ s with oru := { s.oru with counters := k' } } : State).askWear k'.wearPayload
      (k'.marks.a && !k.marks.a)).askWear k'.wearPayload (k'.marks.b && !k.marks.b)).askWear k'.wearPayload (k'.marks.c && !k.marks.c))) := by
  intro k k'
  have newly (wear : Nat) (mark : Bool) : (decide (limit ≠ 0 ∧ limit < wear) && !(mark && (limit != 0 && limit < wear)))
      = (decide (limit ≠ 0 ∧ limit < wear) && !mark) := by
    cases mark <;> by_cases h : limit = 0 <;> simp [h]
  unfold State.setWearLimit
  rw [State.judgeWear_eq (k := k') (Counters.relimit_marks limit k)]
  simp only [k, k', Counters.limited, Counters.relimit, newly]

/-- Settles O19: four requests, each check in its order. -/
theorem blockTimeAndLimitRequests : Obligations.BlockTimeAndLimitRequests := by
  unfold Obligations.BlockTimeAndLimitRequests
  intro src ref port s
  refine ⟨fun n ht active staged => ?_, fun value ht => ?_, fun seconds millis ht => ?_, fun limit ht => ?_⟩
  · exact State.refuses_invalid rfl rfl ht (by simp only [if_neg active, if_neg staged])
  · dsimp only
    have modes : ((port == .l && s.au.mode == .localMode) || (port == .p && s.au.mode == .remoteMode)) = true
        ↔ (port = .l ∧ s.au.mode = .localMode) ∨ (port = .p ∧ s.au.mode = .remoteMode) := by simp
    refine ⟨fun wrong => ?_, fun right one two => ?_, fun on right hv => ?_⟩
    · exact State.refuses_of_owner rfl rfl ht (by simp only [modes.mpr wrong, if_true]; rfl)
    all_goals have right := mt modes.mp right
    · have out : (!within 1 2 value) = true := by simp [within]; omega
      exact State.refuses_invalid rfl rfl ht (by simp only [if_neg right, out, if_true])
    · have inRange : (!within 1 2 value) = false := by subst hv; cases on <;> rfl
      have reads : (value == 1) = on := by subst hv; cases on <;> rfl
      refine State.completes_of_owner rfl rfl ht (v := if s.au.block = on then s
        else State.place .authority { s with au := { s.au with block := on } }) ?_ ?_ ?_
      · simp only [if_neg right, inRange, reads, Bool.false_eq_true, if_false]
        split <;> rfl
      · split <;> rfl
      · intro q
        split
        · rfl
        · cases q <;> rfl
  · dsimp only
    refine ⟨fun bad => ?_, fun good _ => ?_⟩
    · exact State.refuses_invalid rfl rfl ht (by simp only [if_pos (show 999 < millis by omega)])
    · exact State.completes_of_owner rfl rfl ht (by simp only [if_neg (show ¬ 999 < millis by omega)]; rfl) rfl fun q => by cases q <;> rfl
  · dsimp only
    refine ⟨fun other => ?_, fun own bad => ?_, fun own good => ?_⟩
    · have away : (port != .c) = true := by simpa using other
      exact State.refuses_of_owner rfl rfl ht (by simp only [away, if_true]; rfl)
    · subst own
      exact State.refuses_invalid rfl rfl ht (by simp only [if_pos bad]; rfl)
    · subst own
      have oru : (s.setWearLimit limit).oru.counters = s.oru.counters.limited limit := by
        rw [State.setWearLimit_eq]
        simp only [State.askWear, State.place_oru]
        repeat' split
        all_goals rfl
      refine State.completes_of_owner rfl rfl ht (v := s.setWearLimit limit) ?_ ?_ ?_
      · simp only [if_neg (show ¬ 4000000000 < limit by omega), oru]
        rfl
      · rw [State.setWearLimit_eq]
        simp only [State.place_answersAs, State.askWear_answersAs]
        rfl
      · exact State.answersAt_of (by simp [State.setWearLimit]) (by simp [State.setWearLimit])

/-! ### SETTINGS WRITE (R41 to R43) -/

theorem within_eq (lo hi n : Nat) : within lo hi n = decide (lo ≤ n ∧ n ≤ hi) := by
  simp [within]

theorem curveOf_eq (n : Nat) : curveOf n = if n = 1 then .f1 else if n = 2 then .d1 else if n = 3 then .d2 else if n = 4 then .d3
    else if n = 5 then .u1 else .u2 := by
  unfold curveOf
  split <;> simp_all

theorem Sqc.quiet_iff (q : Sqc) : q.quiet = true ↔ q.sequence = .opened ∨ (∃ cause, q.sequence = .lockout cause)
    ∨ (q.sequence = .ready ∧ q.picked = false) := by
  unfold Sqc.quiet
  cases q.sequence <;> simp

/-- Settles O20: the mode, the ranges of Table 3-1, and the activation test. -/
theorem settingsWriteStagesOrActivates : Obligations.SettingsWriteStagesOrActivates := by
  unfold Obligations.SettingsWriteStagesOrActivates
  intro src ref fields port s ht c f range bad curve r quiet
  have checks : firstBad 1 (settingsChecks f) = bad := by
    rw [firstBad_eq]
    simp [bad, settingsChecks, range, within_eq, beq_eq_decide]
  have record : settingsOf fields = r := by
    simp only [settingsOf, curveOf_eq, beq_eq_decide, r, curve, f]
  have quiets : s.sqc.quiet = true ↔ quiet := s.sqc.quiet_iff
  have own (right : ¬ (port = .l ∧ s.au.mode = .localMode)) : ¬ (decide (port = .l) && decide (s.au.mode = .localMode)) = true := by
    simpa using right
  refine ⟨fun hp hm => ?_, fun right => ⟨fun length => ?_, fun n length hb => ?_, fun length hb loud => ?_, fun length hb still => ?_⟩⟩
  · exact State.refuses_of_owner rfl rfl ht (by simp only [hp, hm, decide_true, Bool.and_self, if_true]; rfl)
  · have field : badField 33 settingsChecks fields = some 0 := by simp [badField, length]
    exact State.refuses_invalid rfl rfl ht (by simp only [if_neg (own right), field])
  · have field : badField 33 settingsChecks fields = some n := by
      rw [badField, if_pos length]; exact checks.trans hb
    exact State.refuses_invalid rfl rfl ht (by simp only [if_neg (own right), field])
  all_goals
    have field : badField 33 settingsChecks fields = none := by
      rw [badField, if_pos length]; exact checks.trans hb
  · have loud : s.sqc.quiet = false := by simpa using mt quiets.mp loud
    have staged : State.activationTest { s with sqc := { s.sqc with staged := some r } } = { s with sqc := { s.sqc with staged := some r } } := by
      simp only [State.activationTest]
      exact if_neg (by simpa [Sqc.quiet] using loud)
    exact State.completes_of_owner rfl rfl ht (by simp only [if_neg (own right), field, record, staged]; rfl) rfl fun q => by cases q <;> rfl
  · have activated : State.activationTest { s with sqc := { s.sqc with staged := some r } }
        = State.activate r { s with sqc := { s.sqc with staged := some r } } := by
      simp only [State.activationTest]
      exact if_pos (quiets.mpr still)
    refine State.completes_of_owner rfl rfl ht (by simp only [if_neg (own right), field, record, activated]; rfl) ?_ ?_
    · simp only [State.activate, State.event_answersAs, State.raise_answersAs, State.place_answersAs]
      rfl
    · exact fun q => State.answersAt_of (by simp [State.activate]) (by simp [State.activate]) q

/-! ### CURVE LOAD and MECHANISM SETTINGS (R36, R37, R87) -/

/-- The checks of a curve's points, point by point (R36). -/
theorem pointChecks_eq {points : List (Nat × Nat)} (length : points.length = 8) : pointChecks 100 600000 points
    = (List.range 8).flatMap fun k => [if k = 0 then decide (101 ≤ (points.getD 0 (0, 0)).1)
        else decide ((points.getD (k - 1) (0, 0)).1 < (points.getD k (0, 0)).1),
      decide (10 ≤ (points.getD k (0, 0)).2) && decide ((points.getD k (0, 0)).2 ≤ 600000)
        && (decide (k = 0) || decide ((points.getD k (0, 0)).2 ≤ (points.getD (k - 1) (0, 0)).2))] := by
  match points, length with
  | [p0, p1, p2, p3, p4, p5, p6, p7], _ =>
    refine congrArg₂ List.cons rfl (congrArg₂ List.cons ?_ rfl)
    simp [within]

/-- Settles O21: the checks in the order of the fields, and the record replaced as a whole. -/
theorem curveAndMechanismRecords : Obligations.CurveAndMechanismRecords := by
  unfold Obligations.CurveAndMechanismRecords
  intro src ref port s
  refine ⟨fun curve points ht => ?_, fun cap target eTrip eClose ht => ?_⟩
  · intro c m t point bad
    have checks (length : points.length = 8) : curveBad curve points = bad := by
      rw [curveBad, if_pos length, firstBad_eq, pointChecks_eq length]
      simp only [bad, point, m, t]
      congr 2
      rw [Bool.eq_iff_iff]
      simp only [within, Bool.and_eq_true, Bool.or_eq_true, decide_eq_true_eq, beq_iff_eq]
      omega
    refine ⟨fun length => ?_, fun n length hb => ?_, fun length hb five => ?_, fun length hb six => ?_⟩
    · exact State.refuses_invalid rfl rfl ht (by simp only [curveBad, if_neg length])
    · exact State.refuses_invalid rfl rfl ht (by simp only [(checks length).trans hb])
    · exact State.completes_of_owner rfl rfl ht (by simp only [(checks length).trans hb, if_pos five]; rfl) rfl fun q => by cases q <;> rfl
    · have other : curve ≠ 5 := by omega
      exact State.completes_of_owner rfl rfl ht (by simp only [(checks length).trans hb, if_neg other]; rfl) rfl fun q => by cases q <;> rfl
  · intro c bad
    have checks : badField 4 mechanismChecks [cap, target, eTrip, eClose] = bad := firstBad_eq _
    refine ⟨fun n hb => ?_, fun hb => ?_⟩
    · exact State.refuses_invalid rfl rfl ht (by simp only [checks.trans hb])
    · exact State.completes_of_owner rfl rfl ht (by simp only [checks.trans hb]; rfl) rfl fun q => by cases q <;> rfl

/-! ### MECHANISM FAULT RESET (R82) -/

/-- Settles O22: the key, the latch, and the watches from the moment of clearing. -/
theorem faultResetNeedsTheKey : Obligations.FaultResetNeedsTheKey := by
  unfold Obligations.FaultResetNeedsTheKey
  intro src ref port s inv ht c watching from_
  have takes := State.taken_elim rfl ht
  have panel : port = .p := by
    have permitted := takes.2.2.2
    cases port <;> first | rfl | cases permitted
  refine ⟨panel, fun released => ?_, fun held clear => ?_, fun held latched => ?_⟩
  · exact State.refuses_of_owner rfl rfl ht (by simp only [released]; rfl)
  · exact State.refuses_of_owner rfl rfl ht (by simp only [held, clear]; rfl)
  · intro u
    obtain ⟨-, -, -, watches⟩ := inv
    obtain ⟨invalid, mixed⟩ := watches (.inl latched)
    have after : (if s.sqc.reported then u.withMdr (·.watch u.now) else u)
        = { u with mdr := { u.mdr with invalidWatch := from_ s.mdr.poles.anyInvalid, mixedWatch := from_ s.mdr.poles.mixed } } := by
      have mdr : u.mdr = { s.mdr with latch := false } := rfl
      have now : u.now = s.now := rfl
      have watched (reported : s.sqc.reported = true) : u.mdr.watch u.now
          = { u.mdr with invalidWatch := from_ s.mdr.poles.anyInvalid, mixedWatch := from_ s.mdr.poles.mixed } := by
        have time : watchTime = 200000 := rfl
        rw [mdr, now]
        unfold Mdr.watch
        cases flight : s.mdr.op <;> simp [from_, watching, reported, flight, invalid, mixed, Mdr.stopWatches, time]
      have asleep (silent : s.sqc.reported = false) (b : Bool) : from_ b = none := by simp [from_, watching, silent]
      split
      · next reported => exact congrArg (fun m => ({ u with mdr := m } : State)) (watched reported)
      · next silent =>
        have stopped : u.mdr = { u.mdr with invalidWatch := none, mixedWatch := none } := by simp [mdr, invalid, mixed]
        rw [asleep (by simpa using silent), asleep (by simpa using silent)]
        exact congrArg (fun m => ({ u with mdr := m } : State)) stopped
    exact State.completes_of_owner rfl rfl ht (by simp only [held, latched]; exact congrArg (Taken.code .done) after) rfl fun q => by cases q <;> rfl

/-! ### LINK SETTINGS (R150, R157) -/

/-- Settles O24: the checks of Table 7-6, the timer, and the standing under the new level. -/
theorem linkSettingsActAtOnce : Obligations.LinkSettingsActAtOnce := by
  unfold Obligations.LinkSettingsActAtOnce
  intro src ref address mask slot ack most base warn probe interval select delay port s c ht range bad
  have checks : badField 11 linkChecks [address, mask, slot, ack, most, base, warn, probe, interval, select, delay] = bad := by
    refine (firstBad_eq _).trans ?_
    simp [bad, linkChecks, range, within_eq, beq_eq_decide]
  refine ⟨fun n hb => ?_, fun hb => ?_⟩
  · exact State.refuses_invalid rfl rfl ht (by simp only [checks.trans hb])
  · intro l timer u standing
    have linked : s.newLink l = u.restand := rfl
    refine ⟨fun same => ?_, fun change => ?_⟩
    · have stays : s.newLink l = u := linked.trans (if_pos same)
      exact State.completes_of_owner rfl rfl ht (by simp only [checks.trans hb]; exact congrArg (Taken.code .done) stays) rfl fun q => by cases q <;> rfl
    · have moves := linked.trans (if_neg change)
      exact State.completes_of_owner rfl rfl ht (by simp only [checks.trans hb]; exact congrArg (Taken.code .done) moves) rfl fun q => by cases q <;> rfl

end Sys2Proof.Machine
end

section
/-! PROOFS. The CRC, collected answers, the interface reset, store writes and the shutdown (R119, R175, R181, R183, R185, R188, R193, R196). -/

namespace Sys2Proof.Machine

/-! ### The CRC (R196) -/

theorem crcShift_eq (r : Word16) : crcShift r = if r.getLsbD 15 then (r <<< 1) ^^^ 0x1021 else r <<< 1 := by
  rw [crcShift, BitVec.msb_eq_getLsbD_last]

/-- Settles O54: the register after a byte is the eighth iterate of the shift. -/
theorem crcFollowsItsTwoSteps : Obligations.CrcFollowsItsTwoSteps := by
  refine ⟨rfl, fun bytes b => ⟨fun k => crcShift^[k] (crc bytes ^^^ (b.setWidth 16 <<< 8)), rfl, fun k => ?_, ?_⟩, by decide +kernel⟩
  · simp only [Function.iterate_succ_apply', crcShift_eq]
  · simp only [crc, List.foldl_append, List.foldl_cons, List.foldl_nil, crcByte]
    rfl

/-! ### Collected answers (R175, R193) -/

theorem shifted_short {n : Nat} {bytes : List Byte} (h : n < bytes.length) : shifted n bytes = bytes.take n := by
  simp [shifted, Nat.sub_eq_zero_of_le h.le]

theorem shifted_long {n : Nat} {bytes : List Byte} (h : bytes.length ≤ n) :
    shifted n bytes = bytes ++ List.replicate (n - bytes.length) 0xFF := by
  rw [shifted, List.take_of_length_le h]

/-- Settles O31, by the state of RESET_IN and of the port's list. -/
theorem answersAreCollectedInOrder : Obligations.AnswersAreCollectedInOrder := by
  intro n s hp
  intro sent
  have read {miso : Miso} {left : List Answer} {p : State} (h : s.readAnswer n = p)
      (hq : p = { s with ports := { s.ports with miso := miso, cAnswers := left } }) : ∃ t, sent miso left t := by
    refine ⟨_, act_powered (f := (·.readAnswer n)) hp, ?_⟩
    rw [State.rejudge_answersAs, h, hq]
    exact ⟨rfl, rfl, State.rejudge_answersAt .l _, rfl⟩
  refine ⟨fun a rest hr ha hn => read rfl ?_, fun a rest hr ha hn => read rfl ?_, fun h => read rfl ?_, ?_, fun l hl => ?_,
    fun a rest hr ha => ?_⟩
  · simp only [State.readAnswer, hr, ha, shifted_short hn, Nat.not_le.mpr hn, if_false]
  · simp only [State.readAnswer, hr, ha, shifted_long hn, hn, if_true]
  · rcases h with h | h <;> simp only [State.readAnswer, h]
    cases s.ports.resetIn <;> rfl
  · simp [Miso.line, List.take_of_length_le]
  · simp [Miso.line, List.take_of_length_le hl.le]
  · intro at_
    have taken : s.sendAnswer = { at_ with ports := { s.ports with
        pAnswers := rest, pFrame := a.frame, pFree := at_.now + frameTime a.frame.length panelBaud } } := by
      unfold State.sendAnswer
      rw [hr, ha]
      rfl
    refine ⟨_, act_powered (f := State.sendAnswer) hp, ?_⟩
    rw [State.rejudge_answersAs, taken]
    exact ⟨rfl, rfl, State.rejudge_answersAt .l _, rfl⟩

/-! ### The interface reset (R181) -/

theorem TestRun.detach_attended {r : TestRun} (h : r.mode = .attended) : r.detach = { r with mode := .background, port := none } := if_pos h

theorem TestRun.detach_other {r : TestRun} (h : r.mode ≠ .attended) : r.detach = r := if_neg h

/-- Settles O32, field by field. -/
theorem interfaceResetClearsThePorts : Obligations.InterfaceResetClearsThePorts := by
  intro s hp
  refine ⟨fun hr => ?_, State.leads_of hp (by rfl) rfl⟩
  refine ⟨_, act_powered (f := fun s => if s.ports.resetIn then s else s.interfaceReset) hp, ?_⟩
  simp only [hr, Bool.false_eq_true, if_false, State.rejudge_supplyAs]
  have bcu (test : Option TestRun) (h : s.bcu.test.map TestRun.detach = test) :
      s.interfaceReset.rejudge.bcu = { s.bcu with test := test } := by subst h; rfl
  refine ⟨rfl, by simp [State.interfaceReset], rfl, rfl, State.rejudge_answersAt .l _, rfl, rfl, rfl, rfl, rfl, rfl, rfl, rfl,
    fun r h ha => ?_, fun r h ha => bcu _ ?_, fun h => ?_, rfl, rfl, rfl, rfl, rfl, rfl, rfl, rfl, hp, rfl, rfl⟩
  · rw [bcu s.bcu.test (by rw [h, Option.map_some, TestRun.detach_other ha])]
  · rw [h, Option.map_some, TestRun.detach_attended ha]
  · rw [bcu s.bcu.test (by rw [h, Option.map_none])]

end Sys2Proof.Machine
end

section
/-! PROOFS. Store writes, losses of power and the shutdown (R119, R183, R185, R186, R188). -/

namespace Sys2Proof.Machine

/-! ### What the operations at the poles leave of the store -/

section
variable (s : State)

@[simp] theorem Nvs.placed_store (c : Content) (n : Nvs) : (n.place c).store = n.store := n.place_store c

@[simp] theorem State.reserve_store : s.reserve.1.nvs.store = s.nvs.store := Nvs.place_store _ _

@[simp] theorem State.record_store (r : OpRecord) : (s.record r).nvs.store = s.nvs.store := by
  unfold State.record
  dsimp only
  split <;> simp

@[simp] theorem State.newRecord_store (k : RecordKind) (o : Origin) (e : Option Element) (c : Option Currents) (n : Option Nat) :
    (s.newRecord k o e c n).1.nvs.store = s.nvs.store := State.record_store _ _

@[simp] theorem State.activate_store (staged : Settings) : (s.activate staged).nvs.store = s.nvs.store := Nvs.place_store _ _

@[simp] theorem State.activationTest_store : s.activationTest.nvs.store = s.nvs.store := by
  rcases s.activationTest_cases with h | ⟨staged, -, -, h⟩ <;> simp [h]

@[simp] theorem State.enterLockout_store (cause : LockoutCause) (o : Origin) : (s.enterLockout cause o).nvs.store = s.nvs.store := by
  unfold State.enterLockout
  split <;> simp

@[simp] theorem State.enterReady_store : s.enterReady.nvs.store = s.nvs.store := by simp [State.enterReady]

@[simp] theorem State.startReclaim_store : s.startReclaim.nvs.store = s.nvs.store := by simp [State.startReclaim]

@[simp] theorem State.tripStarted_store (l : List Origin) : (s.tripStarted l).nvs.store = s.nvs.store := by
  unfold State.tripStarted
  (repeat' split) <;> simp

@[simp] theorem State.tripEnded_store (o : OpOutcome) : (s.tripEnded o).nvs.store = s.nvs.store := by
  unfold State.tripEnded State.tripCompleted
  (repeat' split) <;> simp

@[simp] theorem State.closeEnded_store (o : OpOutcome) : (s.closeEnded o).nvs.store = s.nvs.store := by
  unfold State.closeEnded State.closeCompleted
  (repeat' split) <;> simp

@[simp] theorem State.takeReport_store (p : Poles) : (s.takeReport p).nvs.store = s.nvs.store := by
  unfold State.takeReport
  dsimp only
  (repeat' split) <;> simp

@[simp] theorem State.latchNoticed_store : s.latchNoticed.nvs.store = s.nvs.store := by
  unfold State.latchNoticed
  (repeat' split) <;> simp

@[simp] theorem State.releaseHold_nvs (port : Option Port) (body : List Byte) : (s.releaseHold port body).nvs = s.nvs := by
  unfold State.releaseHold
  (repeat' split) <;> simp

@[simp] theorem State.abortTest_store (cause : TestCause) : (s.abortTest cause).nvs.store = s.nvs.store := by
  unfold State.abortTest
  split
  · simp [State.announce, State.leaveTest]
  · rfl

@[simp] theorem State.operationStarted_store : s.operationStarted.nvs.store = s.nvs.store := by
  unfold State.operationStarted State.suspendTest
  dsimp only
  (repeat' split) <;> simp

@[simp] theorem State.beginTrip_store (o : Origin) (e : Option Element) (c : Currents) : (s.beginTrip o e c).nvs.store = s.nvs.store := by
  unfold State.beginTrip
  dsimp only
  split <;> simp

@[simp] theorem State.handOff_store (o : OpOutcome) (op : Operation) : (s.handOff o op).nvs.store = s.nvs.store := by
  unfold State.handOff
  dsimp only
  (repeat' split) <;> simp

@[simp] theorem State.endOperation_store (o : OpOutcome) (op : Operation) : (s.endOperation o op).nvs.store = s.nvs.store := by
  simp [State.endOperation]

@[simp] theorem State.requestTripWith_store (o : Origin) (e : Option Element) (c : Currents) :
    (s.requestTripWith o e c).nvs.store = s.nvs.store := by
  rcases s.requestTripWith_cases o e c with ⟨-, h⟩ | ⟨op, -, -, h⟩ | ⟨op, -, -, h⟩ <;> rw [h]
  · simp
  · split <;> simp
  · simp [State.cutClose]

@[simp] theorem State.setLatch_store : s.setLatch.nvs.store = s.nvs.store := by
  unfold State.setLatch
  split <;> simp

@[simp] theorem State.judgePoles_store (op : Operation) : (s.judgePoles op).nvs.store = s.nvs.store := by
  unfold State.judgePoles State.tripOpened
  (repeat' split) <;> simp

@[simp] theorem State.firstReport_store : s.firstReport.nvs.store = s.nvs.store := by
  have report (u : State) : u.judgeReport.nvs.store = u.nvs.store := by
    unfold State.judgeReport State.mechanismAlarm State.discordanceAlarm State.requestTrip
    dsimp only
    (repeat' split) <;> simp
  unfold State.firstReport
  dsimp only
  split <;> simp [report]

@[simp] theorem State.indicationEvent_store (before : Poles) : (s.indicationEvent before).nvs.store = s.nvs.store := by
  unfold State.indicationEvent
  (repeat' split)
  · simp
  · unfold State.externalOpen State.externallyOpened
    dsimp only
    (repeat' split) <;> simp
  · unfold State.unexpectedClose State.mechanismAlarm State.requestTrip
    dsimp only
    split <;> simp
  · simp

/-- Reading the contacts writes nothing at once. -/
@[simp] theorem State.contactsRead_store (c : Contacts) : (s.contactsRead c).nvs.store = s.nvs.store := by
  unfold State.contactsRead
  dsimp only
  (repeat' split) <;> simp

/-- A start places its writes, and leaves the store as it found it. -/
theorem State.start_spec : s.start.nvs.store = s.nvs.store ∧ s.start.powered = true ∧ s.start.pending = s.pending := by
  have places (l : List RecordId) : ∀ u : State, (l.foldl (fun s id => s.place id) u).nvs.store = u.nvs.store
      ∧ (l.foldl (fun s id => s.place id) u).powered = u.powered ∧ (l.foldl (fun s id => s.place id) u).pending = u.pending := by
    induction l with
    | nil => exact fun u => ⟨rfl, rfl, rfl⟩
    | cons id l ih => exact fun u => by simpa using ih (u.place id)
  have failed (st : Store) (u : State) : (u.announceFailed st).nvs.store = u.nvs.store
      ∧ (u.announceFailed st).powered = u.powered ∧ (u.announceFailed st).pending = u.pending := by
    unfold State.announceFailed
    split
    · exact ⟨rfl, rfl, rfl⟩
    · simpa using places st.failed ((u.alarm .storeFault st.faultPayload).raise .storeFault)
  have latch (u : State) : u.announceLatch.nvs.store = u.nvs.store ∧ u.announceLatch.powered = u.powered
      ∧ u.announceLatch.pending = u.pending := by
    unfold State.announceLatch State.mechanismAlarm
    split <;> simp
  have lost (u : State) : u.announceLostTest.nvs.store = u.nvs.store ∧ u.announceLostTest.powered = u.powered
      ∧ u.announceLostTest.pending = u.pending := by
    unfold State.announceLostTest
    split <;> simp [State.announce]
  have marked (u : State) : (if s.nvs.store.shutdownMark = some true then u.place .shutdownMark else u).nvs.store = u.nvs.store
      ∧ (if s.nvs.store.shutdownMark = some true then u.place .shutdownMark else u).powered = u.powered
      ∧ (if s.nvs.store.shutdownMark = some true then u.place .shutdownMark else u).pending = u.pending := by
    split <;> simp
  have restored := failed s.nvs.store (s.restored.event .start [s.nvs.store.cause.code])
  refine ⟨(lost _).1.trans ((latch _).1.trans ((marked _).1.trans restored.1)),
    (lost _).2.1.trans ((latch _).2.1.trans ((marked _).2.1.trans restored.2.1)),
    (lost _).2.2.trans ((latch _).2.2.trans ((marked _).2.2.trans restored.2.2))⟩

theorem State.powerOn_spec (contacts : Option Contacts) (h : s.powered = false) : (s.powerOn contacts).nvs.store = s.nvs.store
    ∧ (s.powerOn contacts).powered = true ∧ (s.powerOn contacts).pending = s.pending := by
  unfold State.powerOn
  rw [if_neg (by simp [h])]
  cases contacts <;> simpa using s.start_spec

end

/-! ### Writes -/

section
variable {s u v : State} {readBack : ReadBack}

/-- A write that leaves the supply on leads to the state after it. -/
theorem State.leads_written (hp : s.powered = true) (hw : s.writeComplete readBack = v) (hv : v.powered = true) (hu : v.supplyAs s = u) :
    s.leads (.storeWriteComplete readBack) u := by
  refine ⟨v.rejudge, ?_, by rw [State.rejudge_supplyAs, hu]⟩
  subst hw
  change execStoreWriteComplete readBack s = _
  simp [execStoreWriteComplete, hp, hv]

variable {w : Writing}

theorem State.writeComplete_passes (hw : s.nvs.writing = some w) : s.writeComplete .passes
    = State.writeOver w.content { s with nvs := { s.nvs with store := s.nvs.store.put w.content } } := by
  simp [State.writeComplete, hw]

theorem State.writeComplete_again (hw : s.nvs.writing = some w) (first : w.second = false) (old : Bool) : s.writeComplete (.fails old)
    = { s with nvs := { s.nvs with writing := some ⟨w.content, true⟩ } } := by
  simp [State.writeComplete, hw, first]

/-- The report of a write given up (R185). -/
def State.writeGivenUp (c : Content) (s : State) : State := (s.alarm .storeFault [0x02, c.id.code]).raise .storeFault

theorem State.writeComplete_givenUp (hw : s.nvs.writing = some w) (second : w.second = true) (old : Bool) : s.writeComplete (.fails old)
    = State.writeOver w.content { s.writeGivenUp w.content with nvs := { s.nvs with store := s.nvs.store.giveUp old w.content } } := by
  unfold State.writeComplete
  rw [hw]
  simp only [second, Bool.not_true, Bool.false_eq_true, if_false]
  rfl

/-- The queue's head is written next. -/
def Nvs.next (store : Store) : List Content → Nvs
  | [] => ⟨store, [], none⟩
  | e :: rest => ⟨store, rest, some ⟨e, false⟩⟩

theorem Nvs.kick_idle (store : Store) (queue : List Content) : Nvs.kick ⟨store, queue, none⟩ = Nvs.next store queue := by
  cases queue <;> rfl

/-- With no shutdown under way, the next entry is taken and nothing else happens. -/
theorem State.writeOver_running (c : Content) (h : s.bcu.shutdown = .none) :
    s.writeOver c = { s with nvs := Nvs.next s.nvs.store s.nvs.queue } := by
  unfold State.writeOver State.drainStore
  simp [h, Nvs.kick_idle]

theorem Store.giveUp_old {st : Store} {c : Content} (h : ¬ (c = .shutdownMark true ∧ st.shutdownMark = some true)) : st.giveUp true c = st := by
  unfold Store.giveUp
  rw [if_pos (by simpa [imp_iff_not_or] using h)]

theorem Store.giveUp_mark {st : Store} {c : Content} (h : c = .shutdownMark true ∧ st.shutdownMark = some true) :
    st.giveUp true c = st.tear c := by
  unfold Store.giveUp
  rw [if_neg (by simp [h.1, h.2])]

theorem Store.giveUp_torn (st : Store) (c : Content) : st.giveUp false c = st.tear c := rfl

theorem State.writeGivenUp_supplyAs (c : Content) (s : State) : (s.writeGivenUp c).supplyAs s = s.writeGivenUp c := by
  rw [State.writeGivenUp, State.raise_supplyAs, State.alarm_supplyAs, State.supplyAs_self]

end

/-- Settles O35, by the read-back and the number of failures. -/
theorem storeWritesCompleteOrFail : Obligations.StoreWritesCompleteOrFail := by
  refine ⟨fun s w hp hw hs => ?_, fun s => ⟨fun hp => ?_, fun hp => ?_⟩, fun s contacts hp => ?_⟩
  · intro next oldSet given
    have given_eq : given s = s.writeGivenUp w.content := rfl
    have next_eq (store : Store) (u : State) : next store u = { u with nvs := Nvs.next store s.nvs.queue } := by
      simp only [next]
      cases s.nvs.queue <;> rfl
    have ends (readBack : ReadBack) (old : Bool) (st : Store) (hr : s.writeComplete readBack
        = State.writeOver w.content { s.writeGivenUp w.content with nvs := { s.nvs with store := s.nvs.store.giveUp old w.content } })
        (hg : s.nvs.store.giveUp old w.content = st) : s.leads (.storeWriteComplete readBack) (next st (given s)) := by
      rw [hg, State.writeOver_running _ (by exact hs)] at hr
      refine State.leads_written hp hr hp ?_
      rw [next_eq, given_eq]
      exact congrArg (fun u : State => { u with nvs := Nvs.next st s.nvs.queue }) (s.writeGivenUp_supplyAs w.content)
    refine ⟨?_, fun old first => ?_, fun second not => ?_, fun second set => ?_, fun second => ?_, fun st c => ?_⟩
    · rw [next_eq]
      exact State.leads_written hp ((State.writeComplete_passes hw).trans (State.writeOver_running _ (by exact hs))) hp rfl
    · exact State.leads_written hp (State.writeComplete_again hw first old) hp rfl
    · exact ends _ _ _ (State.writeComplete_givenUp hw second true) (Store.giveUp_old not)
    · exact ends _ _ _ (State.writeComplete_givenUp hw second true) (Store.giveUp_mark set)
    · exact ends _ _ _ (State.writeComplete_givenUp hw second false) (Store.giveUp_torn _ _)
    · exact ⟨by simp [Store.read_put], by simp [Store.read_tear], fun id hid => ⟨by simp [Store.read_put, hid], by simp [Store.read_tear, hid]⟩⟩
  · change execPowerLoss s = _
    simp [execPowerLoss, hp]
  · refine ⟨s.powerLoss, by change execPowerLoss s = _; simp [execPowerLoss, hp], rfl, rfl, rfl, fun hw => ?_, fun w hw hc => ?_,
      fun w hw hc => ?_, rfl, rfl⟩
    · change s.nvs.lose.store = _
      simp [Nvs.lose, hw]
    · change s.nvs.lose.store = _
      simp [Nvs.lose, hw, Store.cutOff, hc]
    · change s.nvs.lose.store = _
      simp [Nvs.lose, hw, Store.cutOff, hc]
  · obtain ⟨store, powered, pending⟩ := s.powerOn_spec contacts hp
    exact ⟨_, rfl, powered, store, pending⟩

/-! ### The shutdown (R119, R188) -/

section
variable {s : State} {d : Nat}

theorem State.radioGivenUp_waits (h : s.bcu.shutdown = .radio d) (queued : s.nvs.queue ≠ []) (called : s.rpu.lastCall ≠ .waiting) :
    s.radioGivenUp = { s.reach d with bcu := { s.bcu with shutdown := .store ((s.reach d).now + 5000000) } } := by
  have same : ({ s.reach d with rpu := { s.rpu with lastCall := if s.rpu.lastCall = .waiting then .over else s.rpu.lastCall } } : State)
      = s.reach d := by rw [if_neg called]; rfl
  have given : s.radioGivenUp = (s.reach d).radioDone := by
    unfold State.radioGivenUp
    rw [h]
    exact congrArg State.radioDone same
  rw [given]
  unfold State.radioDone
  rw [show (s.reach d).bcu.shutdown = .radio d from h]
  unfold State.drainStore
  simp only [State.withBcu_bcu, State.withBcu_nvs, State.reach_nvs, List.isEmpty_iff, queued, if_false]
  rfl

theorem State.radioGivenUp_called (h : s.bcu.shutdown = .radio d) (called : s.rpu.lastCall = .waiting) :
    s.radioGivenUp.rpu = { s.rpu with lastCall := .over } ∧ s.radioGivenUp.mdr = s.mdr ∧ s.radioGivenUp.sqc = s.sqc
      ∧ (s.radioGivenUp.bcu.shutdown = .mark ↔ s.nvs.queue = []) := by
  unfold State.radioGivenUp State.radioDone State.drainStore
  rw [h]
  by_cases hq : s.nvs.queue = [] <;> simp [h, called, hq, State.writeMark]

/-- The store's time is over: the mark is written, after the write in progress. -/
theorem State.storeTimeout_marks (hp : s.powered = true) (h : s.bcu.shutdown = .store d) :
    s.leads .shutdownStoreTimeout { s.reach d with
      bcu := { s.bcu with shutdown := .mark }, nvs := ({ s.nvs with queue := [.shutdownMark true] } : Nvs).kick } := by
  refine State.leads_of hp (f := fun s => match s.bcu.shutdown with
    | .store d => (s.reach d).writeMark
    | _ => s) (by rfl) ?_
  simp only [h]
  rfl

variable {w : Writing}

/-- While the store is waited for, a write that passes takes the next entry, and with none left the mark is placed. -/
theorem State.writePasses_draining (hp : s.powered = true) (h : s.bcu.shutdown = .store d) (hw : s.nvs.writing = some w) :
    s.leads (.storeWriteComplete .passes) (State.drainStore { s with nvs := Nvs.next (s.nvs.store.put w.content) s.nvs.queue }) := by
  have done : s.writeComplete .passes = State.drainStore { s with nvs := Nvs.next (s.nvs.store.put w.content) s.nvs.queue } := by
    rw [State.writeComplete_passes hw, State.writeOver, if_neg (by simp [h]), Nvs.kick_idle]
  have keeps (n : Nvs) : (State.drainStore { s with nvs := n }).powered = true
      ∧ (State.drainStore { s with nvs := n }).supplyAs s = State.drainStore { s with nvs := n } := by
    unfold State.drainStore
    rw [h]
    dsimp only
    split <;> exact ⟨hp, rfl⟩
  exact State.leads_written hp done (keeps _).1 (keeps _).2

/-- The mark's write is over: the contactor opens and power is lost, with the store as that write left it. -/
theorem State.markOver {u : State} (h : u.bcu.shutdown = .mark) (hq : u.nvs.queue = []) : u.writeOver (.shutdownMark true)
    = State.dark u.nvs.store false u.freeIndex u.pending := by
  unfold State.writeOver
  rw [if_pos (by simp [h])]
  have : ({ u.nvs with writing := none } : Nvs).kick = ⟨u.nvs.store, [], none⟩ := by rw [Nvs.kick_idle, hq]; rfl
  rw [this]
  rfl

theorem State.markOver_dark (u : State) (h : u.bcu.shutdown = .mark) : (u.writeOver (.shutdownMark true)).powered = false
    ∧ (u.writeOver (.shutdownMark true)).bcu.contactorClosed = false ∧ (u.writeOver (.shutdownMark true)).pending = u.pending := by
  unfold State.writeOver
  rw [if_pos (by simp [h])]
  exact ⟨rfl, rfl, rfl⟩

theorem Store.shutdownMark_put (st : Store) : (st.put (.shutdownMark true)).shutdownMark = some true := by
  simp [Store.shutdownMark, Store.read_put, Content.id]

theorem Store.shutdownMark_giveUp (st : Store) (old : Bool) : (st.giveUp old (.shutdownMark true)).shutdownMark ≠ some true := by
  have torn : (st.tear (.shutdownMark true)).shutdownMark = none := by simp [Store.shutdownMark, Store.read_tear, Content.id]
  unfold Store.giveUp
  split
  · next h => simp at h; exact h.2
  · simp [torn]

end

/-- Settles O36, by the step the shutdown has reached. -/
theorem shutdownGoesThroughItsSteps : Obligations.ShutdownGoesThroughItsSteps := by
  intro s hp
  refine ⟨fun d h queued called => ?_, fun d h called => ?_, fun d h hw => ?_, fun d w h hw => ?_, fun d w h hw hq => ?_,
    fun d w last h hw hq => ?_, fun d w first second rest h hw hq => ?_, fun w rest h hw hc hq => ?_, fun second readBack h hw last => ?_⟩
  · refine State.leads_of hp (f := State.radioGivenUp) (by rfl) ?_
    rw [State.radioGivenUp_waits h queued called]
    rfl
  · obtain ⟨rpu, mdr, sqc, mark⟩ := State.radioGivenUp_called h called
    have judged (α : Type) (f : State → α) (hf : ∀ t, f (t.supplyAs s) = f t) : f s.radioGivenUp.rejudge = f s.radioGivenUp := by
      rw [← hf, State.rejudge_supplyAs, hf]
    exact ⟨_, act_powered (f := State.radioGivenUp) hp, (judged _ (·.rpu.lastCall) fun _ => rfl).trans (by rw [rpu]),
      (judged _ (·.rpu.qAlarm) fun _ => rfl).trans (by rw [rpu]), mdr, sqc, mark⟩
  · have := State.storeTimeout_marks hp h
    rwa [show ({ s.nvs with queue := [.shutdownMark true] } : Nvs).kick = ⟨s.nvs.store, [], some ⟨.shutdownMark true, false⟩⟩ by
      simp [Nvs.kick, hw]] at this
  · have := State.storeTimeout_marks hp h
    rwa [show ({ s.nvs with queue := [.shutdownMark true] } : Nvs).kick = ⟨s.nvs.store, [.shutdownMark true], some w⟩ by
      simp [Nvs.kick, hw]] at this
  · have := State.writePasses_draining hp h hw
    rw [hq] at this
    simpa [State.drainStore, h, State.writeMark, Nvs.next, Nvs.kick] using this
  · have := State.writePasses_draining hp h hw
    rw [hq] at this
    simpa [State.drainStore, h, State.writeMark, Nvs.next, Nvs.kick] using this
  · have := State.writePasses_draining hp h hw
    rw [hq] at this
    simpa [State.drainStore, h, State.writeMark, Nvs.next, Nvs.kick] using this
  · refine State.leads_written hp (v := { s with nvs := Nvs.next (s.nvs.store.put w.content) s.nvs.queue }) ?_ hp ?_
    · rw [State.writeComplete_passes hw, State.writeOver, if_neg (by simp [hc]), Nvs.kick_idle]
      simp [State.drainStore, h]
    · rw [hq]; rfl
  · have ends {v : State} (done : s.writeComplete readBack = v) (dark : v.powered = false) : exec (.storeWriteComplete readBack) s = .next v := by
      subst done
      change execStoreWriteComplete readBack s = _
      simp [execStoreWriteComplete, hp, dark]
    cases readBack with
    | passes =>
      have done := State.writeComplete_passes hw
      let u : State := { s with nvs := { s.nvs with store := s.nvs.store.put (.shutdownMark true) } }
      obtain ⟨dark, opened, pending⟩ := u.markOver_dark h
      refine ⟨_, ends done dark, dark, opened, pending, fun _ hq => ?_, fun hr => absurd rfl hr⟩
      exact (congrArg (·.nvs.store.shutdownMark) (State.markOver (u := u) h hq)).trans (Store.shutdownMark_put _)
    | fails old =>
      have done := State.writeComplete_givenUp hw (by simpa using last) old
      let u : State :=
        { s.writeGivenUp (.shutdownMark true) with nvs := { s.nvs with store := s.nvs.store.giveUp old (.shutdownMark true) } }
      obtain ⟨dark, opened, pending⟩ := u.markOver_dark h
      refine ⟨_, ends done dark, dark, opened, pending, nofun, fun _ hq set => ?_⟩
      exact Store.shutdownMark_giveUp _ old ((congrArg (·.nvs.store.shutdownMark) (State.markOver (u := u) h hq)).symm.trans set)

end Sys2Proof.Machine
end

section
/-! PROOFS. Trips as they begin, join and cut, and the tag table (R18, R29, R47, R66, R69, R74, R84, R91 to R96, R105, R108 to R110). -/

namespace Sys2Proof.Machine

/-! ### Sticky bits, alarms asked for and rings, after one more operation -/

/-- The flag's sticky bit is set (R177). -/
def AlertSet.lit (f : Flag) (a : AlertSet) : Prop := a.sticky &&& f.bit ≠ 0

@[simp] theorem Ports.raise_cAlerts (f : Flag) (p : Ports) : (p.raise f).cAlerts = p.cAlerts.raise f := rfl
@[simp] theorem Ports.raise_pAlerts (f : Flag) (p : Ports) : (p.raise f).pAlerts = p.pAlerts.raise f := rfl

theorem AlertSet.lit_iff (f : Flag) (a : AlertSet) : a.lit f ↔ a.sticky.getLsbD f.index = true := by
  unfold AlertSet.lit
  constructor
  · intro h
    by_contra off
    refine h (BitVec.eq_of_getLsbD_eq fun i hi => ?_)
    by_cases same : i = f.index
    · simp [same, off]
    · have : f.bit.getLsbD i = false := by
        unfold Flag.bit
        rw [BitVec.getLsbD_ofNat, Nat.testBit_two_pow_of_ne (Ne.symm same), Bool.and_false]
      simp [this]
  · intro on zero
    have bit : (a.sticky &&& f.bit).getLsbD f.index = true := by rw [BitVec.getLsbD_and, on, f.bit_getLsbD]; rfl
    rw [zero] at bit
    simp at bit

theorem Flag.index_ne {f g : Flag} (h : g ≠ f) : g.index ≠ f.index := by
  revert h
  cases f <;> cases g <;> decide

/-- An occurrence sets its own bit and no other. -/
@[simp] theorem AlertSet.raise_lit (f g : Flag) (a : AlertSet) : (a.raise g).lit f ↔ g = f ∨ a.lit f := by
  rw [AlertSet.lit_iff, AlertSet.lit_iff]
  simp only [AlertSet.raise, BitVec.getLsbD_or, Bool.or_eq_true, or_comm (b := g.bit.getLsbD f.index = true)]
  refine or_congr_left ?_
  by_cases h : g = f
  · simp [h, f.bit_getLsbD]
  · have : g.bit.getLsbD f.index = false := by
      unfold Flag.bit
      rw [BitVec.getLsbD_ofNat, Nat.testBit_two_pow_of_ne (Flag.index_ne h), Bool.and_false]
    simp [h, this]

/-- The newest entry of a ring is the one that joined it last. -/
theorem pushRing_getLast {α : Type} {size : Nat} (pos : 0 < size) (x : α) (ring : List α) : (pushRing size x ring).getLast? = some x := by
  rw [pushRing, List.getLast?_drop, if_neg (by simp; omega)]
  simp

/-- What has been placed waits to be written, or is being written. -/
theorem Nvs.place_mem (c : Content) (n : Nvs) : c ∈ (n.place c).queue ∨ (n.place c).writing = some ⟨c, false⟩ := by
  have kicked (m : Nvs) (h : c ∈ m.queue) : c ∈ m.kick.queue ∨ m.kick.writing = some ⟨c, false⟩ := by
    rcases m.kick_cases with e | ⟨d, rest, -, hq, e⟩
    · rw [e]
      exact .inl h
    · rw [e]
      rcases List.mem_cons.mp (hq ▸ h) with rfl | h
      · exact .inr rfl
      · exact .inl h
  unfold Nvs.place
  refine kicked _ ?_
  split
  · next h =>
    obtain ⟨e, he, same⟩ := List.any_eq_true.mp h
    exact List.mem_map.mpr ⟨e, he, if_pos same⟩
  · simp

/-! ### A trip that begins (R66, R69, R84) -/

section
variable {s : State} {o : Origin}

/-- The two changes of LOCKOUT that a trip's start can bring, beside the record it makes. -/
theorem State.activationTest_spec (s : State) : s.activationTest.sqc.sequence = s.sqc.sequence
    ∧ s.activationTest.oru = s.oru ∧ (s.activationTest.ports.cAlerts.lit .energyLow ↔ s.ports.cAlerts.lit .energyLow) := by
  rcases s.activationTest_cases with h | ⟨staged, -, -, h⟩ <;> rw [h]
  · exact ⟨rfl, rfl, Iff.rfl⟩
  · simp [State.activate]

theorem State.record_counters (r : OpRecord) (h : r.currents = none) (s : State) : (s.record r).oru.counters = s.oru.counters.tally r.kind := by
  simp [State.record, h, Counters.wearOut]

theorem State.record_ports (r : OpRecord) (s : State) : (s.record r).ports = s.ports := by simp

/-- LOCKOUT is entered with its record: the number taken, and one lockout more (R50, R163). -/
theorem State.enterLockout_spec (cause : LockoutCause) (h : ∀ held, s.sqc.sequence ≠ .lockout held) :
    (s.enterLockout cause o).sqc.sequence = .lockout cause
      ∧ (s.enterLockout cause o).oru.counters.next = (s.oru.counters.next + 1) % 65536
      ∧ (s.enterLockout cause o).oru.counters.lockouts = min 9999999 (s.oru.counters.lockouts + 1)
      ∧ ((s.enterLockout cause o).ports.cAlerts.lit .energyLow ↔ s.ports.cAlerts.lit .energyLow) := by
  unfold State.enterLockout
  split
  · next e => exact absurd e (h _)
  · obtain ⟨sequence, oru, lit⟩ := State.activationTest_spec
      (((((s.setSequence (.lockout cause)).newRecord .lockout o none none none).1.raise .lockout).alarm .lockout
        (cause.code :: be 1 ((s.setSequence (.lockout cause)).newRecord .lockout o none none none).1.sqc.shot
          ++ be 2 ((s.setSequence (.lockout cause)).newRecord .lockout o none none none).2)))
    refine ⟨sequence.trans (by simp), ?_, ?_, lit.trans (by simp)⟩
    · rw [oru]
      simp [State.newRecord, State.record_counters, State.takeNumber, Counters.tally]
    · rw [oru]
      simp [State.newRecord, State.record_counters, State.takeNumber, Counters.tally, satSucc, counterLimit]

theorem kindOf_command (h : o.isCommand = true) : kindOf [o] = .command ∧ lockoutOf [o] = (.command, o) := by
  cases o <;> first | exact absurd h (by decide) | exact ⟨rfl, rfl⟩

/-- What a command trip's start does to the sequence (R47, Table 3-4). -/
theorem State.tripStarted_command (h : o.isCommand = true) : s.tripStarted [o] =
    if s.sqc.reported then (match s.sqc.sequence with
      | .ready | .reclaim _ | .closing _ => s.setSequence (.tripping .command false)
      | .interval _ | .energyWait _ => s.enterLockout .command o
      | .tripping _ _ | .opened | .lockout _ => s) else s := by
  obtain ⟨kind, lockout⟩ := kindOf_command h
  have asked : ([o].all (· == .protection)) = false := by cases o <;> first | exact absurd h (by decide) | rfl
  unfold State.tripStarted
  rw [asked, kind, lockout]
  cases s.sqc.reported with
  | false => rfl
  | true => cases s.sqc.sequence <;> rfl

/-- The state after a command trip has begun, in terms of the state before. -/
def State.tripFired (o : Origin) (s t : State) : Prop :=
  let low : Bool := s.mdr.estimate < s.mdr.settings.eTrip
  t.mdr = { s.mdr with
      op := some (s.newTrip o none s.lmu.currents), estimate := s.mdr.estimate - s.mdr.settings.eTrip
      tripDrive := true, closeDrive := false, invalidWatch := none, mixedWatch := none }
    ∧ t.oeb = s.oeb.pulseStart ∧ t.au = { s.au with selection := none, panel := s.au.panel.cancel .trip }
    ∧ t.lmu = s.lmu ∧ t.clock = s.clock ∧ t.powered = s.powered ∧ t.pending = s.pending ∧ t.rpu.settings = s.rpu.settings
    ∧ t.bcu.opInFlight = true ∧ (s.bcu.testHolds = true → t.bcu.loadOn = false)
    ∧ (s.bcu.testHolds = false → t.bcu = { s.bcu with opInFlight := true })
    ∧ (t.ports.cAlerts.lit .energyLow ↔ low = true ∨ s.ports.cAlerts.lit .energyLow)
    ∧ (match s.sqc.sequence with
        | .ready | .reclaim _ | .closing _ =>
          t.oru = { s.oru with counters := { s.oru.counters with next := (s.oru.counters.next + 1) % 65536 } }
            ∧ t.sqc = (if s.sqc.reported then { s.sqc with sequence := .tripping .command false } else s.sqc)
        | .interval _ | .energyWait _ => s.sqc.reported = true →
          t.sqc.sequence = .lockout .command ∧ t.oru.counters.next = ((s.oru.counters.next + 1) % 65536 + 1) % 65536
            ∧ t.oru.counters.lockouts = min 9999999 (s.oru.counters.lockouts + 1)
        | .tripping _ _ | .opened | .lockout _ =>
          t.oru = { s.oru with counters := { s.oru.counters with next := (s.oru.counters.next + 1) % 65536 } }
            ∧ t.sqc = s.sqc)

/-- A trip's start up to the notice of the SQC: the number reserved, the pulse and the debit, the mark, the elements' progress (R69, R84). -/
def State.tripPulsed (origin : Origin) (element : Option Element) (currents : Currents) (s : State) : State :=
  let reserved := s.reserve
  let low : Bool := s.mdr.estimate < s.mdr.settings.eTrip
  let s := reserved.1.withMdr fun m =>
    { (m.debit m.settings.eTrip).stopWatches with
      op := some ⟨.trip, [origin], .pulse, false, s.now, m.estimate, low, element, currents, reserved.2⟩
      tripDrive := true, closeDrive := false }
  let s := if low then s.raise .energyLow else s
  { s with oeb := s.oeb.pulseStart }

theorem State.beginTrip_eq (o : Origin) (e : Option Element) (c : Currents) (s : State) :
    s.beginTrip o e c = (((s.tripPulsed o e c).tripStarted [o]).dropCloses .trip).operationStarted := rfl

theorem State.tripPulsed_frame (o : Origin) (e : Option Element) (c : Currents) (s : State) :
    (s.tripPulsed o e c).au = s.au ∧ (s.tripPulsed o e c).bcu = s.bcu ∧ (s.tripPulsed o e c).sqc = s.sqc
      ∧ (s.tripPulsed o e c).rpu = s.rpu ∧ (s.tripPulsed o e c).oeb = s.oeb.pulseStart
      ∧ (s.tripPulsed o e c).oru = { s.oru with counters := { s.oru.counters with next := (s.oru.counters.next + 1) % 65536 } }
      ∧ ((s.tripPulsed o e c).ports.cAlerts.lit .energyLow
        ↔ s.mdr.estimate < s.mdr.settings.eTrip ∨ s.ports.cAlerts.lit .energyLow) := by
  unfold State.tripPulsed
  by_cases low : s.mdr.estimate < s.mdr.settings.eTrip <;> simp [low, State.reserve, State.takeNumber]

theorem State.operationStarted_lit (s : State) : s.operationStarted.ports.cAlerts.lit .energyLow ↔ s.ports.cAlerts.lit .energyLow := by
  have release (port : Option Port) (body : List Byte) (u : State) :
      (u.releaseHold port body).ports.cAlerts = u.ports.cAlerts := by
    unfold State.releaseHold
    repeat' split
    all_goals rfl
  have abort (u : State) : (u.abortTest .interrupted).ports.cAlerts.lit .energyLow ↔ u.ports.cAlerts.lit .energyLow := by
    unfold State.abortTest
    split
    · simp [State.announce, release, State.leaveTest]
    · rfl
  unfold State.operationStarted State.suspendTest
  dsimp only
  repeat' split
  · rfl
  · exact abort _
  · rfl
  · rfl

theorem State.beginTrip_fired (h : o.isCommand = true) : State.tripFired o s (s.beginTrip o none s.lmu.currents) := by
  obtain ⟨au, bcu, sqc, rpu, oeb, oru, lit⟩ := State.tripPulsed_frame o none s.lmu.currents s
  obtain ⟨flight, held, free⟩ := State.operationStarted_bcu (((s.tripPulsed o none s.lmu.currents).tripStarted [o]).dropCloses .trip)
  simp only [State.dropCloses_bcu, State.tripStarted_frame, bcu] at held free
  have started : (s.beginTrip o none s.lmu.currents).oru = ((s.tripPulsed o none s.lmu.currents).tripStarted [o]).oru
      ∧ (s.beginTrip o none s.lmu.currents).sqc = ((s.tripPulsed o none s.lmu.currents).tripStarted [o]).sqc
      ∧ ((s.beginTrip o none s.lmu.currents).ports.cAlerts.lit .energyLow
        ↔ ((s.tripPulsed o none s.lmu.currents).tripStarted [o]).ports.cAlerts.lit .energyLow) := by
    rw [State.beginTrip_eq]
    exact ⟨(State.operationStarted_rest _).1, (State.operationStarted_rest _).2.1, State.operationStarted_lit _⟩
  refine ⟨State.beginTrip_mdr o none s.lmu.currents s, ?_, ?_, by simp, by simp, by simp, by simp, ?_, flight, held, free, ?_, ?_⟩
  · rw [State.beginTrip_eq]; simp [oeb]
  · rw [State.beginTrip_eq]; simp [au]
  · have unpooled : (s.beginTrip o none s.lmu.currents).rpu.unpooled = s.rpu.unpooled := by simp
    have settings := congrArg Rpu.settings unpooled
    exact settings
  · rw [started.2.2, decide_eq_true_iff, ← lit, State.tripStarted_command h, sqc]
    split
    · cases hq : s.sqc.sequence <;> first | rfl | exact (State.enterLockout_spec .command (by simp [sqc, hq])).2.2.2
    · rfl
  · rw [started.1, started.2.1, State.tripStarted_command h, sqc]
    cases hq : s.sqc.sequence with
    | interval d | energyWait d =>
      dsimp only
      intro hr
      obtain ⟨sequence, next, lockouts, -⟩ := State.enterLockout_spec (s := s.tripPulsed o none s.lmu.currents) (o := o) .command
        (by simp [sqc, hq])
      simp only [hr, if_true]
      exact ⟨sequence, by rw [next, oru], by rw [lockouts, oru]⟩
    | _ =>
      dsimp only
      split <;> exact ⟨oru, by simp [sqc]⟩

end

/-! ### TRIP and the pushbutton (R66, R74, R109, R110) -/

section
variable {s : State}

theorem portOrigin_isCommand (port : Port) : (portOrigin port).isCommand = true := by cases port <;> rfl

/-- A taken TRIP: the request is placed and answered ACCEPTED, in whatever state (R109). -/
theorem exec_trip {src : Source} {ref : Byte} {port : Port} (ht : s.taken (.trip src ref) port) :
    exec (.trip src ref) s = .next ((s.requestTrip (portOrigin port)).answer port ⟨0x02, ref, .accepted, []⟩).rejudge := by
  have taken : s.takes .trip src port := State.taken_elim rfl ht
  change act (respond .trip src ref fun port s => .code .accepted (s.requestTrip (portOrigin port))) s = _
  rw [act_powered taken.1, respond_takes taken]
  rfl

theorem State.answered_newest (port : Port) (a : Answer) (t : State) : (t.answer port a).rejudge.newestAnswer port = some a := by
  rw [State.newestAnswer, State.rejudge_answersAt, State.answer_answersAt, if_pos rfl, pushAnswer_getLast]

/-- What the request's answer and the judgement of the radio leave of a trip's start. -/
theorem State.tripFired.carry {o : Origin} {t u : State} (h : s.tripFired o t) (hu : u.mdr = t.mdr ∧ u.oru = t.oru ∧ u.oeb = t.oeb
    ∧ u.au = t.au ∧ u.lmu = t.lmu ∧ u.clock = t.clock ∧ u.powered = t.powered ∧ u.pending = t.pending ∧ u.bcu = t.bcu ∧ u.sqc = t.sqc
    ∧ u.rpu.settings = t.rpu.settings ∧ u.ports.cAlerts = t.ports.cAlerts) : s.tripFired o u := by
  obtain ⟨mdr, oru, oeb, au, lmu, clock, powered, pending, bcu, sqc, settings, alerts⟩ := hu
  unfold State.tripFired at *
  rw [mdr, oru, oeb, au, lmu, clock, powered, pending, bcu, sqc, settings, alerts]
  exact h

theorem State.rejudge_settings (t : State) : t.rejudge.rpu.settings = t.rpu.settings := by
  have settings := congrArg (fun u : State => u.rpu.settings) (State.rejudge_supplyAs t t)
  exact settings

theorem State.tripFired.judged {o : Origin} {t : State} (h : s.tripFired o t) : s.tripFired o t.rejudge :=
  h.carry ⟨rfl, rfl, rfl, rfl, rfl, rfl, rfl, rfl, rfl, rfl, t.rejudge_settings, rfl⟩

theorem State.tripFired.answer {o : Origin} {t : State} (h : s.tripFired o t) (port : Port) (a : Answer) : s.tripFired o (t.answer port a) :=
  h.carry (by cases port <;> exact ⟨rfl, rfl, rfl, rfl, rfl, rfl, rfl, rfl, rfl, rfl, rfl, rfl⟩)

theorem State.requestTrip_idle (o : Origin) (h : s.mdr.op = none) : s.requestTrip o = s.beginTrip o none s.lmu.currents := by
  simp [State.requestTrip, State.requestTripWith, h]

end

/-- Settles O11: both requests begin a trip, the pushbutton's at the end of its stand. -/
theorem tripFiresWithNothingInFlight : Obligations.TripFiresWithNothingInFlight := by
  intro c o stand s base hp idle
  rintro (⟨src, ref, port, rfl, ht, rfl, rfl, rfl⟩ | ⟨rfl, released, rfl, rfl, d, hd, rfl⟩)
  · intro low
    have fired := ((State.beginTrip_fired (s := base) (portOrigin_isCommand port)).answer port ⟨0x02, ref, .accepted, []⟩).judged
    rw [← State.requestTrip_idle _ idle] at fired
    obtain ⟨mdr, oeb, au, lmu, clock, powered, pending, settings, flight, held, free, lit, sequence⟩ := fired
    refine ⟨_, exec_trip ht, mdr, oeb, ?_, lmu, clock, powered.trans hp, pending, settings, flight, held, free, lit, sequence⟩
    rw [au]
    simp
  · intro low
    let u := (s.reach d).withAu fun a => { a with buttonPressed := true, buttonStand := none }
    have fired := (State.beginTrip_fired (s := u) (o := .button) rfl).judged
    have heard : exec .tripPushbutton s = .next (u.beginTrip .button none u.lmu.currents).rejudge := by
      change act (pushbutton.hear true) s = _
      rw [act_powered hp, pushbutton.hear_stood hd rfl]
      have pressed : pushbutton.take true (pushbutton.keep none (s.reach d)) = u.requestTrip .button := by
        simp only [pushbutton, State.buttonReading]
        rw [if_pos (by simp [released])]
        rfl
      rw [pressed, State.requestTrip_idle .button (s := u) idle]
    obtain ⟨mdr, oeb, au, lmu, clock, powered, pending, settings, flight, held, free, lit, sequence⟩ := fired
    refine ⟨_, heard, mdr, oeb, ?_, lmu, clock, powered.trans hp, pending, settings, flight, held, free, lit, sequence⟩
    rw [au]
    simp [u]

/-! ### A close in flight is cut (R74, R77) -/

section
variable {s : State} {op : Operation}

theorem State.judgeWear_ring (s : State) : s.judgeWear.oru.ring = s.oru.ring := by
  unfold State.judgeWear
  dsimp only
  repeat' split
  all_goals rfl

/-- The record joins the ring with the stamp and the counter of the moment (R161). -/
theorem State.record_ring (r : OpRecord) (s : State) :
    (s.record r).oru.ring = pushRing 32 { r with time := s.stamp, shotAfter := s.sqc.shot } s.oru.ring := by
  unfold State.record
  dsimp only
  split
  · exact State.judgeWear_ring _
  · rfl

/-- The operation's own record, as it joins the ring (R77). -/
def Operation.ringRecord (outcome : OpOutcome) (op : Operation) (s : State) : OpRecord :=
  { op.toRecord outcome with time := s.stamp, shotAfter := s.sqc.shot }

theorem Operation.recordKind_close (hk : op.kind = .close) : op.recordKind = .reclose ∨ op.recordKind = .cmdClose := by
  unfold Operation.recordKind
  rw [hk]
  split <;> simp_all

/-- A close cut off is handed off: its record, its event, its occurrence, and nothing for the SQC (R74, R77). -/
theorem State.handOff_cut (hk : op.kind = .close) : s.handOff .cut op
    = ((s.record (op.toRecord .cut)).event .close (be 2 op.number)).raise .close := by
  have ended : s.closeEnded .cut = s := by
    unfold State.closeEnded
    split <;> rfl
  unfold State.handOff
  simp only [hk, ended]
  rfl

/-- What a cut close leaves: the trip in its place, its record the newest of the ring. -/
theorem State.cutClose_spec (o : Origin) (e : Option Element) (c : Currents) (hk : op.kind = .close) :
    let u := (s.withMdr fun m => { m with closeDrive := false }).beginTrip o e c
    (s.cutClose o e c op).mdr = u.mdr ∧ (s.cutClose o e c op).sqc = u.sqc ∧ (s.cutClose o e c op).au = u.au
      ∧ ∃ cut, (s.cutClose o e c op).oru.ring.getLast? = some cut ∧ cut.number = op.number ∧ cut.outcome = some .cut
        ∧ (cut.kind = .reclose ∨ cut.kind = .cmdClose) := by
  intro u
  have cut : s.cutClose o e c op = ((u.record (op.toRecord .cut)).event .close (be 2 op.number)).raise .close := State.handOff_cut hk
  rw [cut]
  refine ⟨by simp, by simp, by simp, op.ringRecord .cut u, ?_, rfl, rfl, Operation.recordKind_close hk⟩
  simp only [State.raise_oru, State.event_oru, State.record_ring]
  exact pushRing_getLast (by decide) _ _

end

/-- Settles O12, by what is in flight. -/
theorem tripIsNeverRefused : Obligations.TripIsNeverRefused := by
  intro src ref port s ht
  have placed := exec_trip ht
  have newest (t : State) : (t.answer port ⟨0x02, ref, .accepted, []⟩).rejudge.newestAnswer port = some ⟨0x02, ref, .accepted, []⟩ :=
    State.answered_newest port _ t
  have takes : s.takes .trip src port := State.taken_elim rfl ht
  have idle (none : s.mdr.op = none) := State.requestTrip_idle (portOrigin port) none
  have joined (op : Operation) (hop : s.mdr.op = some op) (hk : op.kind = .trip) : s.requestTrip (portOrigin port)
      = if portOrigin port ∈ op.origins then s
        else { s with mdr := { s.mdr with op := some { op with origins := op.origins ++ [portOrigin port] } } } := by
    simp only [State.requestTrip, State.requestTripWith, hop, hk, List.contains_iff_mem]
    rfl
  have cut (op : Operation) (hop : s.mdr.op = some op) (hk : op.kind = .close) : s.requestTrip (portOrigin port)
      = s.cutClose (portOrigin port) none s.lmu.currents op := by
    simp only [State.requestTrip, State.requestTripWith, hop, hk]
  have answered (t : State) : (t.answer port ⟨0x02, ref, .accepted, []⟩).rejudge.mdr = t.mdr := by simp
  refine ⟨?_, fun op hop hk => ?_, fun op hop hk => ?_⟩
  · cases hop : s.mdr.op with
    | none =>
      refine ⟨_, s.newTrip (portOrigin port) none s.lmu.currents, placed, newest _, ?_, rfl, List.mem_singleton_self _⟩
      rw [answered, idle hop, State.beginTrip_mdr]
    | some op =>
      cases hk : op.kind with
      | trip =>
        rw [joined op hop hk] at placed
        by_cases member : portOrigin port ∈ op.origins
        · rw [if_pos member] at placed
          exact ⟨_, op, placed, newest _, by rw [answered, hop], hk, member⟩
        · rw [if_neg member] at placed
          exact ⟨_, { op with origins := op.origins ++ [portOrigin port] }, placed, newest _, by rw [answered], hk,
            List.mem_append_right _ (List.mem_singleton_self _)⟩
      | close =>
        rw [cut op hop hk] at placed
        obtain ⟨mdr, -⟩ := State.cutClose_spec (s := s) (portOrigin port) none s.lmu.currents hk
        refine ⟨_, (s.withMdr fun m => { m with closeDrive := false }).newTrip (portOrigin port) none s.lmu.currents, placed, newest _, ?_,
          rfl, List.mem_singleton_self _⟩
        rw [answered, mdr, State.beginTrip_mdr]
  · refine State.completes_of (kind := .trip) (owner := fun port s => .code .accepted (s.requestTrip (portOrigin port))) rfl rfl takes rfl ?_ ?_
    all_goals rw [Taken.code, joined op hop hk]
    · split <;> rfl
    · intro q
      split <;> cases q <;> rfl
  · rw [cut op hop hk] at placed
    let v := s.withMdr fun m => { m with closeDrive := false }
    obtain ⟨mdr, sqc, -, record, newestRecord, number, outcome, kind⟩ := State.cutClose_spec (s := s) (portOrigin port) none s.lmu.currents hk
    have fired : v.tripFired (portOrigin port) (v.beginTrip (portOrigin port) none s.lmu.currents) :=
      State.beginTrip_fired (s := v) (portOrigin_isCommand port)
    have mdr' := (answered _).trans (mdr.trans (State.beginTrip_mdr (portOrigin port) none s.lmu.currents v))
    refine ⟨_, record, v.newTrip (portOrigin port) none s.lmu.currents, placed, by rw [mdr'], rfl, rfl, rfl, rfl, rfl, by rw [mdr']; rfl,
      by rw [mdr'], by rw [mdr'], by rw [mdr']; rfl, by simpa using newestRecord, number, outcome, kind, ?_⟩
    rintro reported ⟨k, closing⟩
    obtain ⟨-, -, -, -, -, -, -, -, -, -, -, -, sequence⟩ := fired
    have closing' : v.sqc.sequence = .closing k := closing
    rw [closing'] at sequence
    obtain ⟨-, moved⟩ := sequence
    have reported' : v.sqc.reported = true := reported
    rw [State.rejudge_sqc, State.answer_sqc, sqc, moved, if_pos reported']
    rfl

end Sys2Proof.Machine
end

section
/-! PROOFS. The tag table: TAG PLACE and TAG REMOVE (R18, R61, R62, R91 to R96). -/

namespace Sys2Proof.Machine

/-! ### The elements' set and the announcement (R18, R93, R96) -/

section
variable {s : State}

/-- The active set follows the HOT_LINE entries (R18). -/
theorem State.tagsToOeb_spec (s : State) :
    s.tagsToOeb.oeb.hotActive = s.au.tags.any (fun x => x.kind == .hotLine)
      ∧ s.tagsToOeb.oeb = (if s.tagsToOeb.oeb.hotActive = s.oeb.hotActive then s.oeb else s.oeb.select s.tagsToOeb.oeb.hotActive)
      ∧ s.tagsToOeb.sqc = (if s.tagsToOeb.oeb.hotActive = s.oeb.hotActive then s.sqc else { s.sqc with picked := false }) := by
  unfold State.tagsToOeb
  dsimp only
  by_cases same : s.au.tags.any Tag.isHotLine = s.oeb.hotActive
  · rw [if_pos same]
    exact ⟨same.symm, by rw [if_pos rfl], by rw [if_pos rfl]⟩
  · rw [if_neg same]
    refine ⟨rfl, ?_, ?_⟩ <;> exact (if_neg (by exact same)).symm

/-- The whole table is asked for as an alarm, and the occurrence raised (R93, R96). -/
theorem State.announceTags_spec (s : State) :
    (s.announceTags.ports.cAlerts.lit .tagChanged ∧ s.announceTags.ports.pAlerts.lit .tagChanged)
      ∧ ∃ x ∈ s.announceTags.rpu.qAlarm ++ s.announceTags.rpu.held, x.kind = .alarm .tagTable
        ∧ x.payload = BitVec.ofNat 8 s.au.tags.length :: s.au.tags.flatMap Tag.brief := by
  refine ⟨by simp [State.announceTags], ?_⟩
  obtain ⟨x, hx, kind, payload⟩ := s.rpu.alarm_mem s.stamp .tagTable s.au.tagPayload
  exact ⟨x, hx, kind, payload.trans (by simp [Au.tagPayload, encList])⟩

/-! ### The sequence at a placement (R47, R61, R74) -/

theorem State.activationTest_keeps (s : State) : s.activationTest.sqc.reported = s.sqc.reported
    ∧ s.activationTest.sqc.afterCommand = s.sqc.afterCommand ∧ s.activationTest.sqc.picked = s.sqc.picked := by
  rcases s.activationTest_cases with h | ⟨staged, -, -, h⟩ <;> rw [h]
  · exact ⟨rfl, rfl, rfl⟩
  · rw [State.activate_sqc]
    exact ⟨rfl, rfl, rfl⟩

theorem State.enterLockout_keeps (cause : LockoutCause) (o : Origin) (s : State) : (s.enterLockout cause o).sqc.reported = s.sqc.reported
    ∧ (s.enterLockout cause o).sqc.afterCommand = s.sqc.afterCommand ∧ (s.enterLockout cause o).sqc.picked = s.sqc.picked := by
  unfold State.enterLockout
  split
  · exact ⟨rfl, rfl, rfl⟩
  · obtain ⟨reported, afterCommand, picked⟩ := State.activationTest_keeps
      (((((s.setSequence (.lockout cause)).newRecord .lockout o none none none).1.raise .lockout).alarm .lockout
        (cause.code :: be 1 ((s.setSequence (.lockout cause)).newRecord .lockout o none none none).1.sqc.shot
          ++ be 2 ((s.setSequence (.lockout cause)).newRecord .lockout o none none none).2)))
    exact ⟨reported.trans (by simp), afterCommand.trans (by simp), picked.trans (by simp)⟩

/-- READY is entered with the counter at 0 and the after-command flag clear (R61). -/
theorem State.enterReady_spec (s : State) : s.enterReady.sqc.sequence = .ready ∧ s.enterReady.sqc.shot = 0
    ∧ s.enterReady.sqc.afterCommand = false := by
  unfold State.enterReady
  rcases (((s.setSequence .ready).setShot 0).setAfterCommand false).activationTest_cases with h | ⟨staged, -, -, h⟩ <;> rw [h]
  · exact ⟨rfl, rfl, rfl⟩
  · rw [State.activate_sqc]
    exact ⟨rfl, Nat.zero_min _, rfl⟩

/-- What a placement without a close in flight does to the sequence (R61). -/
theorem State.tagToSequence_spec (hr : s.sqc.reported = true) : match s.sqc.sequence with
    | .ready | .reclaim _ => s.tagToSequence.sqc.sequence = .ready ∧ s.tagToSequence.sqc.shot = 0 ∧ s.tagToSequence.sqc.afterCommand = false
    | .interval _ | .energyWait _ =>
      s.tagToSequence.sqc.sequence = .lockout .tag ∧ s.tagToSequence.sqc.afterCommand = s.sqc.afterCommand
    | .tripping _ _ | .closing _ | .opened | .lockout _ => s.tagToSequence = s := by
  unfold State.tagToSequence
  rw [if_neg (by simp [hr])]
  cases hq : s.sqc.sequence with
  | ready | reclaim t => exact s.enterReady_spec
  | interval d | energyWait d =>
    exact ⟨(State.enterLockout_spec .tag (by simp [hq])).1, (State.enterLockout_keeps _ _ _).2.1⟩
  | tripping kind hot | closing kind | opened | lockout cause => rfl

/-- A placement leaves a sequence that trips, stands open or is locked out, and one without a report, as it is (R61, R63). -/
theorem State.tagToSequence_stays (h : s.sqc.reported = true → (∃ kind hot, s.sqc.sequence = .tripping kind hot) ∨ s.sqc.sequence = .opened
    ∨ ∃ cause, s.sqc.sequence = .lockout cause) : s.tagToSequence = s := by
  unfold State.tagToSequence
  split
  · rfl
  · next hr =>
    rcases h (by simpa using hr) with ⟨kind, hot, h⟩ | h | ⟨cause, h⟩ <;> rw [h]

theorem State.tripStarted_tag (s : State) : s.tripStarted [.tag] =
    if s.sqc.reported then (match s.sqc.sequence with
      | .ready | .reclaim _ | .closing _ => s.setSequence (.tripping .tag false)
      | .interval _ | .energyWait _ => s.enterLockout .tag .tag
      | .tripping _ _ | .opened | .lockout _ => s) else s := by
  unfold State.tripStarted
  cases s.sqc.reported with
  | false => rfl
  | true => cases s.sqc.sequence <;> rfl

/-- The sequence after a close has been cut by a tag. -/
theorem State.beginTrip_tag (e : Option Element) (c : Currents) (s : State) : (s.beginTrip .tag e c).sqc.reported = s.sqc.reported
    ∧ (s.sqc.reported = true → (match s.sqc.sequence with
      | .ready | .reclaim _ | .closing _ => (s.beginTrip .tag e c).sqc = { s.sqc with sequence := .tripping .tag false }
      | .interval _ | .energyWait _ => (s.beginTrip .tag e c).sqc.sequence = .lockout .tag
      | .tripping _ _ | .opened | .lockout _ => (s.beginTrip .tag e c).sqc = s.sqc))
    ∧ (s.sqc.reported = false → (s.beginTrip .tag e c).sqc = s.sqc) := by
  obtain ⟨-, -, sqc, -⟩ := State.tripPulsed_frame .tag e c s
  have begun : (s.beginTrip .tag e c).sqc = ((s.tripPulsed .tag e c).tripStarted [.tag]).sqc := by
    rw [State.beginTrip_eq]
    exact (State.operationStarted_rest _).2.1
  have lockout : (∀ held, s.sqc.sequence ≠ .lockout held) → ((s.tripPulsed .tag e c).enterLockout .tag .tag).sqc.sequence = .lockout .tag :=
    fun h => (State.enterLockout_spec .tag (by simpa [sqc] using h)).1
  have reported : ((s.tripPulsed .tag e c).enterLockout .tag .tag).sqc.reported = s.sqc.reported := by
    rw [(State.enterLockout_keeps _ _ _).1, sqc]
  rw [begun, State.tripStarted_tag, sqc]
  cases hr : s.sqc.reported with
  | false => simp [sqc, hr]
  | true =>
    cases hq : s.sqc.sequence <;> simp_all

/-- The sequence a cut close leaves takes no further notice of the tag. -/
theorem State.cutByTag_stays (e : Option Element) (c : Currents) {u : State} (h : u.sqc = (s.beginTrip .tag e c).sqc) : u.tagToSequence = u := by
  refine State.tagToSequence_stays fun hr => ?_
  obtain ⟨reported, moved, -⟩ := State.beginTrip_tag e c s
  rw [h] at hr ⊢
  have moved := moved (reported ▸ hr)
  cases hq : s.sqc.sequence with
  | ready | reclaim t | closing kind => rw [hq] at moved; exact .inl ⟨_, _, by rw [moved]⟩
  | interval d | energyWait d => rw [hq] at moved; exact .inr (.inr ⟨_, moved⟩)
  | tripping kind hot => rw [hq] at moved; exact .inl ⟨_, _, by rw [moved, hq]⟩
  | opened => rw [hq] at moved; exact .inr (.inl (by rw [moved, hq]))
  | lockout cause => rw [hq] at moved; exact .inr (.inr ⟨_, by rw [moved, hq]⟩)

theorem State.tagToMechanism_idle (h : ∀ op, s.mdr.op = some op → op.kind = .trip) : s.tagToMechanism = s := by
  unfold State.tagToMechanism
  split
  · next op hop => rw [h op hop]
  · rfl

theorem State.tagToMechanism_cut {op : Operation} (hop : s.mdr.op = some op) (hk : op.kind = .close) :
    s.tagToMechanism = s.cutClose .tag none s.lmu.currents op := by
  simp only [State.tagToMechanism, hop, hk]

end

/-! ### TAG PLACE (R92, R93) -/

section
variable {s : State}

theorem Au.freeSlot_none {a : Au} (h : ∀ n < 8, ∃ x ∈ a.tags, x.slot = n) : a.freeSlot = none := by
  simpa [Au.freeSlot] using h

theorem Au.freeSlot_some {a : Au} {slot : Nat} (h8 : slot < 8) (free : ∀ x ∈ a.tags, x.slot ≠ slot)
    (below : ∀ n < slot, ∃ x ∈ a.tags, x.slot = n) : a.freeSlot = some slot := by
  unfold Au.freeSlot
  rw [List.find?_range_eq_some]
  exact ⟨by simpa using free, by simpa using h8, by simpa using below⟩

/-- The checks of R92 in their order. -/
theorem tagBad_eq (kind crew : Nat) (note : List Byte) : tagBad kind crew note = firstFailing
    [kind == 1 || kind == 2, crew != 0, note.length ≤ 24 && note.all fun b => 0x20 ≤ b.toNat && b.toNat ≤ 0x7E] := by
  have known : within 1 2 kind = (kind == 1 || kind == 2) := by
    rw [within_eq, ← Bool.coe_iff_coe]
    simp only [decide_eq_true_eq, Bool.or_eq_true, beq_iff_eq]
    omega
  have text : (fun b : Byte => decide (0x20 ≤ b.toNat) && decide (b.toNat ≤ 0x7E)) = printable := by
    funext b
    simp [printable, within_eq]
  rw [tagBad, firstBad_eq, known, text]
  simp [within_eq]

/-- The entry a placement adds (R93). -/
def State.newTag (slot : Nat) (kind : TagKind) (origin : Port) (crew : Nat) (note : List Byte) (s : State) : Tag :=
  ⟨slot, kind, origin, crew, s.stamp, note, s.au.placements⟩

/-- The tag table as a placement leaves it, before the other units hear of it (R93, steps 1 and 2). -/
def State.tagAdded (slot : Nat) (kind : TagKind) (origin : Port) (crew : Nat) (note : List Byte) (s : State) : State :=
  (s.withAu fun a => a.addTag slot kind origin crew s.stamp note).dropCloses .tag

theorem State.placeTag_eq (slot : Nat) (kind : TagKind) (origin : Port) (crew : Nat) (note : List Byte) (s : State) :
    s.placeTag slot kind origin crew note
      = ((s.tagAdded slot kind origin crew note).tagToMechanism.tagToSequence.tagsToOeb.place (.tagSlot slot)).announceTags := rfl

theorem Panel.cancel_cancel (c d : CancelCause) (p : Panel) : (p.cancel c).cancel d = p.cancel c := by
  cases p <;> rfl

theorem State.tagToMechanism_au {added : State} (hs : added.au.selection = none) (hp : added.au.panel.cancel .trip = added.au.panel) :
    added.tagToMechanism.au = added.au := by
  unfold State.tagToMechanism
  repeat' split
  · next op _ hk =>
    rw [(State.cutClose_spec .tag none added.lmu.currents hk).2.2.1, State.beginTrip_eq]
    obtain ⟨au, -⟩ := State.tripPulsed_frame .tag none added.lmu.currents (added.withMdr fun m => { m with closeDrive := false })
    simp [au, hp, ← hs]
  · rfl
  · rfl

/-- What every placement leaves, whatever is in flight (R93). -/
theorem State.placeTag_spec {slot : Nat} {kind : TagKind} {origin : Port} {crew : Nat} {note : List Byte}
    (free : ∀ x ∈ s.au.tags, x.slot ≠ slot) {t : State} (ht : s.placeTag slot kind origin crew note = t) :
    t.au = { s.au with
        tags := s.au.tags ++ [s.newTag slot kind origin crew note], placements := min 4294967295 (s.au.placements + 1), selection := none
        panel := s.au.panel.cancel .tag }
      ∧ t.lmu = s.lmu ∧ t.clock = s.clock ∧ t.powered = s.powered ∧ t.pending = s.pending
      ∧ t.oeb.hotActive = t.au.tags.any (fun x => x.kind == .hotLine)
      ∧ t.ports.cAlerts.lit .tagChanged ∧ t.ports.pAlerts.lit .tagChanged
      ∧ (.tagSlot slot (some (s.newTag slot kind origin crew note)) ∈ t.nvs.queue
        ∨ t.nvs.writing = some ⟨.tagSlot slot (some (s.newTag slot kind origin crew note)), false⟩)
      ∧ ∃ x ∈ t.rpu.qAlarm ++ t.rpu.held, x.kind = .alarm .tagTable
          ∧ x.payload = BitVec.ofNat 8 t.au.tags.length :: t.au.tags.flatMap Tag.brief := by
  subst ht
  have au : (s.tagAdded slot kind origin crew note).tagToMechanism.au = (s.tagAdded slot kind origin crew note).au :=
    State.tagToMechanism_au rfl (Panel.cancel_cancel _ _ _)
  have table : (s.placeTag slot kind origin crew note).au = (s.tagAdded slot kind origin crew note).au := by
    rw [State.placeTag_eq]
    simp [au]
  obtain ⟨⟨cLit, pLit⟩, asked⟩ := State.announceTags_spec
    ((s.tagAdded slot kind origin crew note).tagToMechanism.tagToSequence.tagsToOeb.place (.tagSlot slot))
  refine ⟨table, ?_, ?_, ?_, ?_, ?_, cLit, pLit, ?_, asked⟩
  · rw [State.placeTag_eq]; simp [State.tagAdded]
  · rw [State.placeTag_eq]; simp [State.tagAdded]
  · rw [State.placeTag_eq]; simp [State.tagAdded]
  · rw [State.placeTag_eq]; simp [State.tagAdded]
  · obtain ⟨hot, -⟩ := State.tagsToOeb_spec (s.tagAdded slot kind origin crew note).tagToMechanism.tagToSequence
    rw [State.placeTag_eq]
    simpa using hot
  · have content : (s.tagAdded slot kind origin crew note).tagToMechanism.tagToSequence.tagsToOeb.content (.tagSlot slot)
        = .tagSlot slot (some (s.newTag slot kind origin crew note)) := by
      have absent : s.au.tags.find? (fun t => t.slot == slot) = none := by simpa using free
      simp only [State.content, State.tagsToOeb_frame, State.tagToSequence_frame, au]
      simp [State.tagAdded, Au.addTag, State.newTag, List.find?_append, absent]
    rw [State.placeTag_eq, ← content]
    simpa using Nvs.place_mem _ _

/-- A placement with no close in flight (R61, R93). -/
theorem State.placeTag_idle {slot : Nat} {kind : TagKind} {origin : Port} {crew : Nat} {note : List Byte}
    (idle : ∀ op, s.mdr.op = some op → op.kind = .trip) {t : State} (ht : s.placeTag slot kind origin crew note = t) :
    t.mdr = s.mdr ∧ t.oeb = (if t.oeb.hotActive = s.oeb.hotActive then s.oeb else s.oeb.select t.oeb.hotActive)
      ∧ (s.sqc.reported = true → (match s.sqc.sequence with
        | .ready | .reclaim _ => t.sqc.sequence = .ready ∧ t.sqc.shot = 0 ∧ t.sqc.afterCommand = false
        | .interval _ | .energyWait _ => t.sqc.sequence = .lockout .tag ∧ t.sqc.afterCommand = s.sqc.afterCommand
        | .tripping _ _ | .closing _ | .opened | .lockout _ =>
          t.sqc = (if t.oeb.hotActive = s.oeb.hotActive then s.sqc else { s.sqc with picked := false }))) := by
  subst ht
  have same : (s.tagAdded slot kind origin crew note).tagToMechanism = s.tagAdded slot kind origin crew note :=
    State.tagToMechanism_idle (by exact idle)
  rw [State.placeTag_eq, same]
  obtain ⟨-, oeb, sqc⟩ := State.tagsToOeb_spec (s.tagAdded slot kind origin crew note).tagToSequence
  have oeb₀ : (s.tagAdded slot kind origin crew note).tagToSequence.oeb = s.oeb := by simp [State.tagAdded]
  rw [oeb₀] at oeb sqc
  refine ⟨by simp [State.tagAdded], by simpa using oeb, fun hr => ?_⟩
  have moved := State.tagToSequence_spec (s := s.tagAdded slot kind origin crew note) hr
  simp only [State.announceTags_frame, State.place_sqc, State.place_oeb]
  have keeps : (s.tagAdded slot kind origin crew note).tagToSequence.tagsToOeb.sqc.sequence = (s.tagAdded slot kind origin crew note).tagToSequence.sqc.sequence
      ∧ (s.tagAdded slot kind origin crew note).tagToSequence.tagsToOeb.sqc.shot = (s.tagAdded slot kind origin crew note).tagToSequence.sqc.shot
      ∧ (s.tagAdded slot kind origin crew note).tagToSequence.tagsToOeb.sqc.afterCommand
        = (s.tagAdded slot kind origin crew note).tagToSequence.sqc.afterCommand := by
    rw [sqc]
    split <;> exact ⟨rfl, rfl, rfl⟩
  obtain ⟨sequence, shot, afterCommand⟩ := keeps
  have at_ : (s.tagAdded slot kind origin crew note).sqc = s.sqc := rfl
  rw [at_] at moved
  cases hq : s.sqc.sequence <;> rw [hq] at moved <;> dsimp only at moved ⊢
  case ready => rw [sequence, shot, afterCommand]; exact moved
  case reclaim => rw [sequence, shot, afterCommand]; exact moved
  case interval => rw [sequence, afterCommand]; exact moved
  case energyWait => rw [sequence, afterCommand]; exact moved
  all_goals
    rw [moved] at sqc ⊢
    rw [← hq]
    exact sqc

/-- A placement that cuts a close (R74, R93). -/
theorem State.placeTag_cut {slot : Nat} {kind : TagKind} {origin : Port} {crew : Nat} {note : List Byte} {op : Operation}
    (hop : s.mdr.op = some op) (hk : op.kind = .close) {t : State} (ht : s.placeTag slot kind origin crew note = t) :
    ∃ new cut, t.mdr.op = some new ∧ new.kind = .trip ∧ new.origins = [.tag]
      ∧ t.oru.ring.getLast? = some cut ∧ cut.number = op.number ∧ cut.outcome = some .cut
      ∧ (s.sqc.reported = true → (match s.sqc.sequence with
        | .ready | .reclaim _ | .closing _ => t.sqc.sequence = .tripping .tag false ∧ t.sqc.shot = s.sqc.shot
        | .interval _ | .energyWait _ => t.sqc.sequence = .lockout .tag
        | .tripping _ _ | .opened | .lockout _ =>
          t.sqc = (if t.oeb.hotActive = s.oeb.hotActive then s.sqc else { s.sqc with picked := false }))) := by
  subst ht
  let v := (s.tagAdded slot kind origin crew note).withMdr fun m => { m with closeDrive := false }
  have cutting : (s.tagAdded slot kind origin crew note).tagToMechanism
      = (s.tagAdded slot kind origin crew note).cutClose .tag none s.lmu.currents op := State.tagToMechanism_cut (by exact hop) hk
  obtain ⟨mdr, sqc, au, cut, newest, number, outcome, -⟩ := State.cutClose_spec (s := s.tagAdded slot kind origin crew note) .tag none s.lmu.currents hk
  have stays := State.cutByTag_stays (s := v) none s.lmu.currents sqc
  rw [State.placeTag_eq, cutting, stays]
  refine ⟨v.newTrip .tag none s.lmu.currents, cut, ?_, rfl, rfl, by simpa using newest, number, outcome, fun hr => ?_⟩
  · simp only [State.announceTags_frame, State.place_mdr, State.tagsToOeb_frame, mdr, State.beginTrip_mdr, v]
  · obtain ⟨-, -, followed⟩ := State.tagsToOeb_spec ((s.tagAdded slot kind origin crew note).cutClose .tag none s.lmu.currents op)
    have hot : ((s.tagAdded slot kind origin crew note).cutClose .tag none s.lmu.currents op).oeb.hotActive = s.oeb.hotActive := by
      obtain ⟨-, -, -, -, oeb, -⟩ := State.tripPulsed_frame .tag none s.lmu.currents v
      have kept : (v.beginTrip .tag none s.lmu.currents).oeb = s.oeb.pulseStart := by
        rw [State.beginTrip_eq]
        exact (by simp : _ = (v.tripPulsed .tag none s.lmu.currents).oeb).trans oeb
      have handed : ((s.tagAdded slot kind origin crew note).cutClose .tag none s.lmu.currents op).oeb
          = (v.beginTrip .tag none s.lmu.currents).oeb := by simp [State.cutClose, v]
      rw [handed, kept]
      rfl
    rw [hot, sqc] at followed
    obtain ⟨-, moved, -⟩ := State.beginTrip_tag none s.lmu.currents v
    have moved := moved hr
    have keeps : ((s.tagAdded slot kind origin crew note).cutClose .tag none s.lmu.currents op).tagsToOeb.sqc.sequence
          = (v.beginTrip .tag none s.lmu.currents).sqc.sequence
        ∧ ((s.tagAdded slot kind origin crew note).cutClose .tag none s.lmu.currents op).tagsToOeb.sqc.shot
          = (v.beginTrip .tag none s.lmu.currents).sqc.shot := by
      rw [followed]
      split <;> exact ⟨rfl, rfl⟩
    obtain ⟨sequence, shot⟩ := keeps
    simp only [State.announceTags_frame, State.place_sqc, State.place_oeb]
    have at_ : v.sqc = s.sqc := rfl
    rw [at_] at moved
    cases hq : s.sqc.sequence <;> rw [hq] at moved <;> dsimp only at moved ⊢
    case interval => rw [sequence, moved]
    case energyWait => rw [sequence, moved]
    case ready => rw [sequence, shot, moved]; exact ⟨rfl, rfl⟩
    case reclaim => rw [sequence, shot, moved]; exact ⟨rfl, rfl⟩
    case closing => rw [sequence, shot, moved]; exact ⟨rfl, rfl⟩
    all_goals
      rw [moved] at followed
      rw [← hq]
      exact followed

end

/-- What an answer and the judgement of the radio leave of the reports and the alert sets. -/
theorem State.answered_reports (port : Port) (a : Answer) (t : State) :
    (t.answer port a).rejudge.rpu.qAlarm = t.rpu.qAlarm ∧ (t.answer port a).rejudge.rpu.held = t.rpu.held
      ∧ (t.answer port a).rejudge.ports.cAlerts = t.ports.cAlerts ∧ (t.answer port a).rejudge.ports.pAlerts = t.ports.pAlerts := by
  have judged := State.rejudge_supplyAs (t.answer port a) t
  have qAlarm := congrArg (fun u : State => u.rpu.qAlarm) judged
  have held := congrArg (fun u : State => u.rpu.held) judged
  cases port <;> exact ⟨qAlarm, held, rfl, rfl⟩

/-- Settles O17: the checks of R92 in their order, and the placement with and without a close in flight. -/
theorem tagPlaceActsThroughout : Obligations.TagPlaceActsThroughout := by
  intro src ref kind crew note port s c bad k duplicate ht
  have bad_eq : tagBad kind crew note = bad := tagBad_eq kind crew note
  have known : tagKindOf kind = k := rfl
  have duplicate_iff : (s.au.tags.any fun t => t.crew == crew && t.kind == k) = true ↔ duplicate := by simp [duplicate]
  refine ⟨fun n hn => ?_, fun hn dup => ?_, fun hn dup full => ?_, fun slot hn dup small free below => ?_⟩
  · refine State.refuses_invalid (kind := .tagPlace) rfl (by rfl) ht ?_
    simp only [bad_eq, hn]
  · refine State.refuses_of_owner (kind := .tagPlace) rfl (by rfl) ht ?_
    simp only [bad_eq, hn, known, duplicate_iff.mpr dup, if_true]
    rfl
  · refine State.refuses_of_owner (kind := .tagPlace) rfl (by rfl) ht ?_
    simp only [bad_eq, hn, known, mt duplicate_iff.mp dup, Au.freeSlot_none full]
    rfl
  · intro entry
    have takes : s.takes .tagPlace src port := State.taken_elim rfl ht
    have placed : exec c s = .next ((s.placeTag slot k port crew note).answer port ⟨0x07, ref, .done, [BitVec.ofNat 8 slot]⟩).rejudge := by
      change act (respond .tagPlace src ref _) s = _
      rw [act_powered takes.1, respond_takes takes]
      simp only [bad_eq, hn, known, mt duplicate_iff.mp dup, if_false, Au.freeSlot_some small free below, Taken.done, Bool.false_eq_true]
      simp [be, RequestKind.code]
    obtain ⟨au, lmu, clock, powered, pending, hot, cLit, pLit, queued, asked⟩ :=
      State.placeTag_spec (s := s) (slot := slot) (kind := k) (origin := port) (crew := crew) (note := note) free rfl
    obtain ⟨qAlarm, held, cAlerts, pAlerts⟩ :=
      State.answered_reports port ⟨0x07, ref, .done, [BitVec.ofNat 8 slot]⟩ (s.placeTag slot k port crew note)
    refine ⟨_, placed, State.answered_newest _ _ _, ?_⟩
    simp only [State.rejudge_au, State.rejudge_lmu, State.rejudge_clock, State.rejudge_powered, State.rejudge_pending, State.rejudge_oeb,
      State.rejudge_sqc, State.rejudge_mdr, State.rejudge_oru, State.rejudge_nvs, State.answer_au, State.answer_lmu, State.answer_clock,
      State.answer_powered, State.answer_pending, State.answer_oeb, State.answer_sqc, State.answer_mdr, State.answer_oru, State.answer_nvs]
    rw [qAlarm, held, cAlerts, pAlerts]
    exact ⟨au, lmu, clock, powered.trans takes.1, pending, hot, cLit, pLit, queued, asked,
      fun idle => ⟨(State.placeTag_idle idle rfl).1, (State.placeTag_idle idle rfl).2.1⟩, fun op hop hk => State.placeTag_cut hop hk rfl,
      fun idle => (State.placeTag_idle idle rfl).2.2⟩

/-! ### TAG REMOVE (R95, R96) -/

theorem State.removeTag_eq (slot : Nat) (s : State) :
    let left := s.au.tags.filter fun y => y.slot != slot
    let hot := left.any fun y => y.kind == .hotLine
    let u : State := { s with
      au := { s.au with tags := left }
      oeb := if hot = s.oeb.hotActive then s.oeb else s.oeb.select hot
      sqc := if hot = s.oeb.hotActive then s.sqc else { s.sqc with picked := false } }
    s.removeTag slot = ((u.place (.tagSlot slot)).alarm .tagTable (BitVec.ofNat 8 left.length :: left.flatMap Tag.brief)).raise .tagChanged := by
  intro left hot u
  have followed : (s.withAu fun a => { a with tags := left }).tagsToOeb = u := by
    unfold State.tagsToOeb
    change (if hot = s.oeb.hotActive then _ else _) = _
    by_cases same : hot = s.oeb.hotActive
    · simp only [u, if_pos same]; rfl
    · simp only [u, if_neg same]; rfl
  exact congrArg (fun v : State => (v.place (.tagSlot slot)).announceTags) followed

theorem mayRemove_iff (port origin : Port) : mayRemove port origin = true ↔ port = .p ∨ (origin = port ∧ origin ≠ .p) := by
  cases port <;> cases origin <;> decide

theorem State.crewMayRemove_iff (port : Port) (crew : Nat) (t : Tag) (s : State) :
    s.crewMayRemove port crew t = true ↔ (t.crew = crew ∧ t.crew ≠ 0) ∨ (port = .p ∧ s.au.supervisorHeld = true) := by
  simp [State.crewMayRemove]

/-- Settles O18: the checks of R95 in their order. -/
theorem tagRemoveChecksAuthority : Obligations.TagRemoveChecksAuthority := by
  intro src ref slot crew port s c ht
  refine ⟨fun big => ?_, fun small none => ?_, fun x small found => ⟨fun refused => ?_, fun may can => ?_⟩⟩
  · refine State.refuses_invalid rfl rfl ht (n := 1) ?_
    simp only [big, if_true]
  · refine State.refuses_of_owner (kind := .tagRemove) rfl (by rfl) ht ?_
    have absent : s.au.tags.find? (fun t => t.slot == slot) = Option.none := by simpa using none
    simp only [Nat.not_le.mpr small, if_false, absent]
    rfl
  · refine State.refuses_of_owner (kind := .tagRemove) rfl (by rfl) ht ?_
    simp only [Nat.not_le.mpr small, if_false, found]
    by_cases may : mayRemove port x.origin = true
    · have not : ¬ s.crewMayRemove port crew x = true := by
        rw [State.crewMayRemove_iff]
        rcases refused with no | ⟨no, not⟩
        · exact absurd ((mayRemove_iff _ _).mp may) no
        · rintro (⟨same, real⟩ | held)
          · exact no.elim (· same) real
          · exact not held
      simp only [may, not, Bool.not_true, Bool.false_eq_true, if_false, Bool.not_false, if_true]
      rfl
    · simp only [may, Bool.not_false, if_true]
      rfl
  · intro left hot u
    refine State.completes_of_owner (kind := .tagRemove) rfl (by rfl) ht (v := s.removeTag slot) ?_ ?_ ?_
    · simp only [Nat.not_le.mpr small, if_false, found, (mayRemove_iff _ _).mpr may, (s.crewMayRemove_iff port crew x).mpr can, Bool.not_true,
        Bool.false_eq_true]
      rfl
    · rw [State.removeTag_eq, State.raise_answersAs, State.alarm_answersAs, State.place_answersAs]
      rfl
    · exact State.answersAt_of (by simp [State.removeTag]) (by simp [State.removeTag])

end Sys2Proof.Machine
end

section
/-! PROOFS. Battery settings, replacement, the verdict, the start of a test, the day count and the windows (R120 to R122, R126, R128 to R131). -/

namespace Sys2Proof.Machine

/-! ### States alike in their answers and their radio supply -/

section
variable {s t : State}

/-- A state that differs from another in its reports only has the other's radio supply. -/
theorem State.supplyAs_same (hr : t.rpu.unpooled = s.rpu.unpooled) (hp : t.ports.lPartial = s.ports.lPartial) : t.supplyAs s = t := by
  have radio := congrArg Rpu.radio hr
  have holdoff := congrArg Rpu.holdoff hr
  have wait := congrArg Rpu.channelWait hr
  change t.rpu.radio = s.rpu.radio at radio
  change t.rpu.holdoff = s.rpu.holdoff at holdoff
  change t.rpu.channelWait = s.rpu.channelWait at wait
  unfold State.supplyAs
  rw [← radio, ← holdoff, ← wait, ← hp]

/-- A state that differs from another in its reports and its occurrences only has the other's answers and radio supply. -/
theorem State.answersAs_same (hr : t.rpu.unpooled = s.rpu.unpooled) (hp : t.ports.unflagged = s.ports.unflagged) : t.answersAs s = t := by
  have partial_ := congrArg Ports.lPartial hp
  have cAnswers := congrArg Ports.cAnswers hp
  have pAnswers := congrArg Ports.pAnswers hp
  have answers := congrArg Rpu.answers hr
  change t.ports.lPartial = s.ports.lPartial at partial_
  change t.ports.cAnswers = s.ports.cAnswers at cAnswers
  change t.ports.pAnswers = s.ports.pAnswers at pAnswers
  change t.rpu.answers = s.rpu.answers at answers
  unfold State.answersAs
  rw [State.supplyAs_same hr partial_, ← cAnswers, ← pAnswers, ← answers]

variable {c : Instr} {kind : RequestKind} {src : Source} {ref : Byte} {port : Port} {owner : Port → State → Taken} {code : Code} {body : List Byte}

/-- A request whose owner leaves the RPU and the ports alone, but for reports and occurrences, completes with the owner's state. -/
theorem State.completes_as (hc : c.request = some (kind, src, ref)) (he : exec c s = act (respond kind src ref owner) s)
    (ht : s.taken c port) {v : State} (ho : owner port s = ⟨v, some (code, body)⟩) (hr : v.rpu.unpooled = s.rpu.unpooled)
    (hp : v.ports.unflagged = s.ports.unflagged) : s.completes c port code body v :=
  State.completes_of_owner hc he ht ho (State.answersAs_same hr hp) (State.answersAt_of hr hp)

/-- An event that leaves the RPU and the ports alone, but for reports, occurrences and answers, leads to its effect. -/
theorem State.leads_as {f : State → State} (hp : s.powered = true) (he : exec c s = act f s) {v : State} (hf : f s = v)
    (hr : v.rpu.unpooled = s.rpu.unpooled) (hl : v.ports.lPartial = s.ports.lPartial) : s.leads c v :=
  State.leads_of hp he (by rw [hf, State.supplyAs_same hr hl])

end

/-! ### The verdict (R129) -/

section
variable (u : State)

theorem BatteryRecord.prefailing_isEmpty (b : BatteryRecord) : b.prefailing.isEmpty = true ↔ b.prefailing = [] := List.isEmpty_iff

theorem State.judgeVerdict_same (h : u.bcu.stored.prefailing ≠ [] ↔ u.bcu.failing = true) : u.judgeVerdict = u := by
  unfold State.judgeVerdict
  refine if_pos ?_
  rw [Bool.eq_iff_iff, ← h]
  simp

theorem State.judgeVerdict_failing (bad : u.bcu.stored.prefailing ≠ []) (good : u.bcu.failing = false) : u.judgeVerdict
    = (State.alarm .batteryFailing (encList (fun p => be 1 p.1 ++ be 1 p.2) u.bcu.stored.prefailing)
        { u with bcu := { u.bcu with failing := true } }).raise .batteryVerdict := by
  have now : (!u.bcu.stored.prefailing.isEmpty) = true := by simpa using bad
  unfold State.judgeVerdict
  simp only [now, good, Bool.true_eq_false, if_false, if_true]
  rfl

theorem State.judgeVerdict_good (bad : u.bcu.stored.prefailing = []) (failing : u.bcu.failing = true) : u.judgeVerdict
    = State.event .verdictGood [] { u with bcu := { u.bcu with failing := false } } := by
  have now : (!u.bcu.stored.prefailing.isEmpty) = false := by simpa using bad
  unfold State.judgeVerdict
  simp only [now, failing, Bool.false_eq_true, if_false]
  rfl

/-- Judging the verdict touches the verdict alone of the battery's state. -/
theorem State.judgeVerdict_bcu : u.judgeVerdict.bcu = { u.bcu with failing := u.judgeVerdict.bcu.failing } := by
  unfold State.judgeVerdict
  dsimp only
  repeat' split
  all_goals rfl

end

/-- Settles O23: the checks of Table 6-7, a replacement, and the verdict by the attributes that fall short. -/
theorem batteryRequestsActAtOnce : Obligations.BatteryRequestsActAtOnce := by
  refine ⟨fun src ref bulk taper vFloat vAbs interval floor rated t1 t2 t3 t4 t5 t6 t7 t8 port s => ?_, fun src ref port s ht => ?_,
    fun u => ?_⟩
  · intro fields c ht range bad
    have checks : badField 15 batteryChecks fields = bad := by
      refine (firstBad_eq _).trans ?_
      simp [bad, fields, batteryChecks, range, within_eq, List.range_succ, Bool.decide_and]
    refine ⟨fun n hb => ?_, fun hb => ?_⟩
    · exact State.refuses_invalid (kind := .batterySettings) rfl (by rfl) ht (by simp only [checks.trans hb])
    · intro r u
      have bcu : u.bcu = { s.bcu with stored := { s.bcu.stored with settings := r }, failing := u.bcu.failing } := State.judgeVerdict_bcu _
      have kept : u.bcu.stored.settings.interval = interval ∧ u.bcu.stored.days = s.bcu.stored.days ∧ u.bcu.nextAttempt = s.bcu.nextAttempt := by
        rw [bcu]
        exact ⟨rfl, rfl, rfl⟩
      obtain ⟨same, days, attempt⟩ := kept
      have due : u.bcu.scheduleDue = (interval != 0 && decide (interval ≤ s.bcu.stored.days)) := by rw [Bcu.scheduleDue, same, days]
      have rpu : u.rpu.unpooled = s.rpu.unpooled := by simp [u]
      have ports : u.ports.unflagged = s.ports.unflagged := by simp [u]
      refine State.completes_as (kind := .batterySettings) rfl (by rfl) ht ?_ ?_ ?_
      · simp only [checks.trans hb]
        refine congrArg (Taken.code .done) ?_
        change (if u.bcu.stored.settings.interval = 0 then _ else if u.bcu.scheduleDue then u.attempt false else u) = _
        rw [same, due]
        by_cases off : interval = 0
        · rw [if_pos off, if_pos off, ← attempt]
          have filtered : u.bcu.nextAttempt.filter (fun a => a.retry)
              = (match u.bcu.nextAttempt with
                | some a => if a.retry then some a else none
                | none => none) := by
            cases u.bcu.nextAttempt <;> rfl
          exact congrArg (fun n => ({ u with bcu := { u.bcu with nextAttempt := n } } : State)) filtered
        · simp [off]
      · split
        · exact rpu
        · split <;> simpa using rpu
      · split
        · exact ports
        · split <;> simpa using ports
  · intro c fresh noKey
    have key : (decide (port = .p) && !s.au.supervisorHeld) = true ↔ noKey := by
      cases port <;> simp [noKey]
    refine ⟨fun h => ?_, fun h running => ?_, fun h idle => ?_⟩
    · refine State.refuses_of_owner (kind := .batteryReplaced) rfl (by rfl) ht ?_
      simp only [key.mpr h, if_true]
      rfl
    · refine State.refuses_of_owner (kind := .batteryReplaced) rfl (by rfl) ht ?_
      simp only [mt key.mp h, Option.isSome_iff_ne_none.mpr running, if_true, Bool.false_eq_true, if_false]
      rfl
    · refine State.completes_as (kind := .batteryReplaced) rfl (by rfl) ht ?_ ?_ ?_
      · rw [if_neg (mt key.mp h), if_neg (by simp [idle])]
        rfl
      · simp
      · simp
  · intro below bad becomes
    have bad_eq : u.bcu.stored.prefailing = bad := rfl
    refine ⟨fun h => u.judgeVerdict_same (by rw [bad_eq]; exact h), fun h good => ?_, fun h failing => u.judgeVerdict_good (bad_eq.trans h) failing⟩
    rw [u.judgeVerdict_failing (by rw [bad_eq]; exact h) good, bad_eq]
    have payload : encList (fun p : Nat × Nat => be 1 p.1 ++ be 1 p.2) bad
        = BitVec.ofNat 8 bad.length :: bad.flatMap fun p => [BitVec.ofNat 8 p.1, BitVec.ofNat 8 p.2] := by simp [encList, be]
    exact congrArg (fun p => ((becomes true).alarm .batteryFailing p).raise .batteryVerdict) payload

/-! ### BATTERY TEST (R120, R122, R126, Table 6-5) -/

section
variable {s : State}

/-- The row of Table 6-5 that a failing condition has (log 19). -/
def Precondition.answer (p : Precondition) : Code × List Byte := if p = .busy then (.busy, []) else (.conditions, [p.code])

theorem Taken.precondition_eq (p : Precondition) (s : State) : Taken.precondition p s = ⟨s, some p.answer⟩ := by
  unfold Taken.precondition Precondition.answer
  split <;> rfl

/-- The first failing condition's answer is the first of the conditions' answers. -/
theorem firstOf_step {p : Precondition} {l : List (Bool × Code × List Byte)} {x : Option Precondition} (h : x.map Precondition.answer = firstOf l)
    (fails : Prop) [Decidable fails] {b : Bool} (hb : b = decide fails) :
    (if fails then some p else x).map Precondition.answer = firstOf ((b, p.answer) :: l) := by
  subst hb
  by_cases f : fails
  · simp [firstOf, f]
  · simpa [firstOf, f] using h

/-- Table 6-5 in its order. -/
theorem State.precondition_answer (s : State) : s.precondition.map Precondition.answer = firstOf
    [(s.bcu.test.isSome, (Code.busy, ([] : List Byte))), (!s.bcu.acPresent, (.conditions, [2])),
     (!(match s.bcu.charger with | .float since _ => decide (since + 3600000000 ≤ s.now) | _ => false), (.conditions, [3])),
     (s.bcu.tier != .normal, (.conditions, [4])), (s.mdr.rechargeSince.isSome, (.conditions, [5])),
     (s.mdr.estimate < s.mdr.settings.eClose + s.mdr.settings.eTrip, (.conditions, [6])),
     (!(match s.sqc.sequence with | .ready | .opened | .lockout _ => true | _ => false), (.conditions, [7]))] := by
  have given (b : Bool) : b = decide (b = true) := by simp
  unfold State.precondition
  refine firstOf_step (p := .busy) (firstOf_step (p := .noAc) (firstOf_step (p := .notFloating) (firstOf_step (p := .tier)
    (firstOf_step (p := .recharge) (firstOf_step (p := .energy) (firstOf_step (p := .sequence) rfl _ ?_) _ ?_) _ ?_) _ ?_) _ ?_) _ ?_) _ ?_
  · exact given _
  · rfl
  · exact given _
  · exact given _
  · exact given _
  · exact given _
  · exact given _

theorem State.startTest_eq (s : State) (mode : TestMode) (port : Option Port) : s.startTest mode port
    = State.place .battery { s with bcu := { s.bcu with
      test := some ⟨mode, port, .rest (s.now + 10000000), 0, none⟩, charger := .testHold, loadOn := false, nextAttempt := none
      stored := { s.bcu.stored with pending := true } } } := rfl

end

/-- Settles O25: the refusals of Table 6-5, and the test in either mode. -/
theorem batteryTestStartsOnItsConditions : Obligations.BatteryTestStartsOnItsConditions := by
  intro src ref mode port s ht c floated resting refusal started
  have judged : s.precondition.map Precondition.answer = refusal := s.precondition_answer
  have takes : s.takes .batteryTest src port := State.taken_elim rfl ht
  have begun (m : TestMode) (p : Option Port) : s.startTest m p = started m p := s.startTest_eq m p
  let owner (port : Port) (s : State) : Taken :=
    if mode = 1 && port = .l then .code .notPermitted s
    else if !within 1 2 mode then .invalid 1 s
    else match s.precondition with
      | some p => .precondition p s
      | none =>
        if mode = 1 then ⟨(s.startTest .attended (some port)).beginHold port ref, none⟩
        else .code .accepted (s.startTest .background none)
  have owned : exec c s = act (respond .batteryTest src ref owner) s := rfl
  have allowed (h : (mode = 1 ∧ port ≠ .l) ∨ mode = 2) : owner port s = match s.precondition with
      | some p => .precondition p s
      | none =>
        if mode = 1 then ⟨(s.startTest .attended (some port)).beginHold port ref, none⟩
        else .code .accepted (s.startTest .background none) := by
    have here : ¬ (decide (mode = 1) && decide (port = .l)) = true := by
      rcases h with ⟨-, h⟩ | h <;> simp [h]
    have known : ¬ (!within 1 2 mode) = true := by
      rcases h with ⟨h, -⟩ | h <;> simp [within, h]
    exact (if_neg here).trans (if_neg known)
  have fits (h : refusal = none) : s.precondition = none := by
    rw [h] at judged
    exact Option.map_eq_none_iff.mp judged
  refine ⟨fun attended radio => ?_, fun notOne notTwo => ?_, fun code body may refused => ?_, fun background none => ?_,
    fun attended wired none => ?_⟩
  · refine State.refuses_of_owner rfl owned ht ?_
    simp only [owner, attended, radio, decide_true, Bool.and_self, if_true]
    rfl
  · refine State.refuses_invalid rfl owned ht ?_
    have unknown : (!within 1 2 mode) = true := by
      simp only [within_eq, Bool.not_eq_true', decide_eq_false_iff_not]
      omega
    have : (decide (mode = 1) && decide (port = .l)) = false := by simp [notOne]
    simp only [owner, this, unknown, Bool.false_eq_true, if_false, if_true]
  · refine State.refuses_of_owner rfl owned ht ?_
    rw [allowed may]
    rw [refused] at judged
    obtain ⟨p, hp, answer⟩ := Option.map_eq_some_iff.mp judged
    rw [hp]
    exact (Taken.precondition_eq p s).trans (by rw [answer])
  · refine State.completes_as rfl owned ht (v := started .background Option.none) ?_ rfl rfl
    rw [allowed (.inr background), fits none]
    simp only [background, OfNat.ofNat_ne_one, if_false]
    rfl
  · have done : exec c s = .next ((started .attended (some port)).beginHold port ref).rejudge := by
      rw [owned, act_powered takes.1, respond_takes takes, allowed (.inl ⟨attended, wired⟩), fits none]
      simp only [attended, if_true, begun]
    refine ⟨_, done, fun q => ?_, ?_, ?_⟩
    · rw [State.rejudge_answersAt]
      cases port <;> cases q <;> rfl
    · rintro rfl
      rw [State.rejudge_answersAs]
      rfl
    · rintro rfl
      rw [State.rejudge_answersAs]
      rfl

/-! ### The day count, the attempts and the windows (R121, R128) -/

section
variable (s : State)

theorem State.attributeUpdate_stored (f : Attributes → Attributes) : (s.attributeUpdate f).bcu.stored
    = { s.bcu.stored with attributes := f s.bcu.stored.attributes } := by
  have bcu := State.judgeVerdict_bcu (s.withAttributes f)
  have stored := congrArg Bcu.stored bcu
  exact stored

theorem State.attributeUpdate_outside (f : Attributes → Attributes) : (s.attributeUpdate f).rpu.unpooled = s.rpu.unpooled
    ∧ (s.attributeUpdate f).ports.lPartial = s.ports.lPartial := by
  have unflagged : (s.attributeUpdate f).ports.unflagged = s.ports.unflagged := by simp [State.attributeUpdate, State.withAttributes]
  have lPartial := congrArg Ports.lPartial unflagged
  exact ⟨by simp [State.attributeUpdate, State.withAttributes], lPartial⟩

/-- One day more, stored, with the health value of the days (R121). -/
def State.dayCounted (s : State) : State :=
  ((s.withBcu fun b => { b with nextDay := b.nextDay + day }).withStored fun b =>
    { b with days := satSucc 65535 s.bcu.stored.days }).attributeUpdate (·.setDays (satSucc 65535 s.bcu.stored.days))

theorem State.dayPassed_eq : s.dayPassed = if s.dayCounted.bcu.scheduleDue then s.dayCounted.attempt false else s.dayCounted := rfl

theorem State.dayCounted_due : s.dayCounted.bcu.scheduleDue = true
    ↔ s.bcu.stored.settings.interval ≠ 0 ∧ s.bcu.stored.settings.interval ≤ min 65535 (s.bcu.stored.days + 1) := by
  unfold Bcu.scheduleDue State.dayCounted
  rw [State.attributeUpdate_stored]
  simp [satSucc]

end

/-- Settles O28: the day, the attempt that is due, the float window and the hot hour. -/
theorem batteryCountsAndSchedule : Obligations.BatteryCountsAndSchedule := by
  intro s hp write days hours mean setAttribute later
  refine ⟨?_, fun a ha => ?_, fun full => ?_, fun full => ?_⟩
  · have counted : later = (s.reach s.bcu.nextDay).dayCounted := rfl
    have due := (s.reach s.bcu.nextDay).dayCounted_due
    obtain ⟨rpu, ports⟩ : (s.reach s.bcu.nextDay).dayCounted.rpu.unpooled = s.rpu.unpooled
      ∧ (s.reach s.bcu.nextDay).dayCounted.ports.lPartial = s.ports.lPartial := State.attributeUpdate_outside _ _
    rw [counted]
    refine State.leads_as (f := fun s => (s.reach s.bcu.nextDay).dayPassed) hp (by rfl) ((State.dayPassed_eq _).trans ?_) ?_ ?_
    · by_cases h : (s.reach s.bcu.nextDay).dayCounted.bcu.scheduleDue = true
      · exact (if_pos h).trans (if_pos (due.mp h)).symm
      · exact (if_neg h).trans (if_neg (mt due.mpr h)).symm
    · split
      · simpa using rpu
      · exact rpu
    · split
      · simpa using ports
      · exact ports
  · intro u
    have effect : (match s.bcu.nextAttempt with
        | some a => (s.reach a.time).attempt a.retry
        | none => s) = u.attempt a.retry := by rw [ha]
    refine ⟨fun reason refused => ?_, fun fits => ?_⟩
    · refine State.leads_as (f := fun s => match s.bcu.nextAttempt with
        | some a => (s.reach a.time).attempt a.retry
        | none => s) hp (by rfl) (effect.trans ?_) rfl rfl
      simp only [State.attempt, refused]
      rfl
    · refine State.leads_as (f := fun s => match s.bcu.nextAttempt with
        | some a => (s.reach a.time).attempt a.retry
        | none => s) hp (by rfl) (effect.trans ?_) rfl rfl
      simp only [State.attempt, fits]
      rfl
  · obtain ⟨rpu, ports⟩ := State.attributeUpdate_outside (s.withBcu fun b => { b with floatSum := 0, floatCount := 0 }) (·.setFloatCurrent mean)
    exact State.leads_as (f := fun s => if floatWindow ≤ s.bcu.floatCount then s.closeFloatWindow else s) hp (by rfl)
      (v := s.closeFloatWindow) (if_pos full) rpu ports
  · obtain ⟨rpu, ports⟩ := State.attributeUpdate_outside
      ((s.withBcu fun b => { b with hotCount := 0 }).withStored fun b => { b with hot := hours }) (·.setHotHours hours)
    exact State.leads_as (f := fun s => if hotHour ≤ s.bcu.hotCount then s.closeHotHour else s) hp (by rfl)
      (v := s.closeHotHour) (if_pos full) rpu ports

end Sys2Proof.Machine
end

section
/-! PROOFS. The battery test: aborts, suspensions, restarts, the ends of its phases (R122 to R128). -/

namespace Sys2Proof.Machine

/-- What the judgement of the radio leaves as it was. -/
theorem State.rejudge_reads {α : Type} (f : State → α) (hf : ∀ u v : State, f (u.supplyAs v) = f u) (t : State) : f t.rejudge = f t := by
  rw [← hf _ t, State.rejudge_supplyAs, hf]

theorem State.rejudge_qEvent (t : State) : t.rejudge.rpu.qEvent = t.rpu.qEvent := State.rejudge_reads (·.rpu.qEvent) (fun _ _ => rfl) t
theorem State.rejudge_qAlarm (t : State) : t.rejudge.rpu.qAlarm = t.rpu.qAlarm := State.rejudge_reads (·.rpu.qAlarm) (fun _ _ => rfl) t
theorem State.rejudge_held (t : State) : t.rejudge.rpu.held = t.rpu.held := State.rejudge_reads (·.rpu.held) (fun _ _ => rfl) t

/-- Alarms leave the events and snapshots queued as they are. -/
theorem Rpu.alarm_qEvent (now : Stamp) (id : AlarmId) (payload : List Byte) (r : Rpu) : (r.alarm now id payload).qEvent = r.qEvent := by
  unfold Rpu.alarm
  repeat' split
  all_goals rfl

/-- A new event joins the end of Q_EVENT (R137, R138). -/
theorem Rpu.event_getLast (now : Stamp) (kind : EventKind) (payload : List Byte) (r : Rpu) :
    ∃ x, (r.event now kind payload).qEvent.getLast? = some x ∧ x.kind = .event kind ∧ x.payload = payload :=
  ⟨_, List.getLast?_concat, rfl, rfl⟩

/-! ### A test that ends (R122, R125, R127) -/

section
variable {s : State} {r : TestRun}

/-- The charger's state once no test holds it (R114). -/
def Bcu.freeCharger (b : Bcu) : Charger := if b.acPresent && !b.thermalHold && b.tier != .disconnect then .bulk else .off

theorem Bcu.toBulk_free {b : Bcu} (h : b.testHolds = false) : b.toBulk = { b with charger := b.freeCharger } := by
  unfold Bcu.toBulk Bcu.mayCharge Bcu.freeCharger
  rw [h]
  simp

/-- The entry of an aborted test (R125, R127). -/
def TestRun.abortedEntry (cause : TestCause) (rest : Option Nat) (now : Stamp) (r : TestRun) : TestEntry :=
  ⟨now, r.mode, .aborted, some cause, rest, none, none, none⟩

/-- What a withheld answer says of an aborted test (R190, log 18). -/
theorem TestRun.abortedEntry_result (cause : TestCause) (rest : Option Nat) (now : Stamp) :
    (r.abortedEntry cause rest now).result = [3, 1, cause.code] ++ encOpt (be 2) rest ++ [0, 0, 0] := by
  simp [TestEntry.result, TestRun.abortedEntry, encOpt, TestOutcome.code]

/-- A test that has ended ABORTED, but for a withheld answer: IDLE, the load off, the mark clear, the charger free, the entry, the write, the
event and the occurrence (R125, R127). -/
def State.testAborted (e : TestEntry) (s : State) : State :=
  State.raise .testDone <| State.event .batteryTestResult e.enc <| State.place .battery { s with bcu := { s.bcu with
    test := none, loadOn := false, charger := s.bcu.freeCharger
    stored := { s.bcu.stored with pending := false, history := pushRing 8 e s.bcu.stored.history } } }

theorem State.abortTest_eq (h : s.bcu.test = some r) (cause : TestCause) : s.abortTest cause
    = (s.testAborted (r.abortedEntry cause r.vRest s.stamp)).releaseHold r.port (r.abortedEntry cause r.vRest s.stamp).result := by
  have left : s.leaveTest = { s with bcu := { s.bcu with
      test := none, loadOn := false, charger := s.bcu.freeCharger, stored := { s.bcu.stored with pending := false } } } := by
    have freed : ({ s.bcu with test := none, loadOn := false, stored := { s.bcu.stored with pending := false } } : Bcu).toBulk
        = { s.bcu with test := none, loadOn := false, stored := { s.bcu.stored with pending := false }, charger := s.bcu.freeCharger } :=
      Bcu.toBulk_free rfl
    exact congrArg (fun b => ({ s with bcu := b } : State)) freed
  unfold State.abortTest
  rw [h]
  simp only [left]
  rfl

/-- The withheld answer of an ATTENDED test, where its port still holds (R126, R176). -/
theorem State.releaseHold_eq (port : Option Port) (body : List Byte) (s : State) : s.releaseHold port body
    = match port, s.ports.cHold, s.ports.pHold with
      | some .c, some hold, _ => { s with ports := { s.ports with
          cHold := none, cAnswers := pushAnswer ⟨0x11, hold, .done, body⟩ s.ports.cAnswers } }
      | some .p, _, some hold => { s with ports := { s.ports with
          pHold := none, pAnswers := pushAnswer ⟨0x11, hold, .done, body⟩ s.ports.pAnswers } }
      | _, _, _ => s := by
  unfold State.releaseHold
  rcases port with _ | _ | _ | _
  · rfl
  · cases s.ports.cHold <;> rfl
  · cases s.ports.cHold <;> cases s.ports.pHold <;> rfl
  · rfl

/-- A release touches the ports alone, and of them neither the alerts nor the radio frame being received. -/
theorem State.releaseHold_rest (port : Option Port) (body : List Byte) (s : State) : (s.releaseHold port body).bcu = s.bcu
    ∧ (s.releaseHold port body).rpu = s.rpu ∧ (s.releaseHold port body).clock = s.clock
    ∧ (s.releaseHold port body).ports.lPartial = s.ports.lPartial
    ∧ (s.releaseHold port body).ports.cAlerts = s.ports.cAlerts ∧ (s.releaseHold port body).ports.pAlerts = s.ports.pAlerts := by
  unfold State.releaseHold
  repeat' split
  all_goals exact ⟨rfl, rfl, rfl, rfl, rfl, rfl⟩

/-- An aborted test, as its end shows. -/
def State.showsAbort (r : TestRun) (cause : TestCause) (rest : Option Nat) (free : Charger) (t : State) : Prop :=
  t.bcu.test = none ∧ t.bcu.loadOn = false ∧ t.bcu.charger = free
    ∧ t.bcu.stored.pending = false ∧ t.bcu.stored.history.getLast? = some (r.abortedEntry cause rest t.stamp)
    ∧ (∃ x ∈ t.rpu.qEvent, x.kind = .event .batteryTestResult ∧ x.payload = (r.abortedEntry cause rest t.stamp).enc)
    ∧ t.ports.cAlerts.lit .testDone ∧ t.ports.pAlerts.lit .testDone

theorem State.abortTest_shows (h : s.bcu.test = some r) (cause : TestCause) :
    (s.abortTest cause).showsAbort r cause r.vRest s.bcu.freeCharger := by
  obtain ⟨bcu, rpu, clock, -, cAlerts, pAlerts⟩ := State.releaseHold_rest r.port (r.abortedEntry cause r.vRest s.stamp).result
    (s.testAborted (r.abortedEntry cause r.vRest s.stamp))
  have stamp : (s.abortTest cause).stamp = s.stamp := by
    rw [State.abortTest_eq h, State.stamp, clock]
    rfl
  unfold State.showsAbort
  rw [stamp, State.abortTest_eq h, bcu, rpu, cAlerts, pAlerts]
  refine ⟨rfl, rfl, rfl, rfl, pushRing_getLast (by decide) _ _, ?_, by simp [State.testAborted], by simp [State.testAborted]⟩
  obtain ⟨x, last, kind, payload⟩ := s.rpu.event_getLast s.stamp .batteryTestResult (r.abortedEntry cause r.vRest s.stamp).enc
  exact ⟨x, List.mem_of_getLast? last, kind, payload⟩

theorem State.showsAbort.carry {cause : TestCause} {rest : Option Nat} {free : Charger} {t u : State} (h : t.showsAbort r cause rest free)
    (hb : u.bcu = t.bcu) (hc : u.clock = t.clock) (he : ∀ x ∈ t.rpu.qEvent, x ∈ u.rpu.qEvent)
    (hC : t.ports.cAlerts.lit .testDone → u.ports.cAlerts.lit .testDone) (hP : t.ports.pAlerts.lit .testDone → u.ports.pAlerts.lit .testDone) :
    u.showsAbort r cause rest free := by
  obtain ⟨test, load, charger, pending, history, ⟨x, hx, kind, payload⟩, cLit, pLit⟩ := h
  have stamp : u.stamp = t.stamp := by rw [State.stamp, hc]; rfl
  unfold State.showsAbort
  rw [hb, stamp]
  exact ⟨test, load, charger, pending, history, ⟨x, he x hx, kind, payload⟩, hC cLit, hP pLit⟩

theorem State.showsAbort.judged {cause : TestCause} {rest : Option Nat} {free : Charger} {t : State} (h : t.showsAbort r cause rest free) :
    t.rejudge.showsAbort r cause rest free :=
  h.carry rfl rfl (fun x hx => by rwa [State.rejudge_qEvent]) id id

/-! ### Suspensions and restarts (R124) -/

theorem Bcu.testHolds_iff {b : Bcu} (h : b.test = some r) : b.testHolds = true ↔ (∃ d, r.phase = .rest d) ∨ ∃ d, r.phase = .load d := by
  unfold Bcu.testHolds
  rw [h]
  dsimp only
  cases hp : r.phase <;> simp

/-- A test suspended for the first to the third time. -/
theorem State.suspendTest_suspends (h : s.bcu.test = some r) (holds : s.bcu.testHolds = true) (few : r.suspensions < 3) :
    s.suspendTest = { s with bcu := { s.bcu with
      test := some ⟨r.mode, r.port, .suspended (s.now + 120000000), r.suspensions + 1, none⟩, loadOn := false
      charger := s.bcu.freeCharger } } := by
  have freed : ({ s.bcu with
      test := some ⟨r.mode, r.port, .suspended (s.now + suspensionTime), r.suspensions + 1, none⟩, loadOn := false } : Bcu).toBulk
      = { s.bcu with
        test := some ⟨r.mode, r.port, .suspended (s.now + 120000000), r.suspensions + 1, none⟩, loadOn := false
        charger := s.bcu.freeCharger } := Bcu.toBulk_free rfl
  unfold State.suspendTest
  rw [h]
  dsimp only
  rw [if_neg (by simp [holds]), if_neg (by omega)]
  exact congrArg (fun b => ({ s with bcu := b } : State)) freed

/-- The fourth suspension ends the test. -/
theorem State.suspendTest_ends (h : s.bcu.test = some r) (holds : s.bcu.testHolds = true) (many : r.suspensions = 3) :
    s.suspendTest = (State.testAborted (r.abortedEntry .interrupted r.vRest s.stamp) s).releaseHold r.port
      (r.abortedEntry .interrupted r.vRest s.stamp).result := by
  have aborted := State.abortTest_eq (s := s.withBcu fun b => { b with test := some { r with suspensions := r.suspensions + 1 }, loadOn := false })
    rfl .interrupted
  unfold State.suspendTest
  rw [h]
  dsimp only
  rw [if_neg (by simp [holds]), if_pos (by omega)]
  exact aborted

theorem State.suspendTest_shows (h : s.bcu.test = some r) (holds : s.bcu.testHolds = true) (many : r.suspensions = 3) :
    s.suspendTest.showsAbort r .interrupted r.vRest s.bcu.freeCharger := by
  rw [State.suspendTest_ends h holds many, ← State.abortTest_eq h]
  exact State.abortTest_shows h .interrupted

/-- A suspended test starts again in REST once neither an operation nor a recharge is left. -/
theorem State.resumeTest_restarts {d : Nat} (h : s.bcu.test = some r) (hp : r.phase = .suspended d) (idle : s.bcu.opInFlight = false)
    (dry : s.bcu.recharging = false) :
    s.resumeTest = { s with bcu := { s.bcu with test := some { r with phase := .rest (s.now + 10000000) }, charger := .testHold } } := by
  unfold State.resumeTest
  rw [h]
  dsimp only
  rw [hp]
  exact if_neg (by simp [idle, dry])

theorem State.resumeTest_waits {d : Nat} (h : s.bcu.test = some r) (hp : r.phase = .suspended d)
    (busy : s.bcu.opInFlight = true ∨ s.bcu.recharging = true) : s.resumeTest = s := by
  unfold State.resumeTest
  rw [h]
  dsimp only
  rw [hp]
  exact if_pos (by simpa using busy)

/-! ### The capacitor measurement, the pushbutton and the poles, as a test hears of them (R124) -/

/-- Outside ENERGY_WAIT a capacitor measurement asks for no close. -/
theorem State.measureCapacitor_quiet (noWait : ∀ d, s.sqc.sequence ≠ .energyWait d) (v : Nat) : s.measureCapacitor v = s.capacitorRead v := by
  have sqc : (s.capacitorRead v).sqc = s.sqc := by simp [State.capacitorRead]
  rw [State.measureCapacitor_eq]
  unfold State.askAgain
  rw [sqc]
  split
  · next d h => exact absurd h (noWait d)
  · rfl

/-- The account as a capacitor measurement sets it (R83). -/
def State.capacitorTaken (v : Nat) (s : State) : State :=
  s.withMdr fun m => { m with
    vcap := v, estimate := energyOf m.settings.capacitance v, measuredEstimate := energyOf m.settings.capacitance v, lastMeasurement := s.now }

theorem State.capacitorRead_eq (v : Nat) (s : State) : s.capacitorRead v = (s.capacitorTaken v).rechargeControl.lowEnergyWatch := rfl

theorem State.rechargeControl_starts (idle : s.mdr.rechargeSince = none) (low : s.mdr.vcap + 5000 < s.mdr.settings.target)
    (tier : s.bcu.tier ≠ .disconnect) : s.rechargeControl
      = State.suspendTest { s with mdr := { s.mdr with rechargeSince := some s.now }, bcu := { s.bcu with recharging := true } } := by
  unfold State.rechargeControl
  rw [idle]
  exact if_pos (by simp [low, tier])

theorem State.rechargeControl_stops {since : Nat} (since_ : s.mdr.rechargeSince = some since) (full : s.mdr.settings.target ≤ s.mdr.vcap) :
    s.rechargeControl = State.resumeTest (State.attributeUpdate (·.setRecharge ((s.now - since) / ms))
      { s with mdr := { s.mdr with rechargeSince := none }, bcu := { s.bcu with recharging := false } }) := by
  unfold State.rechargeControl
  rw [since_]
  exact if_pos full

theorem State.lowEnergyWatch_qEvent (s : State) : s.lowEnergyWatch.rpu.qEvent = s.rpu.qEvent := by
  unfold State.lowEnergyWatch State.raiseLowEnergy
  repeat' split
  all_goals first | rfl | exact Rpu.alarm_qEvent _ _ _ _

theorem State.lowEnergyWatch_lit (f : Flag) (s : State) : (s.ports.cAlerts.lit f → s.lowEnergyWatch.ports.cAlerts.lit f)
    ∧ (s.ports.pAlerts.lit f → s.lowEnergyWatch.ports.pAlerts.lit f) := by
  unfold State.lowEnergyWatch State.raiseLowEnergy
  repeat' split
  all_goals first | exact ⟨id, id⟩ | exact ⟨fun h => by simp [h], fun h => by simp [h]⟩

theorem State.showsAbort.watched {cause : TestCause} {rest : Option Nat} {free : Charger} (h : s.showsAbort r cause rest free) :
    s.lowEnergyWatch.showsAbort r cause rest free :=
  h.carry (by simp) (by simp) (fun x hx => by rwa [State.lowEnergyWatch_qEvent]) (State.lowEnergyWatch_lit _ s).1 (State.lowEnergyWatch_lit _ s).2


/-- The end of a test as its port and its holds have it: the announcement with the withheld answer. -/
def State.testEnded (r : TestRun) (cause : TestCause) (rest : Option Nat) (s : State) : State :=
  (s.testAborted (r.abortedEntry cause rest s.stamp)).releaseHold r.port (r.abortedEntry cause rest s.stamp).result

theorem State.testEnded_outside (cause : TestCause) (rest : Option Nat) : (s.testEnded r cause rest).rpu.unpooled = s.rpu.unpooled
    ∧ (s.testEnded r cause rest).ports.lPartial = s.ports.lPartial := by
  obtain ⟨-, rpu, -, lPartial, -⟩ := State.releaseHold_rest r.port (r.abortedEntry cause rest s.stamp).result
    (s.testAborted (r.abortedEntry cause rest s.stamp))
  unfold State.testEnded
  rw [rpu, lPartial]
  exact ⟨by simp [State.testAborted], rfl⟩

/-- The end of REST for the fourth time with an operation or a recharge. -/
theorem State.endRest_ends {d v : Nat} (h : s.bcu.test = some r) (hp : r.phase = .rest d)
    (busy : s.bcu.opInFlight = true ∨ s.bcu.recharging = true) (many : r.suspensions = 3) :
    s.endRest v = s.testEnded r .interrupted (some v) := by
  have held : (s.withBcu fun b => { b with test := some { r with vRest := some v } }).bcu.testHolds = true :=
    (Bcu.testHolds_iff (r := { r with vRest := some v }) rfl).mpr (.inl ⟨d, hp⟩)
  unfold State.endRest
  rw [h]
  dsimp only
  rw [if_pos (by simpa [State.withBcu] using busy)]
  have ends := State.suspendTest_ends (s := s.withBcu fun b => { b with test := some { r with vRest := some v } }) (r := { r with vRest := some v })
    rfl held many
  have same (e : TestEntry) : State.testAborted e (s.withBcu fun b => { b with test := some { r with vRest := some v } }) = s.testAborted e := rfl
  rw [same] at ends
  exact ends

/-- The end of the suspension time. -/
theorem State.suspension_leads {d : Nat} (hp : s.powered = true) (h : s.bcu.test = some r) (phase : r.phase = .suspended d) :
    s.leads .suspensionTimerExpiry ((s.reach d).testEnded r .suspensionTimeout r.vRest) := by
  obtain ⟨rpu, lPartial⟩ := State.testEnded_outside (s := s.reach d) (r := r) .suspensionTimeout r.vRest
  refine State.leads_as (f := fun s => match s.bcu.test.map TestRun.phase with
    | some (.suspended d) => (s.reach d).abortTest .suspensionTimeout
    | _ => s) hp (by rfl) ?_ rpu lPartial
  simp only [h, Option.map_some, phase]
  exact State.abortTest_eq (s := s.reach d) h _

/-- The end of REST that ends the test. -/
theorem State.rest_leads {d v : Nat} (hp : s.powered = true) (h : s.bcu.test = some r) (phase : r.phase = .rest d)
    (busy : s.bcu.opInFlight = true ∨ s.bcu.recharging = true) (many : r.suspensions = 3) :
    s.leads (.restTimerExpiry v) ((s.reach d).testEnded r .interrupted (some v)) := by
  obtain ⟨rpu, lPartial⟩ := State.testEnded_outside (s := s.reach d) (r := r) .interrupted (some v)
  refine State.leads_as (f := fun s => match s.bcu.test.map TestRun.phase with
    | some (.rest d) => (s.reach d).endRest v
    | _ => s) hp (by rfl) ?_ rpu lPartial
  simp only [h, Option.map_some, phase]
  exact State.endRest_ends (s := s.reach d) h phase busy many

/-- A test suspended, as it shows: until 120 s from now, with the load off and the charger free. -/
def State.showsSuspended (r : TestRun) (free : Charger) (t : State) : Prop :=
  t.bcu.loadOn = false ∧ t.bcu.charger = free
    ∧ t.bcu.test = some ⟨r.mode, r.port, .suspended (t.now + 120000000), r.suspensions + 1, none⟩

/-- A test started again, as it shows. -/
def State.showsRestart (r : TestRun) (loadOn : Bool) (t : State) : Prop :=
  t.bcu.charger = .testHold ∧ t.bcu.loadOn = loadOn ∧ t.bcu.test = some { r with phase := .rest (t.now + 10000000) }

theorem State.showsSuspended.carry {free : Charger} {t u : State} (h : t.showsSuspended r free) (hb : u.bcu = t.bcu) (hc : u.clock = t.clock) :
    u.showsSuspended r free := by
  have now : u.now = t.now := congrArg Clock.running hc
  unfold State.showsSuspended
  rw [hb, now]
  exact h

theorem State.showsRestart.carry {on : Bool} {t u : State} (h : t.showsRestart r on) (hb : u.bcu = t.bcu) (hc : u.clock = t.clock) :
    u.showsRestart r on := by
  have now : u.now = t.now := congrArg Clock.running hc
  unfold State.showsRestart
  rw [hb, now]
  exact h

/-- What every suspension shows: the first three suspend the test, the fourth ends it. -/
theorem State.suspendTest_either (h : s.bcu.test = some r) (holds : s.bcu.testHolds = true) :
    (r.suspensions < 3 → s.suspendTest.showsSuspended r s.bcu.freeCharger)
      ∧ (r.suspensions = 3 → s.suspendTest.showsAbort r .interrupted r.vRest s.bcu.freeCharger) := by
  refine ⟨fun few => ?_, State.suspendTest_shows h holds⟩
  rw [State.suspendTest_suspends h holds few]
  exact ⟨rfl, rfl, rfl⟩

/-- The operation that a press of the pushbutton starts, as the test hears of it. -/
theorem State.beginTrip_either (o : Origin) (e : Option Element) (c : Currents) (h : s.bcu.test = some r) (holds : s.bcu.testHolds = true) :
    (r.suspensions < 3 → (s.beginTrip o e c).showsSuspended r s.bcu.freeCharger)
      ∧ (r.suspensions = 3 → (s.beginTrip o e c).showsAbort r .interrupted r.vRest s.bcu.freeCharger) := by
  obtain ⟨-, bcu, -⟩ := State.tripPulsed_frame o e c s
  have bcu : (((s.tripPulsed o e c).tripStarted [o]).dropCloses .trip).bcu = s.bcu := by simp [bcu]
  have same : ((((s.tripPulsed o e c).tripStarted [o]).dropCloses .trip).withBcu fun b => { b with opInFlight := true }).bcu
      = { s.bcu with opInFlight := true } := congrArg (fun b : Bcu => { b with opInFlight := true }) bcu
  have either := State.suspendTest_either
    (s := (((s.tripPulsed o e c).tripStarted [o]).dropCloses .trip).withBcu fun b => { b with opInFlight := true }) (r := r)
    (by rw [same]; exact h) (by rw [same]; exact holds)
  rw [same] at either
  exact either

/-- A recharge that starts, as the test hears of it. -/
theorem State.capacitorRead_starts {v : Nat} (h : s.bcu.test = some r) (holds : s.bcu.testHolds = true) (idle : s.mdr.rechargeSince = none)
    (low : v + 5000 < s.mdr.settings.target) (tier : s.bcu.tier ≠ .disconnect) :
    (r.suspensions < 3 → (s.capacitorRead v).showsSuspended r s.bcu.freeCharger)
      ∧ (r.suspensions = 3 → (s.capacitorRead v).showsAbort r .interrupted r.vRest s.bcu.freeCharger) := by
  have started := State.rechargeControl_starts (s := s.capacitorTaken v) idle low tier
  rw [State.capacitorRead_eq, started]
  obtain ⟨few, many⟩ := State.suspendTest_either (r := r)
    (s := { s.capacitorTaken v with
      mdr := { (s.capacitorTaken v).mdr with rechargeSince := some (s.capacitorTaken v).now }
      bcu := { (s.capacitorTaken v).bcu with recharging := true } }) h holds
  exact ⟨fun n => (few n).carry (by simp) (by simp), fun n => (many n).watched⟩

/-- What a resumption shows: the test starts again, or waits for the operation or the recharge left. -/
theorem State.resumeTest_either {d : Nat} (h : s.bcu.test = some r) (hp : r.phase = .suspended d) :
    (s.bcu.opInFlight = false → s.bcu.recharging = false → s.resumeTest.showsRestart r s.bcu.loadOn)
      ∧ (s.bcu.opInFlight = true ∨ s.bcu.recharging = true → s.resumeTest = s) := by
  refine ⟨fun idle dry => ?_, State.resumeTest_waits h hp⟩
  rw [State.resumeTest_restarts h hp idle dry]
  exact ⟨rfl, rfl, rfl⟩

/-- A recharge that reaches its target, as the test hears of it. -/
theorem State.capacitorRead_stops {v d since : Nat} (h : s.bcu.test = some r) (hp : r.phase = .suspended d)
    (running : s.mdr.rechargeSince = some since) (full : s.mdr.settings.target ≤ v) :
    (s.bcu.opInFlight = false → (s.capacitorRead v).showsRestart r s.bcu.loadOn)
      ∧ (s.bcu.opInFlight = true → (s.capacitorRead v).bcu.test = some r ∧ (s.capacitorRead v).bcu.charger = s.bcu.charger) := by
  have stopped := State.rechargeControl_stops (s := s.capacitorTaken v) running full
  rw [State.capacitorRead_eq, stopped]
  let dry : State := { s.capacitorTaken v with
    mdr := { (s.capacitorTaken v).mdr with rechargeSince := none }
    bcu := { (s.capacitorTaken v).bcu with recharging := false } }
  let u := dry.attributeUpdate (·.setRecharge (((s.capacitorTaken v).now - since) / ms))
  have bcu : u.bcu.test = s.bcu.test ∧ u.bcu.opInFlight = s.bcu.opInFlight ∧ u.bcu.recharging = false ∧ u.bcu.loadOn = s.bcu.loadOn
      ∧ u.bcu.charger = s.bcu.charger := by
    have kept := State.judgeVerdict_bcu (dry.withAttributes (·.setRecharge (((s.capacitorTaken v).now - since) / ms)))
    have kept : u.bcu = _ := kept
    rw [kept]
    exact ⟨rfl, rfl, rfl, rfl, rfl⟩
  obtain ⟨test, flight, recharging, load, charger⟩ := bcu
  obtain ⟨restarts, waits⟩ := State.resumeTest_either (s := u) (test.trans h) hp
  refine ⟨fun idle => ?_, fun busy => ?_⟩
  · have shown := restarts (flight.trans idle) recharging
    rw [load] at shown
    refine State.showsRestart.carry (t := u.resumeTest) shown ?_ ?_
    · exact (State.lowEnergyWatch_frame u.resumeTest).2.2.2.2.2.1
    · exact (State.lowEnergyWatch_frame u.resumeTest).1
  · change u.resumeTest.lowEnergyWatch.bcu.test = _ ∧ u.resumeTest.lowEnergyWatch.bcu.charger = _
    rw [waits (.inl (flight.trans busy))]
    simp only [State.lowEnergyWatch_frame]
    exact ⟨test.trans h, charger⟩

/-- A trip that ends, as the test hears of it. -/
theorem State.endOperation_either {d : Nat} (outcome : OpOutcome) (op : Operation) (h : s.bcu.test = some r) (hp : r.phase = .suspended d) :
    (s.bcu.recharging = false → (s.endOperation outcome op).showsRestart r s.bcu.loadOn)
      ∧ (s.bcu.recharging = true → (s.endOperation outcome op).bcu.test = some r ∧ (s.endOperation outcome op).bcu.charger = s.bcu.charger) := by
  let u := ((s.withMdr fun m => { m with op := none, tripDrive := false, closeDrive := false }).handOff outcome op).withBcu
    fun b => { b with opInFlight := false }
  have bcu : u.bcu = { s.bcu with opInFlight := false } := by simp [u, State.withBcu, State.withMdr]
  obtain ⟨restarts, waits⟩ := State.resumeTest_either (s := u) (by rw [bcu]; exact h) hp
  change (_ → u.resumeTest.showsRestart r s.bcu.loadOn) ∧ (_ → u.resumeTest.bcu.test = _ ∧ u.resumeTest.bcu.charger = _)
  refine ⟨fun dry => ?_, fun busy => ?_⟩
  · have shown := restarts (by rw [bcu]) (by rw [bcu]; exact dry)
    rwa [bcu] at shown
  · rw [waits (.inr (by rw [bcu]; exact busy)), bcu]
    exact ⟨h, rfl⟩

/-- A press of the pushbutton that has stood its time, with nothing in flight (R110). -/
theorem exec_tripPushbutton {d : Nat} (hp : s.powered = true) (idle : s.mdr.op = none) (released : s.au.buttonPressed = false)
    (stand : s.au.buttonStand = some ⟨true, d⟩) : ∃ u : State, exec .tripPushbutton s = .next (u.beginTrip .button none u.lmu.currents).rejudge
      ∧ u.bcu = s.bcu := by
  refine ⟨(s.reach d).withAu fun a => { a with buttonPressed := true, buttonStand := none }, ?_, rfl⟩
  change act (pushbutton.hear true) s = _
  rw [act_powered hp, pushbutton.hear_stood stand rfl, ← State.requestTrip_idle .button (by exact idle)]
  refine congrArg (fun u : State => Host.Outcome.next u.rejudge) ?_
  simp only [pushbutton, State.buttonReading]
  exact if_pos (by simp [released])

/-- A change of the poles that finds a trip's poles all OPEN ends it (R70). -/
theorem State.contactsRead_opens {c : Contacts} {op : Operation} (reported : s.sqc.reported = true) (moved : s.mdr.poles ≠ polesOf c)
    (flight : s.mdr.op = some op) (kind : op.kind = .trip) (allOpen : (polesOf c).allOpen = true) :
    s.contactsRead c
      = (s.withMdr fun m => { m with poles := polesOf c }).endOperation (if op.retrip then .retripComplete else .complete) op := by
  unfold State.contactsRead
  dsimp only
  rw [if_neg (by simp [reported]), if_neg (Ne.symm moved)]
  unfold State.indicationEvent State.judgePoles
  simp only [State.withMdr, flight, kind, allOpen, if_true]
  rfl

end

/-- Settles O26: the end of an aborted test, what suspends one and what starts it again. -/
theorem abortsAndSuspensionsEndTests : Obligations.AbortsAndSuspensionsEndTests := by
  refine ⟨fun s r hr => ?_, fun src ref port s ht idle => ?_⟩
  · intro entryOf mayCharge free ended interrupted suspended restarts holds noWait
    have free_eq : s.bcu.freeCharger = free := by
      simp [Bcu.freeCharger, free, mayCharge, Bool.and_assoc]
    have ended_eq (cause : TestCause) (rest : Option Nat) (u : State) (hu : u.bcu.freeCharger = free) :
        ended cause rest u = u.testEnded r cause rest := by
      unfold State.testEnded State.testAborted
      rw [hu, State.releaseHold_eq, TestRun.abortedEntry_result]
      rfl
    clear_value ended
    have suspended_iff (t : State) : suspended t ↔ t.showsSuspended r s.bcu.freeCharger := by rw [free_eq]; exact Iff.rfl
    have interrupted_iff (rest : Option Nat) (t : State) : interrupted rest t ↔ t.showsAbort r .interrupted rest s.bcu.freeCharger := by
      rw [free_eq]; exact Iff.rfl
    have restarts_iff (t : State) : restarts t ↔ t.showsRestart r s.bcu.loadOn := Iff.rfl
    clear_value suspended interrupted restarts
    simp only [suspended_iff, interrupted_iff, restarts_iff]
    have test_holds (h : holds) : s.bcu.testHolds = true := (Bcu.testHolds_iff hr).mpr h
    refine ⟨fun src ref port ht => ?_, fun d hp phase => ?_, fun d v hp phase busy many => ?_, fun v hp held quiet dry low tier => ?_,
      fun d hp held flight released pressed => ?_, fun v d since hp phase quiet running full => ?_,
      fun c d op hp phase reported flight kind allOpen moved => ?_⟩
    · have takes : s.takes .abortTest src port := State.taken_elim rfl ht
      have done : exec (.abortTest src ref) s = .next ((s.testEnded r .request r.vRest).answer port ⟨0x12, ref, .done, []⟩).rejudge := by
        change act (respond .abortTest src ref _) s = _
        rw [act_powered takes.1, respond_takes takes, hr]
        simp only [Option.isSome_some, if_true, State.abortTest_eq hr]
        rfl
      rw [ended_eq _ _ s free_eq]
      refine ⟨_, done, ?_, ?_, fun other h => ?_⟩
      · rw [State.rejudge_answersAs, State.answer_answersAs]
      · rw [State.rejudge_answersAt, State.answer_answersAt, if_pos rfl]
      · rw [State.rejudge_answersAt, State.answer_answersAt, if_neg h]
    · rw [ended_eq _ _ (s.reach d) free_eq]
      exact State.suspension_leads hp hr phase
    · rw [ended_eq _ _ (s.reach d) free_eq]
      exact State.rest_leads hp hr phase busy many
    · have done : exec (.capacitorMeasurement v) s = .next ((s.reach (s.mdr.lastMeasurement + capacitorPeriod)).measureCapacitor v).rejudge :=
        act_powered (f := fun s => (s.reach (s.mdr.lastMeasurement + capacitorPeriod)).measureCapacitor v) hp
      rw [State.measureCapacitor_quiet (by exact quiet)] at done
      obtain ⟨few, many⟩ := State.capacitorRead_starts (s := s.reach (s.mdr.lastMeasurement + capacitorPeriod)) hr (test_holds held) dry low tier
      exact ⟨_, done, few, fun n => (many n).judged⟩
    · obtain ⟨u, done, bcu⟩ := exec_tripPushbutton hp flight released pressed
      obtain ⟨few, many⟩ := State.beginTrip_either (s := u) (r := r) .button none u.lmu.currents (by rw [bcu]; exact hr)
        (by rw [bcu]; exact test_holds held)
      rw [bcu] at few many
      exact ⟨_, done, few, fun n => (many n).judged⟩
    · have done : exec (.capacitorMeasurement v) s = .next ((s.reach (s.mdr.lastMeasurement + capacitorPeriod)).measureCapacitor v).rejudge :=
        act_powered (f := fun s => (s.reach (s.mdr.lastMeasurement + capacitorPeriod)).measureCapacitor v) hp
      rw [State.measureCapacitor_quiet (by exact quiet)] at done
      obtain ⟨free, busy⟩ := State.capacitorRead_stops (s := s.reach (s.mdr.lastMeasurement + capacitorPeriod)) hr phase running full
      exact ⟨_, done, free, busy⟩
    · have done : exec (.poleIndicationChange c) s = .next (s.contactsRead c).rejudge := act_powered hp
      rw [State.contactsRead_opens reported moved flight kind allOpen] at done
      obtain ⟨free, busy⟩ := State.endOperation_either (s := s.withMdr fun m => { m with poles := polesOf c })
        (if op.retrip then .retripComplete else .complete) op hr phase
      exact ⟨_, done, free, busy⟩
  · refine State.refuses_of_owner (kind := .abortTest) rfl (by rfl) ht ?_
    simp only [idle, Option.isSome_none, Bool.false_eq_true, if_false]
    rfl

end Sys2Proof.Machine
end

section
/-! PROOFS. The ends of REST and of LOAD, with the outcome of the test and the attributes it updates (R122, R123, R128). -/

namespace Sys2Proof.Machine

section
variable {s : State} {r : TestRun} {v : Nat} {i : Int}

/-! ### The attributes a test outcome updates (Table 6-6) -/

theorem State.testUpdate_stored (f : Attributes → Attributes) (s : State) :
    (s.testUpdate f).bcu.stored = { s.bcu.stored with attributes := f s.bcu.stored.attributes } := by
  have stored := congrArg Bcu.stored (State.judgeVerdict_bcu (s.withAttributes f))
  exact stored

/-- Updates touch the record and the verdict alone of the battery's state. -/
def Bcu.sameTest (a b : Bcu) : Prop := ∃ failing, b = { a with stored := b.stored, failing := failing }

theorem Bcu.sameTest.trans {a b c : Bcu} (h : a.sameTest b) (k : b.sameTest c) : a.sameTest c := by
  obtain ⟨x, h⟩ := h
  obtain ⟨y, k⟩ := k
  exact ⟨y, by rw [k, h]⟩

theorem State.testUpdate_sameTest (f : Attributes → Attributes) (s : State) : s.bcu.sameTest (s.testUpdate f).bcu :=
  ⟨(s.testUpdate f).bcu.failing, (State.judgeVerdict_bcu (s.withAttributes f)).trans (by rw [State.testUpdate_stored]; rfl)⟩

theorem State.testUpdate_failing (f : Attributes → Attributes) (s : State) :
    (s.testUpdate f).bcu.failing = !(s.testUpdate f).bcu.stored.prefailing.isEmpty := by
  rw [State.testUpdate_stored]
  unfold State.testUpdate State.judgeVerdict
  dsimp only
  repeat' split
  · next same => exact same.symm
  · rfl
  · rfl

/-- The count of consecutive FAILs after an outcome. -/
def TestResult.fails (res : TestResult) (n : Nat) : Nat := if res.outcome = .pass then 0 else min 255 (n + 1)

/-- The attributes as a PASS or FAIL leaves them (R128, Table 6-6). -/
def Attributes.tested (settings : BatterySettings) (res : TestResult) (v fails : Nat) (a : Attributes) : Attributes :=
  ((match res.rInt with
    | some x => (a.setResistance settings.rated x).setMargin ((v : Int) - settings.floor)
    | none => a).setFailures fails).setDays 0

/-- The updates in two steps: those of a measured resistance, and those of every outcome. -/
theorem State.testUpdates_eq (res : TestResult) (v : Nat) (s : State) : ∃ u : State, s.bcu.sameTest u.bcu
    ∧ u.bcu.stored = { s.bcu.stored with attributes := match res.rInt with
        | some x => (s.bcu.stored.attributes.setResistance s.bcu.stored.settings.rated x).setMargin ((v : Int) - s.bcu.stored.settings.floor)
        | none => s.bcu.stored.attributes }
    ∧ s.testUpdates res v = ((u.withStored fun b => { b with fails := res.fails s.bcu.stored.fails }).testUpdate
        (·.setFailures (res.fails s.bcu.stored.fails))).testUpdate (·.setDays 0) := by
  unfold State.testUpdates TestResult.fails
  cases res.rInt with
  | none => exact ⟨s, ⟨s.bcu.failing, rfl⟩, rfl, rfl⟩
  | some x =>
    refine ⟨_, (State.testUpdate_sameTest _ _).trans (State.testUpdate_sameTest _ _), ?_, rfl⟩
    rw [State.testUpdate_stored, State.testUpdate_stored]

theorem State.testUpdates_spec (res : TestResult) (v : Nat) (s : State) : s.bcu.sameTest (s.testUpdates res v).bcu
    ∧ (s.testUpdates res v).bcu.stored = { s.bcu.stored with
        fails := res.fails s.bcu.stored.fails
        attributes := s.bcu.stored.attributes.tested s.bcu.stored.settings res v (res.fails s.bcu.stored.fails) }
    ∧ (s.testUpdates res v).bcu.failing = !(s.testUpdates res v).bcu.stored.prefailing.isEmpty := by
  obtain ⟨u, same, stored, chain⟩ := State.testUpdates_eq res v s
  rw [chain]
  have counted : u.bcu.sameTest (u.withStored fun b => { b with fails := res.fails s.bcu.stored.fails }).bcu := ⟨u.bcu.failing, rfl⟩
  refine ⟨((same.trans counted).trans (State.testUpdate_sameTest _ _)).trans (State.testUpdate_sameTest _ _), ?_, State.testUpdate_failing _ _⟩
  rw [State.testUpdate_stored, State.testUpdate_stored]
  have withFails : (u.withStored fun b => { b with fails := res.fails s.bcu.stored.fails }).bcu.stored
      = { u.bcu.stored with fails := res.fails s.bcu.stored.fails } := rfl
  rw [withFails, stored]
  rfl

/-! ### The end of LOAD (R123) -/

/-- The entry of a test that ends in PASS or FAIL. -/
def TestRun.loadEntry (floor v : Nat) (i : Int) (now : Stamp) (r : TestRun) : TestEntry :=
  let res := judgeTest floor (r.vRest.getD 0) v i.natAbs
  ⟨now, r.mode, res.outcome, res.cause, r.vRest, some v, some i.natAbs, res.rInt⟩

/-- The test left, the days counted anew and the entry in the history, before the attributes are updated. -/
def State.testLeft (e : TestEntry) (s : State) : State :=
  { s with bcu := { s.bcu with
      test := none, loadOn := false, charger := s.bcu.freeCharger, nextDay := s.now + 86400000000
      stored := { s.bcu.stored with pending := false, days := 0, history := pushRing 8 e s.bcu.stored.history } } }

/-- The announcement of an outcome, but for a withheld answer. -/
def State.outcomeTold (e : TestEntry) (s : State) : State := ((s.place .battery).event .batteryTestResult e.enc).raise .testDone

theorem State.outcomeTold_event (e : TestEntry) (u : State) : ∃ x, (u.outcomeTold e).rpu.qEvent.getLast? = some x
    ∧ x.kind = .event .batteryTestResult ∧ x.payload = e.enc :=
  Rpu.event_getLast (u.place .battery).stamp .batteryTestResult e.enc (u.place .battery).rpu

theorem State.endLoad_eq (h : s.bcu.test = some r) :
    let e := r.loadEntry s.bcu.stored.settings.floor v i s.stamp
    s.endLoad v i = ((((s.testLeft e).testUpdates (judgeTest s.bcu.stored.settings.floor (r.vRest.getD 0) v i.natAbs) v).outcomeTold e).releaseHold
      r.port e.result) := by
  intro e
  have left : s.leaveTest = { s with bcu := { s.bcu with
      test := none, loadOn := false, charger := s.bcu.freeCharger, stored := { s.bcu.stored with pending := false } } } := by
    have freed : ({ s.bcu with test := none, loadOn := false, stored := { s.bcu.stored with pending := false } } : Bcu).toBulk
        = { s.bcu with test := none, loadOn := false, stored := { s.bcu.stored with pending := false }, charger := s.bcu.freeCharger } :=
      Bcu.toBulk_free rfl
    exact congrArg (fun b => ({ s with bcu := b } : State)) freed
  unfold State.endLoad
  rw [h]
  simp only [left]
  rfl

theorem State.releaseHold_c {u : State} {hold : Byte} (body : List Byte) (h : u.ports.cHold = some hold) :
    (u.releaseHold (some .c) body).ports.cHold = none
      ∧ (u.releaseHold (some .c) body).answersAt .c = pushAnswer ⟨0x11, hold, .done, body⟩ (u.answersAt .c) := by
  unfold State.releaseHold
  simp only [h]
  exact ⟨rfl, rfl⟩

theorem State.releaseHold_p {u : State} {hold : Byte} (body : List Byte) (h : u.ports.pHold = some hold) :
    (u.releaseHold (some .p) body).ports.pHold = none
      ∧ (u.releaseHold (some .p) body).answersAt .p = pushAnswer ⟨0x11, hold, .done, body⟩ (u.answersAt .p) := by
  unfold State.releaseHold
  simp only [h]
  exact ⟨rfl, rfl⟩

theorem State.answers_of_unflagged {u t : State} (h : u.ports.unflagged = t.ports.unflagged) : u.ports.cHold = t.ports.cHold
    ∧ u.ports.pHold = t.ports.pHold ∧ u.answersAt .c = t.answersAt .c ∧ u.answersAt .p = t.answersAt .p := by
  have cHold := congrArg Ports.cHold h
  have pHold := congrArg Ports.pHold h
  have cAnswers := congrArg Ports.cAnswers h
  have pAnswers := congrArg Ports.pAnswers h
  exact ⟨cHold, pHold, cAnswers, pAnswers⟩

/-- A release leaves everything but the ports. -/
theorem State.releaseHold_keeps (port : Option Port) (body : List Byte) (u : State) :
    ({ u.releaseHold port body with ports := u.ports } : State) = u := by
  unfold State.releaseHold
  repeat' split
  all_goals rfl

/-- What the end of LOAD leaves, but for a withheld answer. -/
theorem State.endLoad_spec (h : s.bcu.test = some r) :
    let e := r.loadEntry s.bcu.stored.settings.floor v i s.stamp
    let res := judgeTest s.bcu.stored.settings.floor (r.vRest.getD 0) v i.natAbs
    let t := s.endLoad v i
    ((s.testLeft e).bcu.sameTest t.bcu ∧ t.bcu.stored = { (s.testLeft e).bcu.stored with
        fails := res.fails s.bcu.stored.fails
        attributes := s.bcu.stored.attributes.tested s.bcu.stored.settings res v (res.fails s.bcu.stored.fails) }
      ∧ t.bcu.failing = !t.bcu.stored.prefailing.isEmpty)
    ∧ (t.clock = s.clock ∧ t.mdr = s.mdr ∧ t.sqc = s.sqc ∧ t.au = s.au ∧ t.lmu = s.lmu ∧ t.oeb = s.oeb ∧ t.oru = s.oru)
    ∧ t.ports.cAlerts.lit .testDone ∧ t.ports.pAlerts.lit .testDone
    ∧ (∃ x, t.rpu.qEvent.getLast? = some x ∧ x.kind = .event .batteryTestResult ∧ x.payload = e.enc)
    ∧ (∀ hold, r.port = some .c → s.ports.cHold = some hold →
        t.ports.cHold = none ∧ t.answersAt .c = pushAnswer ⟨0x11, hold, .done, e.result⟩ (s.answersAt .c))
    ∧ (∀ hold, r.port = some .p → s.ports.pHold = some hold →
        t.ports.pHold = none ∧ t.answersAt .p = pushAnswer ⟨0x11, hold, .done, e.result⟩ (s.answersAt .p)) := by
  intro e res t
  have ended : t = _ := State.endLoad_eq h
  let w := (s.testLeft e).testUpdates res v
  have ended : t = (w.outcomeTold e).releaseHold r.port e.result := ended
  have kept := State.releaseHold_keeps r.port e.result (w.outcomeTold e)
  rw [← ended] at kept
  obtain ⟨bcu, -, -, -, cAlerts, pAlerts⟩ := State.releaseHold_rest r.port e.result (w.outcomeTold e)
  rw [← ended] at bcu cAlerts pAlerts
  have told : (w.outcomeTold e).bcu = w.bcu := by simp [State.outcomeTold]
  have unflagged : (w.outcomeTold e).ports.unflagged = s.ports.unflagged := by simp [State.outcomeTold, w, State.testLeft]
  obtain ⟨cHold, pHold, cAnswers, pAnswers⟩ := State.answers_of_unflagged unflagged
  rw [bcu, told, cAlerts, pAlerts]
  refine ⟨State.testUpdates_spec res v (s.testLeft e), ?_, by simp [State.outcomeTold], by simp [State.outcomeTold], ?_, fun hold port held => ?_,
    fun hold port held => ?_⟩
  · have same (f : State → State) : (w.outcomeTold e).clock = s.clock ∧ (w.outcomeTold e).mdr = s.mdr ∧ (w.outcomeTold e).sqc = s.sqc
        ∧ (w.outcomeTold e).au = s.au ∧ (w.outcomeTold e).lmu = s.lmu ∧ (w.outcomeTold e).oeb = s.oeb ∧ (w.outcomeTold e).oru = s.oru := by
      simp [State.outcomeTold, w, State.testLeft]
    rw [← kept] at same
    exact same id
  · have rpu : t.rpu = (w.outcomeTold e).rpu := by have x := congrArg State.rpu kept; exact x
    rw [rpu]
    exact w.outcomeTold_event e
  · obtain ⟨gone, sent⟩ := State.releaseHold_c e.result (cHold.trans held)
    rw [ended, port, gone, sent, cAnswers]
    exact ⟨rfl, rfl⟩
  · obtain ⟨gone, sent⟩ := State.releaseHold_p e.result (pHold.trans held)
    rw [ended, port, gone, sent, pAnswers]
    exact ⟨rfl, rfl⟩

/-! ### The end of REST (R122, R124) -/

theorem State.endRest_loads (h : s.bcu.test = some r) (idle : s.bcu.opInFlight = false) (dry : s.bcu.recharging = false) :
    s.endRest v = { s with bcu := { s.bcu with
      test := some { r with vRest := some v, phase := .load (s.now + 20000000) }, loadOn := true } } := by
  unfold State.endRest
  rw [h]
  exact if_neg (by simp [State.withBcu, idle, dry])

theorem State.endRest_suspends {d : Nat} (h : s.bcu.test = some r) (hp : r.phase = .rest d)
    (busy : s.bcu.opInFlight = true ∨ s.bcu.recharging = true) (few : r.suspensions < 3) :
    (s.endRest v).showsSuspended r s.bcu.freeCharger ∧ (s.endRest v).clock = s.clock := by
  have held : (s.withBcu fun b => { b with test := some { r with vRest := some v } }).bcu.testHolds = true :=
    (Bcu.testHolds_iff (r := { r with vRest := some v }) rfl).mpr (.inl ⟨d, hp⟩)
  have suspends := State.suspendTest_suspends (s := s.withBcu fun b => { b with test := some { r with vRest := some v } })
    (r := { r with vRest := some v }) rfl held few
  have ended : s.endRest v = State.suspendTest (s.withBcu fun b => { b with test := some { r with vRest := some v } }) := by
    unfold State.endRest
    rw [h]
    exact if_pos (by simpa [State.withBcu] using busy)
  rw [ended, suspends]
  exact ⟨⟨rfl, rfl, rfl⟩, rfl⟩

end

/-- Settles O27: the end of REST connects the load or suspends, the end of LOAD announces the outcome. -/
theorem testPhasesEndAsTimed : Obligations.TestPhasesEndAsTimed := by
  intro s r d v i hp hr setAttribute old set margin withheld mayCharge
  have free_eq : s.bcu.freeCharger = if mayCharge then .bulk else .off := by
    simp [Bcu.freeCharger, mayCharge, Bool.and_assoc]
  refine ⟨fun phase idle dry => ?_, fun phase busy few => ?_, fun phase => ?_⟩
  · refine State.leads_as (f := fun s => match s.bcu.test.map TestRun.phase with
      | some (.rest d) => (s.reach d).endRest v
      | _ => s) hp (by rfl) ?_ (by rfl) (by rfl)
    simp only [hr, Option.map_some, phase]
    exact State.endRest_loads (s := s.reach d) hr idle dry
  · have done : exec (.restTimerExpiry v) s = .next ((s.reach d).endRest v).rejudge := by
      refine (act_powered (f := fun s => match s.bcu.test.map TestRun.phase with
        | some (.rest d) => (s.reach d).endRest v
        | _ => s) hp).trans ?_
      simp only [hr, Option.map_some, phase]
    obtain ⟨shown, clock⟩ := State.endRest_suspends (s := s.reach d) (v := v) hr phase busy few
    obtain ⟨load, -, test⟩ := shown.carry (u := ((s.reach d).endRest v).rejudge) rfl rfl
    have now : ((s.reach d).endRest v).rejudge.now = (s.reach d).now := congrArg Clock.running clock
    rw [now] at test
    exact ⟨_, done, load, clock, test⟩
  · have done : exec (.loadTimerExpiry v i) s = .next ((s.reach d).endLoad v i).rejudge := by
      refine (act_powered (f := fun s => match s.bcu.test.map TestRun.phase with
        | some (.load d) => (s.reach d).endLoad v i
        | _ => s) hp).trans ?_
      simp only [hr, Option.map_some, phase]
    obtain ⟨⟨⟨failing, bcu⟩, stored, verdict⟩, ⟨clock, mdr, sqc, au, lmu, oeb, oru⟩, cLit, pLit, told, cHold, pHold⟩ :=
      State.endLoad_spec (s := s.reach d) (v := v) (i := i) hr
    let entry := r.loadEntry set.floor v i (s.reach d).stamp
    let res := judgeTest set.floor (r.vRest.getD 0) v i.natAbs
    refine ⟨_, entry, done, ?_⟩
    generalize (s.reach d).endLoad v i = t at *
    have stored : t.bcu.stored = { s.bcu.stored with
      pending := false, days := 0, history := pushRing 8 entry s.bcu.stored.history
      fails := res.fails s.bcu.stored.fails, attributes := old.tested set res v (res.fails s.bcu.stored.fails) } := stored
    have stamp : t.stamp = (s.reach d).stamp := by rw [State.stamp, clock]; rfl
    have now : t.now = (s.reach d).now := congrArg Clock.running clock
    have test : t.bcu.test = none ∧ t.bcu.loadOn = false ∧ t.bcu.charger = s.bcu.freeCharger ∧ t.bcu.nextDay = (s.reach d).now + 86400000000 := by
      rw [bcu]
      exact ⟨rfl, rfl, rfl, rfl⟩
    obtain ⟨test, load, charger, nextDay⟩ := test
    have resistance (x : Nat) (hx : res.rInt = some x) : t.bcu.stored.attributes.resistance
          = setAttribute x (if x = 0 then 253 else (100 * set.rated / x : Nat)) old.resistance
        ∧ t.bcu.stored.attributes.loadMargin = setAttribute margin (100 + margin / 20) old.loadMargin := by
      rw [stored, Attributes.tested, hx]
      exact ⟨rfl, rfl⟩
    have unmeasured (hx : res.rInt = none) : t.bcu.stored.attributes.resistance = old.resistance
        ∧ t.bcu.stored.attributes.loadMargin = old.loadMargin := by
      rw [stored, Attributes.tested, hx]
      exact ⟨rfl, rfl⟩
    have others : t.bcu.stored.attributes.failures = setAttribute t.bcu.stored.fails (100 - 30 * t.bcu.stored.fails) old.failures
        ∧ t.bcu.stored.attributes.days = setAttribute 0 100 old.days
        ∧ t.bcu.stored.attributes.floatCurrent = old.floatCurrent ∧ t.bcu.stored.attributes.deepDischarges = old.deepDischarges
        ∧ t.bcu.stored.attributes.hotHours = old.hotHours ∧ t.bcu.stored.attributes.rechargeTime = old.rechargeTime := by
      rw [stored, Attributes.tested]
      cases res.rInt <;> exact ⟨rfl, rfl, rfl, rfl, rfl, rfl⟩
    obtain ⟨failures, days, floatCurrent, deepDischarges, hotHours, rechargeTime⟩ := others
    have judged : t.rejudge.bcu = t.bcu := rfl
    rw [judged]
    refine ⟨test, load, charger.trans free_eq, by rw [stored], by rw [stored], ?_, clock, mdr, sqc, au, lmu, oeb, oru, cLit, pLit, ?_, stamp.symm, rfl, rfl,
      rfl, rfl, ?_, fun open_ => ?_, fun drew => ?_, by rw [stored]; rfl, failures, days, resistance, unmeasured, floatCurrent, deepDischarges, hotHours,
      rechargeTime, ?_, fun hold port held => ?_, fun hold port held => ?_⟩
    · exact nextDay.trans (congrArg (· + 86400000000) now.symm)
    · rw [stored]
      exact pushRing_getLast (by decide) _ _
    · rw [State.rejudge_qEvent]
      exact told
    · simp [entry, TestRun.loadEntry, judgeTest, open_]
    · have drawn : ¬ i.natAbs < 1000 := by omega
      refine ⟨by simp [entry, TestRun.loadEntry, judgeTest, drawn], ?_, ?_, fun rest hrest => ?_⟩
      · simp [entry, TestRun.loadEntry, judgeTest, drawn]
      · simp [entry, TestRun.loadEntry, judgeTest, drawn]
      · simp [entry, TestRun.loadEntry, judgeTest, drawn, hrest]
    · rw [verdict]
      simp
    · rw [State.rejudge_answersAt]
      exact cHold hold port held
    · rw [State.rejudge_answersAt]
      exact pHold hold port held

end Sys2Proof.Machine
end

section
/-! PROOFS. The door: readings that begin a stand, that have stood, and that follow one that has (R89, R90, R110). -/

namespace Sys2Proof.Machine

section
variable {s : State}

/-- A reading that has stood its time is taken before another one begins its stand. -/
theorem Contact.hear_after {α : Type} [DecidableEq α] (k : Contact α) {reading other : α} {d : Nat} (h : k.stand s = some ⟨reading, d⟩)
    (ended : d ≤ s.now) (differs : other ≠ reading) :
    k.hear other s = k.keep (k.next other (k.take reading (k.keep none s))) (k.take reading (k.keep none s)) := by
  have change : k.hear other s = k.changes other s := k.hear_change fun e he => differs (by
    rw [h] at he
    exact (congrArg Stand.reading (Option.some.inj he)).symm)
  rw [change, Contact.changes, k.settle_over h ended]

theorem Contact.hear_begins {α : Type} [DecidableEq α] (k : Contact α) {reading : α} (new : ∀ e, k.stand s ≠ some ⟨reading, e⟩)
    (standing : ∀ y, k.stand s = some y → s.now < y.ends) :
    k.hear reading s = k.keep (if k.inForce s = some reading then none else some ⟨reading, s.now + k.time⟩) s :=
  (k.hear_change new).trans (k.changes_standing standing)

theorem State.beginTrip_au (o : Origin) (e : Option Element) (c : Currents) (s : State) :
    (s.beginTrip o e c).au = { s.au with selection := none, panel := s.au.panel.cancel .trip } := by
  obtain ⟨au, -⟩ := State.tripPulsed_frame o e c s
  rw [State.beginTrip_eq]
  simp [au]

/-- A trip request leaves the door's contacts as they are. -/
theorem State.requestTrip_door (o : Origin) (s : State) : (s.requestTrip o).au.buttonPressed = s.au.buttonPressed
    ∧ (s.requestTrip o).au.buttonStand = s.au.buttonStand := by
  rcases State.requestTripWith_cases o none s.lmu.currents s with ⟨-, h⟩ | ⟨op, -, -, h⟩ | ⟨op, -, hk, h⟩
  · rw [State.requestTrip, h, State.beginTrip_au]
    exact ⟨rfl, rfl⟩
  · rw [State.requestTrip, h]
    split <;> exact ⟨rfl, rfl⟩
  · rw [State.requestTrip, h, (State.cutClose_spec o none s.lmu.currents hk).2.2.1, State.beginTrip_au]
    exact ⟨rfl, rfl⟩

/-- After a trip request a trip with its origin is in flight (R66, R74). -/
theorem State.requestTrip_flies (o : Origin) (s : State) : ∃ op, (s.requestTrip o).mdr.op = some op ∧ op.kind = .trip ∧ o ∈ op.origins := by
  rcases State.requestTripWith_cases o none s.lmu.currents s with ⟨-, h⟩ | ⟨op, flight, kind, h⟩ | ⟨op, -, hk, h⟩
  · refine ⟨s.newTrip o none s.lmu.currents, ?_, rfl, List.mem_singleton_self _⟩
    rw [State.requestTrip, h, State.beginTrip_mdr]
  · rw [State.requestTrip, h]
    split
    · next joined => exact ⟨op, flight, kind, by simpa using joined⟩
    · exact ⟨_, rfl, kind, by simp⟩
  · refine ⟨(s.withMdr fun m => { m with closeDrive := false }).newTrip o none s.lmu.currents, ?_, rfl, List.mem_singleton_self _⟩
    rw [State.requestTrip, h, (State.cutClose_spec o none s.lmu.currents hk).1, State.beginTrip_mdr]

/-- What a reading of the CONTROL key that has stood leaves of the mode (R89). -/
theorem State.keyReading_au (mode : ControlMode) (s : State) : (s.keyReading mode).au.mode = mode ∧ (s.keyReading mode).au.modeTaken = true
    ∧ (s.keyReading mode).clock = s.clock := by
  unfold State.keyReading State.changeMode
  split
  · next same => exact ⟨same.symm, rfl, rfl⟩
  · split
    · next taken => refine ⟨?_, ?_, ?_⟩ <;> simp [State.withAu, taken]
    · refine ⟨?_, ?_, ?_⟩ <;> simp [State.withAu]

end

/-- Settles O51: every contact, by whether the reading is new, has stood, or follows one that has. -/
theorem doorSwitchesAreKept : Obligations.DoorSwitchesAreKept := by
  intro mode other b d s hp base cancelled moved begun changes button
  have begin_eq (time : Nat) (inForce : Bool) :
      (if some inForce = some b then none else some ⟨b, s.now + time⟩ : Option (Stand Bool)) = begun time inForce := by
    simp [begun, eq_comm]
  have cancelled_eq : s.au.panel.cancel .mode = cancelled := by
    unfold Panel.cancel
    simp only [cancelled]
    split <;> simp_all
  have told (u : State) : (u.event .controlMode [match mode with | .localMode => 1 | .remoteMode => 2]).rpu.unpooled = u.rpu.unpooled := by simp
  refine ⟨fun new standing => ?_, fun stood => ⟨fun same => ?_, fun differs first => ?_, fun differs taken => ?_, fun ended differs => ?_⟩,
    fun ⟨new, standing⟩ => ?_, fun stood => ⟨?_, fun ended => ?_⟩, fun ⟨new, standing⟩ => ?_, fun stood => ⟨?_, fun ended => ?_⟩,
    fun ⟨new, standing⟩ => ?_, fun stood => ⟨fun quiet => ?_, fun ended => ?_⟩⟩
  · refine State.leads_as (f := controlKey.hear mode) hp (by rfl) ?_ rfl rfl
    rw [controlKey.hear_begins new standing]
    have inForce : controlKey.inForce s = some mode ↔ s.au.modeTaken = true ∧ mode = s.au.mode := by
      change (if s.au.modeTaken = true then some s.au.mode else none) = some mode ↔ _
      by_cases taken : s.au.modeTaken = true <;> simp [taken, eq_comm]
    simp only [inForce]
    rfl
  · refine State.leads_as (f := controlKey.hear mode) hp (by rfl) ?_ rfl rfl
    rw [controlKey.hear_stood stood rfl]
    exact if_pos same
  · refine State.leads_as (f := controlKey.hear mode) hp (by rfl) ?_ rfl rfl
    rw [controlKey.hear_stood stood rfl]
    refine (if_neg differs).trans ((if_neg ((Bool.not_eq_true _).mpr first)).trans ?_)
    simp only [moved, ← cancelled_eq]
    rfl
  · refine State.leads_as (f := controlKey.hear mode) hp (by rfl) ?_
      (told _) rfl
    rw [controlKey.hear_stood stood rfl]
    refine (if_neg differs).trans ((if_pos taken).trans ?_)
    have au : ({ s.au with mode := mode, keyStand := none, selection := none, panel := cancelled } : Au) = moved := by
      simp only [moved, ← taken]
    rw [← au, ← cancelled_eq]
    cases mode <;> rfl
  · have done : exec (.controlKeyChange other) s = .next (controlKey.hear other s).rejudge := act_powered hp
    rw [controlKey.hear_after stood ended differs] at done
    obtain ⟨same, taken, clock⟩ := State.keyReading_au mode (controlKey.keep none s)
    refine ⟨_, done, same, taken, ?_⟩
    change controlKey.next other (controlKey.take mode (controlKey.keep none s)) = _
    refine (if_neg ?_).trans (congrArg (fun c : Clock => some (Stand.mk other (c.running + 100000))) clock)
    change ¬ (if (State.keyReading mode _).au.modeTaken = true then some (State.keyReading mode _).au.mode else none) = some other
    rw [if_pos taken, same]
    simpa using Ne.symm differs
  · refine State.leads_as (f := supervisorKey.hear b) hp (by rfl) ?_ rfl rfl
    rw [supervisorKey.hear_begins new standing, ← begin_eq]
    rfl
  · refine State.leads_as (f := supervisorKey.hear b) hp (by rfl) ?_ rfl rfl
    rw [supervisorKey.hear_stood stood rfl]
    rfl
  · refine State.leads_as (f := supervisorKey.hear (!b)) hp (by rfl) ?_ rfl rfl
    rw [supervisorKey.hear_after stood ended (by simp)]
    have next : supervisorKey.next (!b) (supervisorKey.take b (supervisorKey.keep none s)) = some ⟨!b, s.now + 100000⟩ :=
      if_neg (by simp [supervisorKey, State.withAu])
    rw [next]
    rfl
  · refine State.leads_as (f := handleLock.hear b) hp (by rfl) ?_ rfl rfl
    rw [handleLock.hear_begins new standing, ← begin_eq]
    rfl
  · refine State.leads_as (f := handleLock.hear b) hp (by rfl) ?_ rfl rfl
    rw [handleLock.hear_stood stood rfl]
    rfl
  · refine State.leads_as (f := handleLock.hear (!b)) hp (by rfl) ?_ rfl rfl
    rw [handleLock.hear_after stood ended (by simp)]
    have next : handleLock.next (!b) (handleLock.take b (handleLock.keep none s)) = some ⟨!b, s.now + 20000⟩ :=
      if_neg (by simp [handleLock, State.withAu])
    rw [next]
    rfl
  · refine State.leads_as (f := pushbutton.hear b) hp (by cases b <;> rfl) ?_ rfl rfl
    rw [pushbutton.hear_begins new standing, ← begin_eq]
    rfl
  · refine State.leads_as (f := pushbutton.hear b) hp (by cases b <;> rfl) ?_ rfl rfl
    rw [pushbutton.hear_stood stood rfl]
    exact if_neg (by rcases quiet with h | h <;> simp [h, pushbutton, State.withAu])
  · let v := (s.withAu fun a => { a with buttonStand := none }).buttonReading b
    have done : exec (button (!b)) s = .next (pushbutton.hear (!b) s).rejudge := by
      cases b <;> exact act_powered hp
    rw [pushbutton.hear_after stood ended (by simp)] at done
    obtain ⟨pressed, clock⟩ : v.au.buttonPressed = b ∧ v.clock = s.clock := by
      simp only [v, State.buttonReading]
      split
      · exact ⟨(State.requestTrip_door _ _).1, (State.requestTripWith_frame _ _ _ _).1⟩
      · exact ⟨rfl, rfl⟩
    refine ⟨_, done, pressed, ?_, fun press released => ?_⟩
    · change pushbutton.next (!b) v = _
      refine (if_neg ?_).trans (congrArg (fun c : Clock => some (Stand.mk (!b) (c.running + 20000))) clock)
      change ¬ some v.au.buttonPressed = some (!b)
      simp [pressed]
    · have placed : v = (s.withAu fun a => { a with buttonStand := none, buttonPressed := true }).requestTrip .button := by
        simp only [v, State.buttonReading]
        rw [if_pos (by simp [State.withAu, press, released]), press]
        rfl
      change ∃ op, v.mdr.op = some op ∧ _
      rw [placed]
      exact State.requestTrip_flies _ _

end Sys2Proof.Machine
end

section
/-! PROOFS. The frequency tracker: its sources, the cycles they complete and lose, and the state it is in (R7 to R14). -/

namespace Sys2Proof.Machine

/-! ### Locking, leaving and staying (R8, R9, R12) -/

section
variable {s : State} {c d : Channel}

/-- The tracker in a state, before anyone is told. -/
def State.tracked (t : Tracker) (period : Nat) (s : State) : State := { s with lmu := { s.lmu with tracker := t, period := period } }

/-- A change of the tracker's state, as it is told (R12). -/
theorem State.setTracker_eq (t : Tracker) (period : Nat) (s : State) : s.setTracker t period
    = (State.raise .freqState (s.tracked t period)).event .frequencyState
      (t.code :: encOpt (fun c => [channelCode c]) t.source ++ be 2 (roundDiv 100000000 period)) := rfl

theorem State.setTracker_outside (t : Tracker) (period : Nat) (s : State) : (s.setTracker t period).rpu.unpooled = s.rpu.unpooled
    ∧ (s.setTracker t period).ports.unflagged = s.ports.unflagged := by
  rw [State.setTracker_eq]
  exact ⟨by simp [State.tracked], by simp [State.tracked]⟩

theorem State.setTracker_lmu (t : Tracker) (period : Nat) (s : State) :
    (s.setTracker t period).lmu = { s.lmu with tracker := t, period := period } := rfl

theorem State.keepLock_free (h : ∀ d, s.lmu.tracker ≠ .locked d) : s.keepLock = s := by
  unfold State.keepLock
  split
  · next d hd => exact absurd hd (h d)
  · rfl

theorem State.keepLock_stays (h : s.lmu.tracker = .locked d) (listed : d ∈ s.lmu.settings.sources) (good : (s.lmu.channel d).good = true) :
    s.keepLock = s := by
  unfold State.keepLock
  rw [h]
  exact if_pos (by simp [listed, good])

/-- A locked source that is left, for the first good listed one (R8). -/
theorem State.keepLock_moves {e : Channel} (h : s.lmu.tracker = .locked d)
    (left : d ∉ s.lmu.settings.sources ∨ (s.lmu.channel d).good = false)
    (next : s.lmu.settings.sources.find? (fun d => (s.lmu.channel d).good) = some e) : s.keepLock = s.lockTo e := by
  unfold State.keepLock
  rw [h]
  dsimp only
  rw [if_neg (by rcases left with h | h <;> simp [h]), next]

/-- A locked source that is left with no good one listed (R8). -/
theorem State.keepLock_loses (h : s.lmu.tracker = .locked d)
    (none_ : s.lmu.settings.sources.find? (fun d => (s.lmu.channel d).good) = none) :
    s.keepLock = s.setTracker (.holdover (s.now + 10000000)) s.lmu.period := by
  have left : ¬ ((s.lmu.settings.sources.contains d && (s.lmu.channel d).good) = true) := by
    rw [Bool.and_eq_true, List.contains_iff_mem]
    rintro ⟨listed, good⟩
    exact List.find?_eq_none.mp none_ d listed good
  unfold State.keepLock
  rw [h]
  dsimp only
  rw [if_neg left, none_]
  rfl

/-- Whether a channel has been good for 500 ms (R9). -/
def VoltageChannel.ripe (now : Nat) (v : VoltageChannel) : Bool :=
  match v.goodSince with
  | some since => since + 500000 ≤ now
  | none => false

theorem Lmu.lockTime_ripe (l : Lmu) (now : Nat) (c : Channel) : (l.lockTime c).any (· ≤ now) = (l.channel c).ripe now := by
  have time : lockQualification = 500000 := rfl
  unfold Lmu.lockTime VoltageChannel.ripe
  rw [time]
  cases (l.channel c).goodSince with
  | none => rfl
  | some since => exact Option.any_some

theorem State.tryLock_locked (h : s.lmu.tracker = .locked d) : s.tryLock = s := by
  unfold State.tryLock
  rw [h]

theorem State.tryLock_none (none_ : s.lmu.settings.sources.find? (fun c => (s.lmu.channel c).ripe s.now) = none) : s.tryLock = s := by
  unfold State.tryLock
  simp only [Lmu.lockTime_ripe, none_]
  split <;> rfl

theorem State.tryLock_some (free : ∀ d, s.lmu.tracker ≠ .locked d)
    (first : s.lmu.settings.sources.find? (fun c => (s.lmu.channel c).ripe s.now) = some c) : s.tryLock = s.lockTo c := by
  unfold State.tryLock
  simp only [Lmu.lockTime_ripe, first]

end

/-! ### TRACKER SOURCES (R13, R14) -/

theorem trackerBad_eq (sources : List Nat) (freq volts squelch : Nat) : trackerBad sources freq volts squelch = firstFailing
    [1 ≤ sources.length ∧ sources.length ≤ 4 ∧ sources.Nodup ∧ (∀ n ∈ sources, 1 ≤ n ∧ n ≤ 6), freq = 5000 ∨ freq = 6000,
     1000 ≤ volts ∧ volts ≤ 20000, 10 ≤ squelch ∧ squelch ≤ 50] := by
  have list : (within 1 4 sources.length && sources.Nodup && sources.all (within 1 6)) = decide (1 ≤ sources.length ∧ sources.length ≤ 4
      ∧ sources.Nodup ∧ ∀ n ∈ sources, 1 ≤ n ∧ n ≤ 6) := by
    rw [Bool.eq_iff_iff]
    simp [within, and_assoc]
  have freq_eq : (freq == 5000 || freq == 6000) = decide (freq = 5000 ∨ freq = 6000) := by
    rw [Bool.eq_iff_iff]
    simp
  rw [trackerBad, firstBad_eq, list, freq_eq, within_eq, within_eq]

/-- Settles O29: the checks, and the tracker by the state it was in and the sources left good. -/
theorem trackerSourcesActAtOnce : Obligations.TrackerSourcesActAtOnce := by
  intro src ref sources freq volts squelch port s c ht bad r leaves l done told good ripe held
  have checks : trackerBad sources freq volts squelch = bad := trackerBad_eq _ _ _ _
  refine ⟨fun n hb => State.refuses_invalid (kind := .trackerSources) rfl (by rfl) ht (by simp only [checks.trans hb]), fun hb => ?_⟩
  have l_eq : s.lmu.replaceSettings r = l := by
    simp [Lmu.replaceSettings, TrackerSettings.leave, l, leaves, VoltageChannel.delist]
  let u : State := { s with lmu := { l with period := held } }
  have placed {v : State} (h : u.keepLock.tryLock = v) (hr : v.rpu.unpooled = s.rpu.unpooled) (hp : v.ports.unflagged = s.ports.unflagged) :
      s.completes c port .done [] (v.place .tracker) := by
    refine State.completes_as (kind := .trackerSources) rfl (by rfl) ht ?_ (by simpa using hr) (by simpa using hp)
    have new : s.newSources r = v := by
      rw [← h, State.newSources, l_eq]
      rfl
    simp only [checks.trans hb]
    exact congrArg (fun u : State => Taken.code .done (u.place .tracker)) new
  have as_is (t : Tracker) (p : Nat) (h : s.lmu.tracker = t) (same : held = p) :
      u = { s with lmu := { l with tracker := t, period := p } } := by
    subst h same
    rfl
  have outside (t : Tracker) (p : Nat) (x : State) (hx : x.rpu = s.rpu ∧ x.ports = s.ports) :
      (x.setTracker t p).rpu.unpooled = s.rpu.unpooled ∧ (x.setTracker t p).ports.unflagged = s.ports.unflagged := by
    obtain ⟨rpu, ports⟩ := State.setTracker_outside t p x
    exact ⟨rpu.trans (congrArg Rpu.unpooled hx.1), ports.trans (congrArg Ports.unflagged hx.2)⟩
  have channel (d : Channel) : u.lmu.channel d = l.channel d := by cases d <;> rfl
  have good_eq : (fun d => (u.lmu.channel d).good) = good := funext fun d => congrArg VoltageChannel.good (channel d)
  have ripe_eq : (fun d => (u.lmu.channel d).ripe u.now) = ripe := funext fun d => by rw [channel]; rfl
  have held_locked {d : Channel} (h : s.lmu.tracker = .locked d) : held = s.lmu.period := by simp [held, h]
  have locked_told (e : Channel) (v : State) (hv : v = u.lockTo e) : State.place .tracker v
      = told (.locked e) [1, channelCode e] (((l.channel e).period).getD held) := by
    rw [hv, State.lockTo, channel]
    rfl
  refine ⟨fun d hd listed fine => ?_, fun d e hd left next => ?_, fun d hd gone unripe => ?_, fun hd unripe => ?_, fun h hd unripe => ?_,
    fun e free first => ?_⟩
  · rw [show done (.locked d) s.lmu.period = u.place .tracker from congrArg (State.place .tracker) (as_is _ _ hd (held_locked hd)).symm]
    refine placed ?_ rfl rfl
    rw [State.keepLock_stays (s := u) hd listed (by rw [channel]; exact fine), State.tryLock_locked (s := u) hd]
  · have moved : u.keepLock.tryLock = u.lockTo e := by
      rw [State.keepLock_moves (s := u) hd (left.imp_right fun h => by rw [channel]; exact h) (by rw [good_eq]; exact next)]
      exact State.tryLock_locked (d := e) rfl
    have told_eq := locked_told e _ rfl
    rw [held_locked hd] at told_eq
    rw [← told_eq]
    obtain ⟨rpu, ports⟩ := outside (.locked e) (((u.lmu.channel e).period).getD u.lmu.period) u ⟨rfl, rfl⟩
    exact placed moved rpu ports
  · have lost : u.keepLock = u.setTracker (.holdover (u.now + 10000000)) u.lmu.period :=
      State.keepLock_loses (s := u) hd (by rw [good_eq]; exact List.find?_eq_none.mpr fun d h => by simp [gone d h])
    have stays : (u.setTracker (.holdover (u.now + 10000000)) u.lmu.period).tryLock = u.setTracker (.holdover (u.now + 10000000)) u.lmu.period := by
      refine State.tryLock_none ?_
      have same (d : Channel) : ((u.setTracker (.holdover (u.now + 10000000)) u.lmu.period).lmu.channel d).ripe
          (u.setTracker (.holdover (u.now + 10000000)) u.lmu.period).now = ripe d := by
        rw [← ripe_eq]
        cases d <;> rfl
      simp only [same]
      exact unripe
    obtain ⟨rpu, ports⟩ := outside (.holdover (u.now + 10000000)) u.lmu.period u ⟨rfl, rfl⟩
    have told_eq : told (.holdover (s.now + 10000000)) [0] s.lmu.period
        = State.place .tracker (u.setTracker (.holdover (u.now + 10000000)) u.lmu.period) := by
      rw [← held_locked hd]
      rfl
    rw [told_eq]
    exact placed (by rw [lost, stays]) rpu ports
  · have nominal : held = roundDiv 100000000 freq := by simp [held, hd]
    rw [show done .nominal (roundDiv 100000000 freq) = u.place .tracker from congrArg (State.place .tracker) (as_is _ _ hd nominal).symm]
    refine placed ?_ rfl rfl
    rw [State.keepLock_free (s := u) (fun d h => nomatch hd.symm.trans h), State.tryLock_none (by rw [ripe_eq]; exact unripe)]
  · have kept : held = s.lmu.period := by simp [held, hd]
    rw [show done (.holdover h) s.lmu.period = u.place .tracker from congrArg (State.place .tracker) (as_is _ _ hd kept).symm]
    refine placed ?_ rfl rfl
    rw [State.keepLock_free (s := u) (fun d h => nomatch hd.symm.trans h), State.tryLock_none (by rw [ripe_eq]; exact unripe)]
  · rw [← locked_told e _ rfl]
    obtain ⟨rpu, ports⟩ := outside (.locked e) (((u.lmu.channel e).period).getD u.lmu.period) u ⟨rfl, rfl⟩
    refine placed ?_ rpu ports
    rw [State.keepLock_free (s := u) free, State.tryLock_some (s := u) free (by rw [ripe_eq]; exact first)]

end Sys2Proof.Machine
end

section
/-! PROOFS. What a completed cycle, a lost crossing and the tracker's timers do (R7 to R10, R12). -/

namespace Sys2Proof.Machine

/-! ### The channels -/

theorem Lmu.channel_tracked (l : Lmu) (t : Tracker) (p : Nat) (d : Channel) :
    Lmu.channel d { l with tracker := t, period := p } = l.channel d := by cases d <;> rfl

theorem Lmu.channel_setChannel (l : Lmu) (c d : Channel) (v : VoltageChannel) :
    (l.setChannel c v).channel d = if d = c then v else l.channel d := by
  cases c <;> cases d <;> rfl

theorem Lmu.setChannel_rest (l : Lmu) (c : Channel) (v : VoltageChannel) :
    (l.setChannel c v).tracker = l.tracker ∧ (l.setChannel c v).settings = l.settings ∧ (l.setChannel c v).period = l.period := by
  cases c <;> exact ⟨rfl, rfl, rfl⟩

theorem VoltageChannel.period_of_length {v : VoltageChannel} (h : v.cycles.length = 4) : v.period = some (roundDiv v.cycles.sum 4) := by
  obtain ⟨a, b, c, d, e⟩ := List.length_eq_four.mp h
  rw [VoltageChannel.period, e]
  simp [Nat.add_assoc]

theorem VoltageChannel.period_none {v : VoltageChannel} (h : v.cycles.length ≠ 4) : v.period = none := by
  unfold VoltageChannel.period
  split
  · next e => exact absurd (by rw [e]; rfl) h
  · rfl

/-- R7: live, with four cycles whose mean is between 40 and 70 Hz. -/
theorem VoltageChannel.good_iff (v : VoltageChannel) : v.good = true ↔ v.live = true ∧ v.cycles.length = 4
    ∧ 4000 ≤ roundDiv 100000000 (roundDiv v.cycles.sum 4) ∧ roundDiv 100000000 (roundDiv v.cycles.sum 4) ≤ 7000 := by
  by_cases h : v.cycles.length = 4
  · simp only [VoltageChannel.good, VoltageChannel.period_of_length h, h, Bool.and_eq_true, true_and]
    exact and_congr_right fun _ => and_congr decide_eq_true_iff decide_eq_true_iff
  · simp [VoltageChannel.good, VoltageChannel.period_none h, h]

theorem VoltageChannel.refresh_good (now : Nat) (v : VoltageChannel) : (v.refresh now).good = v.good := rfl

theorem VoltageChannel.refresh_bad {now : Nat} {v : VoltageChannel} (h : v.good = false) : v.refresh now = { v with goodSince := none } := by
  simp [VoltageChannel.refresh, h]

theorem VoltageChannel.refresh_since (now : Nat) (v : VoltageChannel) : (v.refresh now).goodSince ≠ none ↔ v.good = true := by
  unfold VoltageChannel.refresh
  cases v.good <;> simp

section
variable {s : State} {c d : Channel}

/-- The judgement of the tracker leaves the channels as they are. -/
theorem State.keepLock_lmu (s : State) : ∃ t p, s.keepLock.lmu = { s.lmu with tracker := t, period := p } := by
  unfold State.keepLock State.lockTo
  repeat' split
  · exact ⟨s.lmu.tracker, s.lmu.period, rfl⟩
  · exact ⟨_, _, rfl⟩
  · exact ⟨_, _, rfl⟩
  · exact ⟨s.lmu.tracker, s.lmu.period, rfl⟩

theorem State.keepLock_channel (s : State) (d : Channel) : s.keepLock.lmu.channel d = s.lmu.channel d := by
  obtain ⟨t, p, h⟩ := s.keepLock_lmu
  rw [h, Lmu.channel_tracked]

theorem State.followSource_channel (c d : Channel) (s : State) : (s.followSource c).lmu.channel d = s.lmu.channel d := by
  unfold State.followSource
  split
  · exact Lmu.channel_tracked s.lmu s.lmu.tracker _ d
  · rfl

theorem State.followSource_bad (h : (s.lmu.channel c).good = false) : s.followSource c = s := if_neg (by simp [h])

/-- A completed cycle of the locked source that leaves it good sets the period (R8). -/
theorem State.followSource_good (h : s.lmu.tracker = .locked c) (good : (s.lmu.channel c).good = true) :
    s.followSource c = s.tracked (.locked c) (roundDiv (s.lmu.channel c).cycles.sum 4) := by
  have period := VoltageChannel.period_of_length ((VoltageChannel.good_iff _).mp good).2.1
  unfold State.followSource
  rw [if_pos (by simp [h, good]), period, ← h]
  rfl

/-- A locked source that is not good is not kept (R8). -/
theorem State.keepLock_unlocks (h : s.lmu.tracker = .locked c) (bad : (s.lmu.channel c).good = false) : s.keepLock.lmu.tracker ≠ .locked c := by
  cases next : s.lmu.settings.sources.find? (fun d => (s.lmu.channel d).good) with
  | some e =>
    rw [State.keepLock_moves h (.inr bad) next]
    intro same
    have same : e = c := by injection same
    have good := List.find?_some next
    rw [same, bad] at good
    exact Bool.false_ne_true good
  | none =>
    rw [State.keepLock_loses h next]
    exact Tracker.noConfusion

/-- A locked source that is no longer good: where the tracker goes, as it is told (R8, R12). -/
theorem State.leads_left {i : Instr} {f : State → State} (hp : s.powered = true) (he : exec i s = act f s) {u : State} (hf : f s = u.keepLock)
    (hr : u.rpu = s.rpu) (hl : u.ports = s.ports) (h : u.lmu.tracker = .locked c) (bad : (u.lmu.channel c).good = false) :
    (∀ e, u.lmu.settings.sources.find? (fun d => (u.lmu.channel d).good) = some e → s.leads i (u.lockTo e))
      ∧ (u.lmu.settings.sources.find? (fun d => (u.lmu.channel d).good) = none →
          s.leads i (u.setTracker (.holdover (u.now + 10000000)) u.lmu.period)) := by
  have outside (t : Tracker) (p : Nat) : (u.setTracker t p).rpu.unpooled = s.rpu.unpooled ∧ (u.setTracker t p).ports.lPartial = s.ports.lPartial := by
    obtain ⟨rpu, ports⟩ := State.setTracker_outside t p u
    have lPartial := congrArg Ports.lPartial ports
    have same := congrArg Ports.lPartial hl
    exact ⟨rpu.trans (congrArg _ hr), Eq.trans lPartial same⟩
  refine ⟨fun e next => ?_, fun next => ?_⟩
  · exact State.leads_as hp he (hf.trans (State.keepLock_moves h (.inr bad) next)) (outside _ _).1 (outside _ _).2
  · exact State.leads_as hp he (hf.trans (State.keepLock_loses h next)) (outside _ _).1 (outside _ _).2

/-- A channel without cycles is not good. -/
theorem VoltageChannel.empty_bad (v : VoltageChannel) (since : Option Nat) : VoltageChannel.good { v with cycles := [], goodSince := since } = false := by
  simp [VoltageChannel.good, VoltageChannel.period]

theorem State.crossingLost_eq (h : (s.lmu.channel c).cycles ≠ []) : s.crossingLost c
    = State.keepLock { s.reach ((s.lmu.channel c).lastCrossing + 30000) with
        lmu := s.lmu.setChannel c { s.lmu.channel c with cycles := [], goodSince := none } } := by
  have fresh (now : Nat) : ({ s.lmu.channel c with cycles := [] } : VoltageChannel).refresh now
      = { s.lmu.channel c with cycles := [], goodSince := none } := VoltageChannel.refresh_bad (VoltageChannel.empty_bad _ _)
  unfold State.crossingLost
  rw [if_neg (by simpa using h)]
  exact congrArg (fun v => State.keepLock { s.reach ((s.lmu.channel c).lastCrossing + 30000) with lmu := s.lmu.setChannel c v }) (fresh _)

/-- The first moment a listed source has been good for 500 ms, given the earliest good-since time. -/
theorem Lmu.firstLock_eq {l : Lmu} {since : Nat} (least : ∀ d ∈ l.settings.sources, ∀ other, (l.channel d).goodSince = some other → since ≤ other)
    (listed : c ∈ l.settings.sources) (ripe : (l.channel c).goodSince = some since) : l.firstLock = some (since + 500000) := by
  have time : lockQualification = 500000 := rfl
  unfold Lmu.firstLock
  rw [List.min?_eq_some_iff]
  refine ⟨List.mem_filterMap.mpr ⟨c, listed, by rw [Lmu.lockTime, ripe, time]; rfl⟩, fun b hb => ?_⟩
  obtain ⟨d, hd, he⟩ := List.mem_filterMap.mp hb
  unfold Lmu.lockTime at he
  obtain ⟨other, ho, rfl⟩ := Option.map_eq_some_iff.mp he
  exact Nat.add_le_add_right (least d hd other ho) _

theorem Lmu.lockTime_beq (l : Lmu) (c : Channel) (since : Nat) :
    (l.lockTime c == some (since + 500000)) = ((l.channel c).goodSince == some since) := by
  have time : lockQualification = 500000 := rfl
  rw [Bool.eq_iff_iff, beq_iff_eq, beq_iff_eq, Lmu.lockTime, time]
  cases (l.channel c).goodSince with
  | none => exact ⟨nofun, nofun⟩
  | some other => exact ⟨fun h => congrArg some (Nat.add_right_cancel (Option.some.inj h)), fun h => congrArg _ h⟩

/-- The tracker locks at the first moment a listed source has been good for 500 ms (R9). -/
theorem State.lockQualified_leads {t : Nat} (hp : s.powered = true) (free : ∀ d, s.lmu.tracker ≠ .locked d) (moment : s.lmu.firstLock = some t)
    (chosen : (s.lmu.settings.sources.find? fun c => s.lmu.lockTime c == some t) = some c) :
    s.leads .sourceLockQualified ((s.reach t).setTracker (.locked c) (((s.lmu.channel c).period).getD s.lmu.period)) := by
  have result : s.lockQualified = (s.reach t).lockTo c := by
    unfold State.lockQualified
    rw [moment]
    simp only [chosen]
  obtain ⟨rpu, ports⟩ := State.setTracker_outside (.locked c) (((s.lmu.channel c).period).getD s.lmu.period) (s.reach t)
  have lPartial := congrArg Ports.lPartial ports
  exact State.leads_as (f := State.lockQualified) hp (by rfl) result rpu lPartial

end

/-- Settles O40: a cycle, a lost crossing, and the two moments of the tracker's own. -/
theorem trackerFollowsItsSources : Obligations.TrackerFollowsItsSources := by
  intro ch length s hp told good left cycled counted lost emptied
  have good_iff (v : VoltageChannel) : v.good = true ↔ good v := VoltageChannel.good_iff v
  refine ⟨?_, fun locked bad => ?_, fun ran => ?_, fun locked ran => ?_, fun since free least first => ?_, fun d held => ?_⟩
  · let x := ((s.lmu.channel ch).complete length cycled.now).refresh cycled.now
    let u : State := { cycled with lmu := s.lmu.setChannel ch x }
    have done : exec (.sourceCycleComplete ch length) s = .next ((u.followSource ch).keepLock).rejudge := act_powered (f := (·.cycleComplete ch length)) hp
    obtain ⟨tracker, settings, period⟩ := Lmu.setChannel_rest s.lmu ch x
    have channel (e : Channel) : ((u.followSource ch).keepLock).lmu.channel e = if e = ch then x else s.lmu.channel e := by
      rw [State.keepLock_channel, State.followSource_channel]
      exact Lmu.channel_setChannel _ _ _ _
    have own : ((u.followSource ch).keepLock).lmu.channel ch = x := by rw [channel, if_pos rfl]
    have clock : ((u.followSource ch).keepLock).clock = cycled.clock := by simp [u]
    have mine : u.lmu.channel ch = x := by
      have h := Lmu.channel_setChannel s.lmu ch ch x
      rwa [if_pos rfl] at h
    refine ⟨_, done, ?_⟩
    change (((u.followSource ch).keepLock).lmu.channel ch).cycles = _ ∧ (((u.followSource ch).keepLock).lmu.channel ch).live = _
      ∧ (((u.followSource ch).keepLock).lmu.channel ch).lastCrossing = ((u.followSource ch).keepLock).clock.running
      ∧ ((u.followSource ch).keepLock).clock.running = _
      ∧ ((((u.followSource ch).keepLock).lmu.channel ch).goodSince ≠ none ↔ good (((u.followSource ch).keepLock).lmu.channel ch))
      ∧ (_ → _ → good (((u.followSource ch).keepLock).lmu.channel ch) → ((u.followSource ch).keepLock).lmu.period
          = roundDiv (((u.followSource ch).keepLock).lmu.channel ch).cycles.sum 4 ∧ ((u.followSource ch).keepLock).lmu.tracker = _)
      ∧ (∀ e, e ≠ ch → ((u.followSource ch).keepLock).lmu.channel e = _) ∧ _
    rw [own, clock, ← good_iff]
    refine ⟨rfl, rfl, rfl, Nat.max_comm _ _, VoltageChannel.refresh_since _ _, fun locked listed fine => ?_, fun e h => by rw [channel, if_neg h], ?_⟩
    · have locked : u.lmu.tracker = .locked ch := tracker.trans locked
      have follows := State.followSource_good locked (by rw [mine]; exact fine)
      have stays : (u.followSource ch).keepLock = u.followSource ch := by
        rw [follows]
        refine State.keepLock_stays (d := ch) rfl ?_ ?_
        · change ch ∈ u.lmu.settings.sources
          rw [settings]
          exact listed
        · have same := Lmu.channel_tracked u.lmu (.locked ch) (roundDiv (u.lmu.channel ch).cycles.sum 4) ch
          exact (congrArg VoltageChannel.good (same.trans mine)).trans fine
      rw [stays, follows, mine]
      exact ⟨rfl, rfl⟩
    · have frame (v : State) : v.rejudge.sqc = v.sqc ∧ v.rejudge.mdr = v.mdr ∧ v.rejudge.oeb = v.oeb ∧ v.rejudge.au = v.au ∧ v.rejudge.bcu = v.bcu
          ∧ v.rejudge.oru = v.oru ∧ v.rejudge.nvs = v.nvs := ⟨rfl, rfl, rfl, rfl, rfl, rfl, rfl⟩
      obtain ⟨sqc, mdr, oeb, au, bcu, oru, nvs⟩ := frame ((u.followSource ch).keepLock)
      rw [sqc, mdr, oeb, au, bcu, oru, nvs]
      simp [u, cycled]
  · have bad : counted.good = false := by
      rw [← Bool.not_eq_true, good_iff]
      exact bad
    let u : State := { cycled with lmu := s.lmu.setChannel ch { counted with goodSince := none } }
    obtain ⟨tracker, settings, period⟩ := Lmu.setChannel_rest s.lmu ch { counted with goodSince := none }
    have mine : u.lmu.channel ch = { counted with goodSince := none } := by
      have h := Lmu.channel_setChannel s.lmu ch ch { counted with goodSince := none }
      rwa [if_pos rfl] at h
    have bad_mine : (u.lmu.channel ch).good = false := by rw [mine]; exact bad
    have result : s.cycleComplete ch length = u.keepLock := by
      have fresh : ((s.lmu.channel ch).complete length cycled.now).refresh cycled.now = { counted with goodSince := none } :=
        VoltageChannel.refresh_bad (v := counted) bad
      have set : ({ cycled with lmu := s.lmu.setChannel ch (((s.lmu.channel ch).complete length cycled.now).refresh cycled.now) } : State) = u := by
        rw [fresh]
      change (State.followSource ch { cycled with lmu := s.lmu.setChannel ch (((s.lmu.channel ch).complete length cycled.now).refresh cycled.now) }).keepLock = _
      rw [set, State.followSource_bad bad_mine]
    obtain ⟨moves, loses⟩ := State.leads_left (f := (·.cycleComplete ch length)) hp (i := .sourceCycleComplete ch length) (by rfl) result rfl rfl
      (tracker.trans locked) bad_mine
    rw [settings] at moves loses
    refine ⟨fun e next => ?_, fun next => ?_⟩
    · rw [← period]
      exact moves e next
    · rw [← period]
      exact loses next
  · have done : exec (.noCrossingTimeout ch) s = .next (s.crossingLost ch).rejudge := act_powered (f := (·.crossingLost ch)) hp
    rw [State.crossingLost_eq ran] at done
    let u : State := { lost with lmu := s.lmu.setChannel ch emptied }
    have channel (e : Channel) : u.lmu.channel e = if e = ch then emptied else s.lmu.channel e := Lmu.channel_setChannel _ _ _ _
    obtain ⟨tracker, settings, period⟩ := Lmu.setChannel_rest s.lmu ch emptied
    have bad : (u.lmu.channel ch).good = false := by rw [channel, if_pos rfl]; exact VoltageChannel.empty_bad _ _
    refine ⟨_, done, ?_, fun e h => ?_, ?_, fun locked => ?_, fun others => ?_⟩
    · exact (State.keepLock_channel u ch).trans (by rw [channel, if_pos rfl])
    · exact (State.keepLock_channel u e).trans (by rw [channel, if_neg h])
    · exact (State.keepLock_frame u).1
    · exact State.keepLock_unlocks (s := u) (tracker.trans locked) bad
    · have stays : u.keepLock = u := by
        cases state : s.lmu.tracker with
        | locked d =>
          obtain ⟨other, listed, fine⟩ := others d state
          refine State.keepLock_stays (s := u) (tracker.trans state) ?_ ?_
          · rw [settings]
            exact listed
          · rw [channel, if_neg other]
            exact (good_iff _).mpr fine
        | holdover d => exact State.keepLock_free (s := u) fun e he => nomatch (tracker.trans state).symm.trans he
        | nominal => exact State.keepLock_free (s := u) fun e he => nomatch (tracker.trans state).symm.trans he
      change u.keepLock.lmu.tracker = _ ∧ u.keepLock.lmu.period = _
      rw [stays]
      exact ⟨tracker, period⟩
  · let u : State := { lost with lmu := s.lmu.setChannel ch emptied }
    obtain ⟨tracker, settings, period⟩ := Lmu.setChannel_rest s.lmu ch emptied
    have bad : (u.lmu.channel ch).good = false := by
      have own : u.lmu.channel ch = if ch = ch then emptied else s.lmu.channel ch := Lmu.channel_setChannel _ _ _ _
      rw [own, if_pos rfl]
      exact VoltageChannel.empty_bad _ _
    obtain ⟨moves, loses⟩ := State.leads_left (f := (·.crossingLost ch)) (u := u) hp (i := .noCrossingTimeout ch) (by rfl) (State.crossingLost_eq ran) rfl
      rfl (tracker.trans locked) bad
    rw [settings] at moves loses
    refine ⟨fun e next => ?_, fun next => ?_⟩
    · rw [← period]
      exact moves e next
    · rw [← period]
      exact loses next
  · have listed := List.mem_of_find?_eq_some first
    have ripe : (s.lmu.channel ch).goodSince = some since := by simpa using List.find?_some first
    have moment := Lmu.firstLock_eq least listed ripe
    have chosen : (s.lmu.settings.sources.find? fun c => s.lmu.lockTime c == some (since + 500000)) = some ch := by
      rw [← first]
      exact congrArg (fun p => List.find? p s.lmu.settings.sources) (funext fun d => s.lmu.lockTime_beq d since)
    exact State.lockQualified_leads hp free moment chosen
  · obtain ⟨rpu, ports⟩ := State.setTracker_outside .nominal (roundDiv 100000000 s.lmu.settings.nominalFreq) (s.reach d)
    have lPartial := congrArg Ports.lPartial ports
    refine State.leads_as (f := State.holdoverOver) hp (by rfl) ?_ rpu lPartial
    unfold State.holdoverOver
    rw [held]
    rfl

end Sys2Proof.Machine
end

section
/-! PROOFS. An alarm asked for stays queued or held with its payload until one of its own identity is asked for (R136, R137). -/

namespace Sys2Proof.Machine

/-- An alarm of the identity is queued or held with the payload. -/
def Rpu.asks (id : AlarmId) (payload : List Byte) (r : Rpu) : Prop :=
  ∃ x ∈ r.qAlarm ++ r.held, x.kind = .alarm id ∧ x.payload = payload

/-- From one state of the pool to the next: its invariant and the alarms of one identity stay. -/
def Rpu.spares (id : AlarmId) (r r' : Rpu) : Prop := r.poolOk → r'.poolOk ∧ ∀ payload, r.asks id payload → r'.asks id payload

def State.spares (id : AlarmId) (s t : State) : Prop := s.rpu.spares id t.rpu

section
variable {id other : AlarmId} {r r' r'' : Rpu}

theorem Rpu.spares.refl (id : AlarmId) (r : Rpu) : r.spares id r := fun h => ⟨h, fun _ asked => asked⟩

theorem Rpu.spares.trans (h : r.spares id r') (h' : r'.spares id r'') : r.spares id r'' := fun ok =>
  have ⟨ok', keeps⟩ := h ok
  have ⟨ok'', keeps'⟩ := h' ok'
  ⟨ok'', fun payload asked => keeps' payload (keeps payload asked)⟩

/-- An alarm of another identity. -/
theorem Rpu.alarm_spares (differs : other ≠ id) (now : Stamp) (payload : List Byte) (r : Rpu) : r.spares id (r.alarm now other payload) := by
  refine fun ok => ⟨Rpu.alarm_poolOk ok now other payload, fun own ⟨x, hx, kind, same⟩ => ?_⟩
  have merged : Report.merge other payload x = x := by
    unfold Report.merge
    exact if_neg (by simp [kind, Ne.symm differs])
  unfold Rpu.asks Rpu.alarm
  rcases List.mem_append.mp hx with hx | hx
  · split
    · exact ⟨x, List.mem_append_left _ (List.mem_map.mpr ⟨x, hx, merged⟩), kind, same⟩
    · split
      · exact ⟨x, List.mem_append_left _ hx, kind, same⟩
      · exact ⟨x, List.mem_append_left _ (List.mem_append_left _ hx), kind, same⟩
  · split
    · exact ⟨x, List.mem_append_right _ hx, kind, same⟩
    · split
      · exact ⟨x, List.mem_append_right _ (List.mem_map.mpr ⟨x, hx, merged⟩), kind, same⟩
      · exact ⟨x, List.mem_append_right _ hx, kind, same⟩

/-- Two objects of the pool that are not the same differ in their numbers. -/
theorem Rpu.object_injective (ok : r.poolOk) {x y : Report} (hx : x ∈ r.used) (hy : y ∈ r.used) (same : x.object = y.object) : x = y := by
  obtain ⟨-, -, -, -, -, distinct, -⟩ := ok
  exact List.inj_on_of_nodup_map distinct hx hy same

/-- An eviction takes no alarm (R137). -/
theorem Rpu.evict_spares (id : AlarmId) (r : Rpu) : r.spares id r.evict := by
  refine fun ok => ⟨Rpu.evict_poolOk ok, fun payload ⟨x, hx, kind, same⟩ => ?_⟩
  refine ⟨x, ?_, kind, same⟩
  unfold Rpu.evict
  repeat' split
  case isTrue => exact hx
  case h_1 => exact hx
  case h_2 => exact hx
  case h_4 => exact hx
  case h_3 y _ _ hy =>
    have held := List.mem_filter.mp (oldest_mem hy)
    rcases List.mem_append.mp hx with hx | hx
    · exact List.mem_append_left _ hx
    · refine List.mem_append_right _ (List.mem_filter.mpr ⟨hx, ?_⟩)
      have differs : x.object ≠ y.object := fun e => by
        have same := Rpu.object_injective ok (r.queued_mem_used (x := x) (by simp [hx])) (r.queued_mem_used (x := y) (by simp [held.1])) e
        rw [← same, kind] at held
        exact Bool.false_ne_true held.2
      simpa using differs

theorem Rpu.event_spares (id : AlarmId) (now : Stamp) (kind : EventKind) (payload : List Byte) (r : Rpu) :
    r.spares id (r.event now kind payload) := fun ok => ⟨Rpu.event_poolOk ok now kind payload, (r.evict_spares id ok).2⟩

end

section
variable {id other : AlarmId} {s t u : State}

theorem State.spares.refl (id : AlarmId) (s : State) : s.spares id s := Rpu.spares.refl _ _

theorem State.spares.trans (h : s.spares id t) (h' : t.spares id u) : s.spares id u := Rpu.spares.trans h h'

/-- What leaves the RPU alone spares every alarm. -/
theorem State.spares.same (h : s.spares id t) (e : u.rpu = t.rpu) : s.spares id u := by
  unfold State.spares
  rw [e]
  exact h

theorem State.spares.alarm (h : s.spares id t) (differs : id ≠ other) (payload : List Byte) : s.spares id (t.alarm other payload) :=
  Rpu.spares.trans h (Rpu.alarm_spares differs.symm _ _ _)

theorem State.spares.event (h : s.spares id t) (kind : EventKind) (payload : List Byte) : s.spares id (t.event kind payload) :=
  Rpu.spares.trans h (Rpu.event_spares _ _ _ _ _)

theorem State.spares.raise (h : s.spares id t) (f : Flag) : s.spares id (t.raise f) := h

theorem State.spares.place (h : s.spares id t) (r : RecordId) : s.spares id (t.place r) := h.same (by simp)

/-- After an alarm has been asked for, it is there, and in a pool that is in order. -/
theorem State.alarm_asks (payload : List Byte) (ok : s.rpu.poolOk) :
    (s.alarm id payload).rpu.poolOk ∧ (s.alarm id payload).rpu.asks id payload :=
  ⟨Rpu.alarm_poolOk ok _ _ _, Rpu.alarm_mem _ _ _ _⟩

theorem State.spares.carry {payload : List Byte} (h : s.spares id t) (asked : s.rpu.poolOk ∧ s.rpu.asks id payload) :
    t.rpu.poolOk ∧ t.rpu.asks id payload :=
  have ⟨ok, keeps⟩ := h asked.1
  ⟨ok, keeps payload asked.2⟩

/-- The judgement of the radio leaves the alarms as they are. -/
theorem State.rejudge_asks {payload : List Byte} : t.rejudge.rpu.asks id payload ↔ t.rpu.asks id payload := by
  unfold Rpu.asks
  rw [State.rejudge_qAlarm, State.rejudge_held]

/-! ### What the units do to the alarms of one identity -/

theorem State.spares.activationTest (h : s.spares id t) : s.spares id t.activationTest := by
  rcases t.activationTest_cases with e | ⟨staged, -, -, e⟩ <;> rw [e]
  · exact h
  · unfold State.activate
    dsimp only
    exact (State.spares.raise (h.same (by simp)) _).event _ _

theorem State.spares.judgeWear (h : s.spares id t) (differs : id ≠ .wearLimit) : s.spares id t.judgeWear := by
  have ask {u : State} (hu : s.spares id u) (b : Bool) (payload : List Byte) : s.spares id (if b then u.alarm .wearLimit payload else u) := by
    split
    · exact hu.alarm differs payload
    · exact hu
  unfold State.judgeWear
  refine ask (ask (ask ?_ _ _) _ _) _ _
  exact h.same rfl

theorem State.spares.record (h : s.spares id t) (differs : id ≠ .wearLimit) (r : OpRecord) : s.spares id (t.record r) := by
  unfold State.record
  dsimp only
  split
  · refine State.spares.place (State.spares.place (State.spares.judgeWear ?_ differs) _) _
    exact h.same rfl
  · refine State.spares.place (State.spares.place ?_ _) _
    exact h.same rfl

/-- A record without currents wears nothing and asks for nothing. -/
theorem State.spares.newRecord (h : s.spares id t) (kind : RecordKind) (o : Origin) (e : Option Element) (energy : Option Nat) :
    s.spares id (t.newRecord kind o e none energy).1 := h.same (by simp [State.newRecord, State.record, State.takeNumber])

/-- LOCKOUT, up to its activation test, as it is entered (R50). -/
def State.lockedOut (cause : LockoutCause) (o : Origin) (s : State) : State :=
  ((s.setSequence (.lockout cause)).newRecord .lockout o none none none).1.raise .lockout

theorem State.enterLockout_eq (h : ∀ held, s.sqc.sequence ≠ .lockout held) (cause : LockoutCause) (o : Origin) : ∃ payload,
    s.enterLockout cause o = ((s.lockedOut cause o).alarm .lockout payload).activationTest := by
  unfold State.enterLockout
  split
  · next held e => exact absurd e (h held)
  · exact ⟨_, rfl⟩

theorem State.enterLockout_stays {held : LockoutCause} (h : s.sqc.sequence = .lockout held) (cause : LockoutCause) (o : Origin) :
    s.enterLockout cause o = s := by
  unfold State.enterLockout
  rw [h]

theorem State.spares.lockedOut (h : s.spares id t) (cause : LockoutCause) (o : Origin) : s.spares id (t.lockedOut cause o) := by
  refine State.spares.raise (State.spares.newRecord ?_ _ _ _ _) _
  exact h.same rfl

theorem State.spares.enterLockout (h : s.spares id t) (differs : id ≠ .lockout) (cause : LockoutCause) (o : Origin) :
    s.spares id (t.enterLockout cause o) := by
  cases e : t.sqc.sequence with
  | lockout held =>
    rw [State.enterLockout_stays e]
    exact h
  | _ =>
    obtain ⟨payload, eq⟩ := State.enterLockout_eq (s := t) (by simp [e]) cause o
    rw [eq]
    exact ((h.lockedOut cause o).alarm differs payload).activationTest

/-- Entering LOCKOUT asks for its alarm (R50). -/
theorem State.enterLockout_asks (ok : s.rpu.poolOk) (cause : LockoutCause) (o : Origin) (h : ∀ held, s.sqc.sequence ≠ .lockout held) :
    ∃ payload, (s.enterLockout cause o).rpu.poolOk ∧ (s.enterLockout cause o).rpu.asks .lockout payload := by
  obtain ⟨payload, eq⟩ := State.enterLockout_eq h cause o
  have recorded := State.spares.lockedOut (.refl .lockout s) cause o
  rw [eq]
  exact ⟨payload, (State.spares.activationTest (.refl _ _)).carry (State.alarm_asks _ (recorded ok).1)⟩

theorem State.spares.tripStarted (h : s.spares id t) (differs : id ≠ .lockout) (origins : List Origin) : s.spares id (t.tripStarted origins) := by
  unfold State.tripStarted
  split
  · exact h
  · cases t.sqc.sequence with
    | ready | reclaim _ | closing _ | tripping _ _ | opened | lockout _ => exact h
    | interval _ | energyWait _ => exact h.enterLockout differs _ _

theorem State.spares.abortTest (h : s.spares id t) (cause : TestCause) : s.spares id (t.abortTest cause) := by
  cases e : t.bcu.test with
  | none =>
    have same : t.abortTest cause = t := by unfold State.abortTest; rw [e]
    rw [same]
    exact h
  | some r =>
    rw [State.abortTest_eq e]
    refine State.spares.same ?_ (State.releaseHold_rest _ _ _).2.1
    refine State.spares.raise (State.spares.event (State.spares.place ?_ _) _ _) _
    exact h.same rfl

theorem State.spares.suspendTest (h : s.spares id t) : s.spares id t.suspendTest := by
  unfold State.suspendTest
  dsimp only
  repeat' split
  · exact h
  · refine State.spares.abortTest ?_ _
    exact h.same rfl
  · exact h.same rfl
  · exact h

theorem State.spares.beginTrip (h : s.spares id t) (differs : id ≠ .lockout) (o : Origin) (e : Option Element) (c : Currents) :
    s.spares id (t.beginTrip o e c) := by
  obtain ⟨-, -, -, rpu, -⟩ := State.tripPulsed_frame o e c t
  rw [State.beginTrip_eq]
  have started : s.spares id ((t.tripPulsed o e c).tripStarted [o]) := State.spares.tripStarted (h.same rpu) differs _
  have dropped : s.spares id (((t.tripPulsed o e c).tripStarted [o]).dropCloses .trip) := started.same rfl
  exact State.spares.suspendTest (dropped.same rfl)

theorem State.spares.tripCompleted (h : s.spares id t) (differs : id ≠ .lockout) : s.spares id t.tripCompleted := by
  unfold State.tripCompleted
  split
  · split
    · exact h.enterLockout differs _ _
    · exact h
  · exact State.spares.activationTest (t := t.setSequence .opened) (h.same rfl)
  · exact h.enterLockout differs _ _
  · exact h.enterLockout differs _ _
  · exact h

theorem State.spares.tripEnded (h : s.spares id t) (differs : id ≠ .lockout) (outcome : OpOutcome) : s.spares id (t.tripEnded outcome) := by
  unfold State.tripEnded
  split
  · exact h
  · cases outcome with
    | complete | retripComplete => exact h.tripCompleted differs
    | discordant | failed => exact h.enterLockout differs _ _
    | cut => exact h

theorem State.spares.latchNoticed (h : s.spares id t) (differs : id ≠ .lockout) : s.spares id t.latchNoticed := by
  unfold State.latchNoticed
  split
  · exact h
  · cases t.sqc.sequence with
    | ready | reclaim _ | closing _ | tripping _ _ | lockout _ => exact h
    | interval _ | energyWait _ | opened => exact h.enterLockout differs _ _

theorem State.spares.setLatch (h : s.spares id t) : s.spares id t.setLatch := h.same (by unfold State.setLatch; split <;> simp [State.withMdr])

end

end Sys2Proof.Machine
end

section
/-! PROOFS. The energy account at a capacitor measurement, and the ends of the reclose interval, the energy wait and the reclaim time (R51, R53, R56, R83
to R86). -/

namespace Sys2Proof.Machine

/-! ### The recharge and the low-energy watch -/

section
variable {id : AlarmId} {s t u : State}

theorem State.spares.judgeVerdict (h : s.spares id t) (differs : id ≠ .batteryFailing) : s.spares id t.judgeVerdict := by
  unfold State.judgeVerdict
  dsimp only
  repeat' split
  · exact h
  · refine State.spares.raise (State.spares.alarm ?_ differs _) _
    exact h.same rfl
  · refine State.spares.event ?_ _ _
    exact h.same rfl

theorem State.spares.attributeUpdate (h : s.spares id t) (differs : id ≠ .batteryFailing) (f : Attributes → Attributes) :
    s.spares id (t.attributeUpdate f) := by
  refine State.spares.place (State.spares.judgeVerdict ?_ differs) _
  exact h.same rfl

theorem State.spares.rechargeControl (h : s.spares id t) (differs : id ≠ .batteryFailing) : s.spares id t.rechargeControl := by
  unfold State.rechargeControl
  split
  · split
    · refine State.spares.suspendTest ?_
      exact h.same rfl
    · exact h
  · split
    · refine State.spares.same ?_ (State.resumeTest_frame _).2.2.2.2.2.2.1
      refine State.spares.attributeUpdate ?_ differs _
      exact h.same rfl
    · exact h

theorem State.spares.lowEnergyWatch (h : s.spares id t) (differs : id ≠ .lowEnergy) : s.spares id t.lowEnergyWatch := by
  have raised : s.spares id t.raiseLowEnergy := by
    refine State.spares.raise (State.spares.alarm ?_ differs _) _
    exact h.same rfl
  unfold State.lowEnergyWatch
  split
  · cases t.mdr.lowWatch with
    | stopped => exact h.same rfl
    | running d =>
      dsimp only
      split
      · exact raised
      · exact h
    | raised => exact h
  · exact h.same rfl

theorem State.spares.capacitorRead (h : s.spares id t) (differs : id ≠ .batteryFailing ∧ id ≠ .lowEnergy) (v : Nat) :
    s.spares id (t.capacitorRead v) := by
  rw [State.capacitorRead_eq]
  refine State.spares.lowEnergyWatch (State.spares.rechargeControl ?_ differs.1) differs.2
  exact h.same rfl

/-- A suspension leaves the recharge flag as it is. -/
theorem State.suspendTest_recharging (s : State) : s.suspendTest.bcu.recharging = s.bcu.recharging := by
  cases h : s.bcu.test with
  | none =>
    have same : s.suspendTest = s := by unfold State.suspendTest; rw [h]
    rw [same]
  | some r =>
    unfold State.suspendTest
    rw [h]
    dsimp only
    repeat' split
    · rfl
    · rw [State.abortTest_eq rfl, (State.releaseHold_rest _ _ _).1]
      simp [State.testAborted, State.withBcu]
    · rfl

/-- The low-energy watch after a measurement (R86). -/
theorem State.lowEnergyWatch_mdr (s : State) : s.lowEnergyWatch.mdr = { s.mdr with
    lowWatch := if s.mdr.estimate < s.mdr.settings.eTrip && s.mdr.poles.anyClosed then (match s.mdr.lowWatch with
        | .stopped => .running (s.now + 60000000)
        | .running d => if d ≤ s.now then .raised else .running d
        | .raised => .raised)
      else .stopped } := by
  unfold State.lowEnergyWatch
  split
  · cases h : s.mdr.lowWatch with
    | stopped => rfl
    | running d =>
      dsimp only
      split
      · rfl
      · exact congrArg (fun w => ({ s.mdr with lowWatch := w } : Mdr)) h
    | raised => exact congrArg (fun w => ({ s.mdr with lowWatch := w } : Mdr)) h
  · rfl

/-- What a recharge that starts, stops or goes on does (R85). -/
theorem State.rechargeControl_spec (s : State) : ∃ since, s.rechargeControl.mdr = { s.mdr with rechargeSince := since }
    ∧ (s.mdr.rechargeSince = none → s.mdr.vcap + 5000 < s.mdr.settings.target → s.bcu.tier ≠ .disconnect →
        since = some s.now ∧ s.rechargeControl.bcu.recharging = true)
    ∧ (∀ start, s.mdr.rechargeSince = some start → s.mdr.settings.target ≤ s.mdr.vcap → since = none
        ∧ s.rechargeControl.bcu.recharging = false
        ∧ s.rechargeControl.bcu.stored.attributes = s.bcu.stored.attributes.setRecharge ((s.now - start) / 1000))
    ∧ (¬ (s.mdr.rechargeSince = none ∧ s.mdr.vcap + 5000 < s.mdr.settings.target ∧ s.bcu.tier ≠ .disconnect) →
        (s.mdr.rechargeSince = none ∨ s.mdr.vcap < s.mdr.settings.target) → since = s.mdr.rechargeSince ∧ s.rechargeControl = s) := by
  cases h : s.mdr.rechargeSince with
  | none =>
    by_cases low : s.mdr.vcap + 5000 < s.mdr.settings.target ∧ s.bcu.tier ≠ .disconnect
    · refine ⟨some s.now, ?_, fun _ _ _ => ⟨rfl, ?_⟩, fun _ => nofun, fun no => absurd ⟨rfl, low⟩ no⟩
      · rw [State.rechargeControl_starts h low.1 low.2]
        simp
      · rw [State.rechargeControl_starts h low.1 low.2, State.suspendTest_recharging]
    · have same : s.rechargeControl = s := by
        unfold State.rechargeControl
        rw [h]
        exact if_neg (by simpa using low)
      refine ⟨none, ?_, fun _ l t => absurd ⟨l, t⟩ low, fun _ => nofun, fun _ _ => ⟨rfl, same⟩⟩
      rw [same, ← h]
  | some start =>
    by_cases full : s.mdr.settings.target ≤ s.mdr.vcap
    · let dry : State := { s with mdr := { s.mdr with rechargeSince := none }, bcu := { s.bcu with recharging := false } }
      let f : Attributes → Attributes := (·.setRecharge ((s.now - start) / ms))
      have stopped : s.rechargeControl = (dry.attributeUpdate f).resumeTest := State.rechargeControl_stops h full
      have kept (w : State) : w.resumeTest.bcu.stored = w.bcu.stored ∧ w.resumeTest.bcu.recharging = w.bcu.recharging := by
        unfold State.resumeTest
        repeat' split
        all_goals exact ⟨rfl, rfl⟩
      obtain ⟨stored, recharging⟩ := kept (dry.attributeUpdate f)
      have flag : (dry.attributeUpdate f).bcu.recharging = false := by
        have bcu := congrArg Bcu.recharging (State.judgeVerdict_bcu (dry.withAttributes f))
        exact bcu
      refine ⟨none, ?_, nofun, fun start' e _ => ⟨rfl, ?_, ?_⟩, fun _ no => no.elim nofun fun l => absurd full (Nat.not_le.mpr l)⟩
      · rw [stopped]
        simp [dry]
      · rw [stopped, recharging, flag]
      · cases e
        rw [stopped, stored, State.attributeUpdate_stored]
        rfl
    · have same : s.rechargeControl = s := by
        unfold State.rechargeControl
        rw [h]
        exact if_neg full
      refine ⟨some start, ?_, nofun, fun _ _ l => absurd l full, fun _ _ => ⟨rfl, same⟩⟩
      rw [same, ← h]

end

/-- Settles O45: the account, the recharge and the watch, each by its own part of the measurement. -/
theorem capacitorMeasurementKeepsTheAccount : Obligations.CapacitorMeasurementKeepsTheAccount := by
  intro v s hp at_ estimate starts setAttribute starved
  refine ⟨fun quiet => ?_, fun d running => ?_⟩
  · have done : exec (.capacitorMeasurement v) s = .next (at_.measureCapacitor v).rejudge :=
      act_powered (f := fun s => (s.reach (s.mdr.lastMeasurement + capacitorPeriod)).measureCapacitor v) hp
    rw [State.measureCapacitor_quiet (by exact quiet), State.capacitorRead_eq] at done
    obtain ⟨since, mdr, begins, ends, stays⟩ := (at_.capacitorTaken v).rechargeControl_spec
    have watched := (at_.capacitorTaken v).rechargeControl.lowEnergyWatch_mdr
    rw [mdr] at watched
    have clock : (at_.capacitorTaken v).rechargeControl.lowEnergyWatch.clock = at_.clock := by simp [State.capacitorTaken, State.withMdr]
    have bcu : (at_.capacitorTaken v).rechargeControl.lowEnergyWatch.bcu = (at_.capacitorTaken v).rechargeControl.bcu := by simp
    have now : (at_.capacitorTaken v).rechargeControl.now = at_.now := by
      have clock : (at_.capacitorTaken v).rechargeControl.clock = at_.clock := by simp [State.capacitorTaken, State.withMdr]
      exact congrArg Clock.running clock
    rw [now] at watched
    have frame : (at_.capacitorTaken v).rechargeControl.lowEnergyWatch.sqc = s.sqc ∧ (at_.capacitorTaken v).rechargeControl.lowEnergyWatch.au = s.au
        ∧ (at_.capacitorTaken v).rechargeControl.lowEnergyWatch.lmu = s.lmu ∧ (at_.capacitorTaken v).rechargeControl.lowEnergyWatch.oeb = s.oeb
        ∧ (at_.capacitorTaken v).rechargeControl.lowEnergyWatch.oru = s.oru := by
      simp [State.capacitorTaken, State.withMdr, at_]
    obtain ⟨sqc, au, lmu, oeb, oru⟩ := frame
    have watch : (at_.capacitorTaken v).rechargeControl.lowEnergyWatch.mdr.lowWatch = if starved then (match s.mdr.lowWatch with
        | .stopped => .running (at_.now + 60000000)
        | .running d => if d ≤ at_.now then .raised else .running d
        | .raised => .raised)
      else .stopped := by
      rw [watched]
      have same : ((at_.capacitorTaken v).mdr.estimate < (at_.capacitorTaken v).mdr.settings.eTrip && (at_.capacitorTaken v).mdr.poles.anyClosed) = true
          ↔ starved := by
        rw [Bool.and_eq_true, decide_eq_true_eq]
        exact Iff.rfl
      simp only [same]
      rfl
    refine ⟨_, done, clock, by rw [State.rejudge_mdr, watched]; rfl, by rw [State.rejudge_mdr, watched]; rfl, by rw [State.rejudge_mdr, watched]; rfl,
      by rw [State.rejudge_mdr, watched]; rfl, fun ⟨none_, low, tier⟩ => ?_, fun start running full => ?_, fun no other => ?_, fun h => ?_, fun h w => ?_,
      fun d h w => ?_, fun h w => ?_, by rw [State.rejudge_mdr, watched]; rfl, by rw [State.rejudge_mdr, watched]; rfl,
      by rw [State.rejudge_mdr, watched]; rfl, by rw [State.rejudge_mdr, watched]; rfl, by rw [State.rejudge_mdr, watched]; rfl,
      by rw [State.rejudge_mdr, watched]; rfl, by rw [State.rejudge_mdr, watched]; rfl, by rw [State.rejudge_mdr, watched]; rfl, sqc, au, lmu, oeb, oru⟩
    · obtain ⟨started, flag⟩ := begins none_ low tier
      rw [State.rejudge_mdr, State.rejudge_bcu, watched, bcu]
      exact ⟨started, flag⟩
    · obtain ⟨stopped, flag, stored⟩ := ends start running full
      rw [State.rejudge_mdr, State.rejudge_bcu, watched, bcu]
      exact ⟨stopped, flag, stored⟩
    · obtain ⟨kept, same⟩ := stays no other
      rw [State.rejudge_mdr, State.rejudge_bcu, watched, bcu, same]
      exact ⟨kept, rfl⟩
    · rw [State.rejudge_mdr, watch, if_neg h]
    · rw [State.rejudge_mdr, watch, if_pos h, w]
    · rw [State.rejudge_mdr, watch, if_pos h, w]
    · rw [State.rejudge_mdr, watch, if_pos h, w]
  · refine State.leads_as (f := fun s => match s.mdr.lowWatch with
      | .running d => (s.reach d).raiseLowEnergy
      | _ => s) hp (by rfl) ?_ ?_ ?_
    · simp only [running]
      rfl
    · have told (u : State) (payload : List Byte) : ((u.alarm .lowEnergy payload).raise .energyLow).rpu.unpooled = u.rpu.unpooled := by simp
      exact told _ _
    · rfl

end Sys2Proof.Machine
end

section
/-! PROOFS. The requests of the Sequence Controller: a close at the end of the interval and in the energy wait, LOCKOUT and READY (R50, R51, R53, R56). -/

namespace Sys2Proof.Machine

/-! ### LOCKOUT, as it shows (R50) -/

section
variable {s t u : State}

/-- What an activation test lights stays lit. -/
theorem State.activationTest_lit (f : Flag) (s : State) : (s.ports.cAlerts.lit f → s.activationTest.ports.cAlerts.lit f)
    ∧ (s.ports.pAlerts.lit f → s.activationTest.ports.pAlerts.lit f) := by
  rcases s.activationTest_cases with h | ⟨staged, -, -, h⟩ <;> rw [h]
  · exact ⟨fun h => h, fun h => h⟩
  · exact ⟨fun h => by simp [State.activate, h], fun h => by simp [State.activate, h]⟩

/-- LOCKOUT, entered in `t` from a state that `s` describes. -/
def State.showsLockout (cause : LockoutCause) (o : Origin) (s t : State) : Prop :=
  t.sqc.sequence = .lockout cause ∧ t.oru.counters.lockouts = min 9999999 (s.oru.counters.lockouts + 1)
    ∧ t.sqc.afterCommand = s.sqc.afterCommand ∧ t.mdr.op = s.mdr.op ∧ t.mdr.latch = s.mdr.latch ∧ t.au = s.au
    ∧ (∃ r, t.oru.ring.getLast? = some r ∧ r.kind = .lockout ∧ r.origin = o ∧ r.shotAfter = s.sqc.shot)
    ∧ t.ports.cAlerts.lit .lockout ∧ t.ports.pAlerts.lit .lockout
    ∧ ∃ x ∈ t.rpu.qAlarm ++ t.rpu.held, x.kind = .alarm .lockout

theorem State.enterLockout_shows (ok : u.rpu.poolOk) (cause : LockoutCause) (o : Origin) (h : ∀ held, u.sqc.sequence ≠ .lockout held)
    (sqc : u.sqc = s.sqc) (oru : u.oru = s.oru) (op : u.mdr.op = s.mdr.op) (latch : u.mdr.latch = s.mdr.latch) (au : u.au = s.au) :
    State.showsLockout cause o s (u.enterLockout cause o) := by
  obtain ⟨sequence, -, lockouts, -⟩ := State.enterLockout_spec (o := o) cause h
  obtain ⟨-, x, hx, kind, -⟩ := (State.enterLockout_asks ok cause o h).choose_spec
  obtain ⟨payload, eq⟩ := State.enterLockout_eq h cause o
  obtain ⟨cLit, pLit⟩ := State.activationTest_lit .lockout ((u.lockedOut cause o).alarm .lockout payload)
  have ring : (u.enterLockout cause o).oru = (u.lockedOut cause o).oru := by
    rw [eq, (State.activationTest_spec _).2.1]
    rfl
  refine ⟨sequence, ?_, ?_, ?_, ?_, ?_, ?_, ?_, ?_, x, hx, kind⟩
  · rw [lockouts, oru]
  · rw [(State.enterLockout_keeps _ _ _).2.1, sqc]
  · rw [(State.enterLockout_frame cause o u).2.2.2.1, op]
  · rw [(State.enterLockout_frame cause o u).2.2.2.1, latch]
  · rw [(State.enterLockout_frame cause o u).2.2.2.2.1, au]
  · have recorded : (u.lockedOut cause o).oru.ring = _ := State.record_ring _ (u.setSequence (.lockout cause)).takeNumber.1
    rw [ring, recorded, pushRing_getLast (by decide)]
    have shot : u.sqc.shot = s.sqc.shot := congrArg Sqc.shot sqc
    exact ⟨_, rfl, rfl, rfl, shot⟩
  · rw [eq]
    exact cLit (by simp [State.lockedOut])
  · rw [eq]
    exact pLit (by simp [State.lockedOut])

theorem State.showsLockout.carry {cause : LockoutCause} {o : Origin} (h : State.showsLockout cause o s t) (sqc : u.sqc = t.sqc)
    (oru : u.oru = t.oru) (mdr : u.mdr = t.mdr) (au : u.au = t.au) (cAlerts : t.ports.cAlerts.lit .lockout → u.ports.cAlerts.lit .lockout)
    (pAlerts : t.ports.pAlerts.lit .lockout → u.ports.pAlerts.lit .lockout)
    (asks : (∃ x ∈ t.rpu.qAlarm ++ t.rpu.held, x.kind = .alarm .lockout) → ∃ x ∈ u.rpu.qAlarm ++ u.rpu.held, x.kind = .alarm .lockout) :
    State.showsLockout cause o s u := by
  obtain ⟨sequence, lockouts, after, op, latch, same, ring, cLit, pLit, asked⟩ := h
  unfold State.showsLockout
  rw [sqc, oru, mdr, au]
  exact ⟨sequence, lockouts, after, op, latch, same, ring, cAlerts cLit, pAlerts pLit, asks asked⟩

theorem State.showsLockout.judged {cause : LockoutCause} {o : Origin} (h : State.showsLockout cause o s t) :
    State.showsLockout cause o s t.rejudge :=
  h.carry rfl rfl rfl rfl (fun h => h) (fun h => h) fun asked => by rwa [State.rejudge_qAlarm, State.rejudge_held]

/-! ### What a reclose meets (R51, R53, R67, R99) -/

/-- The authority half of the permit fails for a reclose. -/
def Au.refusesReclose (a : Au) : Prop := a.tags ≠ [] ∨ a.handlePulled = true ∨ a.block = true

/-- The mechanism's half fails, but for the energy. -/
def Mdr.refuses (m : Mdr) : Prop := m.op ≠ none ∨ m.latch = true ∨ m.poles.allOpen = false

theorem failedWhen_eq_nil {c : Failed} {b : Bool} : failedWhen c b = [] ↔ b = false := by cases b <;> simp [failedWhen]

theorem mem_failedWhen {c d : Failed} {b : Bool} (h : d ∈ failedWhen c b) : d = c := by
  cases b
  · cases h
  · exact List.mem_singleton.mp h

theorem Au.failed_reclose (a : Au) : a.failed .reclose = [] ↔ ¬ a.refusesReclose := by
  have mode : Origin.reclose.modeFails a.mode = false := rfl
  simp only [Au.failed, List.append_eq_nil_iff, failedWhen_eq_nil, mode, Au.refusesReclose]
  simp [and_assoc]

theorem Au.failed_isAuthority {o : Origin} {a : Au} {c : Failed} (h : c ∈ a.failed o) : c.isAuthority = true := by
  simp only [Au.failed, List.mem_append] at h
  rcases h with ((h | h) | h) | h <;> rw [mem_failedWhen h] <;> rfl

theorem Mdr.failed_isMechanism {m : Mdr} {c : Failed} (h : c ∈ m.failed) : c.isAuthority = false := by
  simp only [Mdr.failed, List.mem_append] at h
  rcases h with ((h | h) | h) | h <;> rw [mem_failedWhen h] <;> rfl

/-- With the mechanism in order the energy alone decides. -/
theorem Mdr.failed_ready {m : Mdr} (h : ¬ m.refuses) : m.failed = failedWhen .energy (m.estimate < m.settings.closeEnergy) := by
  simp only [Mdr.refuses, not_or, not_not, Bool.not_eq_true, Bool.not_eq_false] at h
  obtain ⟨idle, clear, opened⟩ := h
  simp [Mdr.failed, failedWhen, idle, clear, opened]

/-- With the mechanism out of order something besides the energy fails. -/
theorem Mdr.failed_refuses {m : Mdr} (h : m.refuses) : ∃ c ∈ m.failed, c ≠ .energy := by
  rcases h with h | h | h
  · have flight : m.op.isSome = true := Option.isSome_iff_ne_none.mpr h
    exact ⟨.inFlight, by simp [Mdr.failed, failedWhen, flight], nofun⟩
  · exact ⟨.latch, by simp [Mdr.failed, failedWhen, h], nofun⟩
  · exact ⟨.notOpen, by simp [Mdr.failed, failedWhen, h], nofun⟩

theorem State.closeFailed_free (h : ¬ s.au.refusesReclose) : s.closeFailed .reclose = s.mdr.failed := by
  rw [State.closeFailed, s.au.failed_reclose.mpr h, List.nil_append]

theorem State.requestClose_answer (o : Origin) (s : State) : s.requestClose o
    = (if s.closeFailed o = [] then (s.beginClose o, []) else (s, s.closeFailed o)) := by
  rcases s.requestClose_cases o with ⟨none_, h⟩ | ⟨some_, h⟩ <;> rw [h]
  · exact (if_pos none_).symm
  · exact (if_neg some_).symm

theorem State.reclose_fires (wait : Sequence) (authority : ¬ s.au.refusesReclose) (mechanism : ¬ s.mdr.refuses)
    (energy : s.mdr.settings.closeEnergy ≤ s.mdr.estimate) : s.reclose wait = (s.beginClose .reclose).setSequence (.closing .reclose) := by
  have none_ : s.closeFailed .reclose = [] := by
    rw [State.closeFailed_free authority, Mdr.failed_ready mechanism, failedWhen_eq_nil]
    simpa using energy
  unfold State.reclose
  rw [State.requestClose_answer, if_pos none_]

theorem State.reclose_waits (wait : Sequence) (authority : ¬ s.au.refusesReclose) (mechanism : ¬ s.mdr.refuses)
    (energy : s.mdr.estimate < s.mdr.settings.closeEnergy) : s.reclose wait = s.setSequence wait := by
  have alone : s.closeFailed .reclose = [.energy] := by
    rw [State.closeFailed_free authority, Mdr.failed_ready mechanism, failedWhen, if_pos (by simpa using energy)]
  unfold State.reclose
  rw [State.requestClose_answer, if_neg (by rw [alone]; nofun), alone]

/-- A refusal that is not for energy alone leads to LOCKOUT. -/
theorem State.reclose_locks (wait : Sequence) (nonempty : s.closeFailed .reclose ≠ []) (other : s.closeFailed .reclose ≠ [.energy]) :
    s.reclose wait = if (s.closeFailed .reclose).any Failed.isAuthority then s.enterLockout .authority .protection
      else s.enterLockout .mechanism .discordance := by
  unfold State.reclose
  rw [State.requestClose_answer, if_neg nonempty]
  simp only

theorem State.reclose_authority (wait : Sequence) (authority : s.au.refusesReclose) : s.reclose wait = s.enterLockout .authority .protection := by
  obtain ⟨c, hc⟩ := List.exists_mem_of_ne_nil _ (mt s.au.failed_reclose.mp (not_not.mpr authority))
  have here : c ∈ s.closeFailed .reclose := List.mem_append_left _ hc
  have mine := Au.failed_isAuthority hc
  rw [State.reclose_locks wait (List.ne_nil_of_mem here), if_pos (List.any_eq_true.mpr ⟨c, here, mine⟩)]
  intro alone
  rw [alone, List.mem_singleton] at here
  rw [here] at mine
  exact Bool.false_ne_true mine

theorem State.reclose_mechanism (wait : Sequence) (authority : ¬ s.au.refusesReclose) (mechanism : s.mdr.refuses) :
    s.reclose wait = s.enterLockout .mechanism .discordance := by
  obtain ⟨c, hc, other⟩ := Mdr.failed_refuses mechanism
  have failed := State.closeFailed_free authority
  rw [State.reclose_locks wait (by rw [failed]; exact List.ne_nil_of_mem hc), if_neg]
  · rw [failed, List.any_eq_true]
    rintro ⟨d, hd, yes⟩
    rw [Mdr.failed_isMechanism hd] at yes
    exact Bool.false_ne_true yes
  · rw [failed]
    intro alone
    rw [alone, List.mem_singleton] at hc
    exact other hc

/-- A reclose that fires, as the state it began in shows. -/
theorem State.recloseFired (s : State) : let t := (s.beginClose .reclose).setSequence (.closing .reclose)
    t.sqc = { s.sqc with sequence := .closing .reclose } ∧ t.mdr.closeDrive = true ∧ t.mdr.estimate = s.mdr.estimate - s.mdr.settings.eClose
      ∧ t.mdr.op = some (s.newClose .reclose) ∧ t.clock = s.clock := by
  intro t
  have sqc : (s.beginClose .reclose).sqc = s.sqc := by
    have quiet (u : State) : u.closeStarted .reclose = u := if_pos (by simp [Origin.isCommand])
    unfold State.beginClose
    dsimp only
    rw [(State.operationStarted_rest _).2.1, quiet]
    simp [State.withMdr]
  have mdr : t.mdr = _ := State.beginClose_mdr .reclose s
  refine ⟨?_, by rw [mdr], by rw [mdr], by rw [mdr], ?_⟩
  · exact congrArg (fun q : Sqc => { q with sequence := .closing .reclose }) sqc
  · have clock : t.clock = (s.beginClose .reclose).clock := rfl
    rw [clock]
    simp

end

/-- Settles O46: the close asked for fires, waits or is refused, by what fails; the two other timers end their states. -/
theorem sequenceTimersEndTheirStates : Obligations.SequenceTimersEndTheirStates := by
  intro d v s hp pool authority mechanism required estimate lockedOut fires
  refine ⟨fun hq => ?_, fun hq => ?_, fun hq => ?_, fun hq => ?_⟩
  · intro at_
    let wait : Sequence := .energyWait (at_.now + s.sqc.active.energyWait * 1000)
    have done : exec .recloseIntervalExpiry s = .next (at_.reclose wait).rejudge := by
      have over_ : s.intervalOver = at_.reclose wait := by
        unfold State.intervalOver
        rw [hq]
        rfl
      rw [← over_]
      exact act_powered hp
    have free : ∀ held, at_.sqc.sequence ≠ .lockout held := fun held e => nomatch hq.symm.trans e
    refine ⟨_, done, ?_, fun a m e => ?_, fun a m e => ?_, fun a => ?_, fun a m => ?_⟩
    · change (at_.reclose wait).clock = _
      simp
    · rw [State.reclose_fires (s := at_) wait a m e]
      obtain ⟨sqc, drive, energy, op, -⟩ := at_.recloseFired
      exact ⟨sqc, drive, energy, op⟩
    · rw [State.rejudge_supplyAs, State.reclose_waits (s := at_) wait a m e]
      rfl
    · rw [State.reclose_authority (s := at_) wait a]
      exact (State.enterLockout_shows (s := s) (u := at_) pool _ _ free rfl rfl rfl rfl rfl).judged
    · rw [State.reclose_mechanism (s := at_) wait a m]
      exact (State.enterLockout_shows (s := s) (u := at_) pool _ _ free rfl rfl rfl rfl rfl).judged
  · intro at_
    let u := at_.capacitorRead v
    have sqc : u.sqc = s.sqc := by simp [u, State.capacitorRead, at_]
    have au : u.au = s.au := by simp [u, State.capacitorRead, at_]
    have oru : u.oru = s.oru := by simp [u, State.capacitorRead, at_]
    have lmu : u.lmu = s.lmu := by simp [u, State.capacitorRead, at_]
    have clock : u.clock = at_.clock := by simp [u, State.capacitorRead]
    have now : u.now = at_.now := congrArg Clock.running clock
    have mdr : u.mdr.op = s.mdr.op ∧ u.mdr.latch = s.mdr.latch ∧ u.mdr.poles = s.mdr.poles ∧ u.mdr.settings = s.mdr.settings
        ∧ u.mdr.estimate = estimate := by
      obtain ⟨since, mdr, -⟩ := (at_.capacitorTaken v).rechargeControl_spec
      have watched : u.mdr = _ := (at_.capacitorTaken v).rechargeControl.lowEnergyWatch_mdr
      rw [watched, mdr]
      exact ⟨rfl, rfl, rfl, rfl, rfl⟩
    obtain ⟨op, latch, poles, settings, energy⟩ := mdr
    have ok : u.rpu.poolOk := (State.spares.capacitorRead (.refl .lockout at_) ⟨nofun, nofun⟩ v pool).1
    have done : exec (.capacitorMeasurement v) s = .next (u.reclose (.energyWait d)).rejudge := by
      have asked : at_.measureCapacitor v = u.reclose (.energyWait d) := by
        rw [State.measureCapacitor_eq]
        unfold State.askAgain
        rw [show (at_.capacitorRead v).sqc.sequence = .energyWait d from (congrArg Sqc.sequence sqc).trans hq]
      rw [← asked]
      exact act_powered (f := fun s => (s.reach (s.mdr.lastMeasurement + capacitorPeriod)).measureCapacitor v) hp
    have authority_iff : u.au.refusesReclose ↔ authority := by rw [au]; exact Iff.rfl
    have mechanism_iff : u.mdr.refuses ↔ mechanism := by rw [Mdr.refuses, op, latch, poles]
    have required_eq : u.mdr.settings.closeEnergy = required := by rw [settings]; rfl
    have free : ∀ held, u.sqc.sequence ≠ .lockout held := fun held e => nomatch (hq.symm.trans (congrArg Sqc.sequence sqc).symm).trans e
    refine ⟨_, done, ?_, fun a m e => ?_, fun a m e => ?_, fun a => ?_, fun a m => ?_⟩
    · change (u.reclose (.energyWait d)).clock = _
      simp [clock]
    · rw [State.reclose_fires (.energyWait d) (mt authority_iff.mp a) (mt mechanism_iff.mp m) (by rw [required_eq, energy]; exact e)]
      obtain ⟨newSqc, drive, debited, newOp, -⟩ := u.recloseFired
      rw [sqc] at newSqc
      rw [energy, settings] at debited
      rw [State.newClose, now, energy, lmu, oru] at newOp
      exact ⟨newSqc, drive, debited, newOp⟩
    · rw [State.reclose_waits (.energyWait d) (mt authority_iff.mp a) (mt mechanism_iff.mp m) (by rw [required_eq, energy]; exact e)]
      have idle : s.mdr.op = none := by
        by_contra flight
        exact m (.inl flight)
      refine ⟨?_, op.trans idle, energy⟩
      change ({ u.sqc with sequence := .energyWait d } : Sqc) = s.sqc
      rw [sqc, ← hq]
    · rw [State.reclose_authority (.energyWait d) (authority_iff.mpr a)]
      exact (State.enterLockout_shows ok _ _ free sqc oru op latch au).judged
    · rw [State.reclose_mechanism (.energyWait d) (mt authority_iff.mp a) (mechanism_iff.mpr m)]
      exact (State.enterLockout_shows ok _ _ free sqc oru op latch au).judged
  · let u := (s.reach d).enterLockout .energy .protection
    let payload : List Byte := 0x01 :: be 4 u.mdr.estimate ++ be 4 u.mdr.settings.closeEnergy
    have mdr : u.mdr = s.mdr := by simp [u]
    have done : exec .energyWaitExpiry s = .next (u.alarm .lowEnergy payload).rejudge := by
      have waited : s.energyWaitOver = State.alarm .lowEnergy
          (0x01 :: be 4 s.mdr.estimate ++ be 4 s.mdr.settings.closeEnergy) ((s.reach d).enterLockout .energy .protection) := by
        unfold State.energyWaitOver
        rw [hq]
      have same : (u.alarm .lowEnergy payload) = s.energyWaitOver := by
        rw [waited]
        simp only [payload, mdr]
        rfl
      rw [same]
      exact act_powered hp
    have free : ∀ held, (s.reach d).sqc.sequence ≠ .lockout held := fun held e => nomatch hq.symm.trans e
    have shown := State.enterLockout_shows (s := s) (u := s.reach d) pool .energy .protection free rfl rfl rfl rfl rfl
    obtain ⟨own, ok, asked⟩ := State.enterLockout_asks (s := s.reach d) pool .energy .protection free
    refine ⟨_, done, ?_, ?_, mdr, ?_⟩
    · change u.clock = _
      simp [u]
    · refine (shown.carry (u := u.alarm .lowEnergy payload) rfl rfl rfl rfl (fun h => h) (fun h => h) fun _ => ?_).judged
      have spared := State.spares.alarm (.refl .lockout u) (other := .lowEnergy) nofun payload
      obtain ⟨-, y, hy, same, -⟩ := spared.carry ⟨ok, asked⟩
      exact ⟨y, hy, same⟩
    · rw [State.rejudge_qAlarm, State.rejudge_held]
      obtain ⟨x, hx, kind, same⟩ := Rpu.alarm_mem u.rpu u.stamp .lowEnergy payload
      refine ⟨x, hx, kind, same.trans ?_⟩
      simp only [payload, mdr]
      rfl
  · intro ready
    have done : exec .reclaimExpiry s = .next ((s.reach d).enterReady).rejudge := by
      have ended : s.reclaimOver = (s.reach d).enterReady := by
        unfold State.reclaimOver
        rw [hq]
      rw [← ended]
      exact act_powered hp
    let u : State := { s.reach d with sqc := ready }
    have entered : (s.reach d).enterReady = u.activationTest := rfl
    refine ⟨fun quiet => ?_, fun staged some_ free => ?_⟩
    · have stays : u.activationTest = u := by
        unfold State.activationTest
        split
        · next staged h =>
          rcases quiet with none_ | picked
          · exact absurd (none_.symm.trans h) nofun
          · exact if_neg (by simp [u, ready, Sqc.quiet, picked])
        · rfl
      rw [entered, stays] at done
      exact ⟨_, done, State.rejudge_supplyAs _ _⟩
    · have activates : u.activationTest = u.activate staged := by
        unfold State.activationTest
        rw [show u.sqc.staged = some staged from some_]
        exact if_pos (by simp [u, ready, Sqc.quiet, free])
      rw [entered, activates] at done
      refine ⟨_, done, ?_, ?_, ?_, ?_⟩
      · change (u.activate staged).clock = _
        simp [u]
      · change (u.activate staged).mdr = _
        simp [u]
      · change (u.activate staged).au = _
        simp [u]
      · change (u.activate staged).sqc = _
        rw [u.activate_sqc staged]
        simp [u, ready]

end Sys2Proof.Machine
end

section
/-! PROOFS. The end of an operation: what the sequence makes of it, its record, the counters and the wear (R48, R49, R77, R161 to R165). -/

namespace Sys2Proof.Machine

section
variable {id : AlarmId} {s t u : State} {op : Operation} {outcome : OpOutcome}

/-! ### The counters (R163 to R165) -/

/-- An entry into LOCKOUT takes a number and counts (R50, R163). -/
def Counters.lockedOut (k : Counters) : Counters := { k with lockouts := min 9999999 (k.lockouts + 1), next := (k.next + 1) % 65536 }

theorem State.enterLockout_counters (h : ∀ held, s.sqc.sequence ≠ .lockout held) (cause : LockoutCause) (o : Origin) :
    (s.enterLockout cause o).oru.counters = s.oru.counters.lockedOut := by
  obtain ⟨payload, eq⟩ := State.enterLockout_eq h cause o
  rw [eq, (State.activationTest_spec _).2.1]
  exact State.record_counters _ rfl _

theorem passed_eq (limit wear : Nat) (mark : Bool) : passed limit wear mark = (mark || (decide (limit ≠ 0) && decide (limit < wear))) := by
  rw [Bool.eq_iff_iff]
  simp [passed]

/-- The counters after a record that carries currents, with the poles judged (R164, R165). -/
def Counters.worn (kind : RecordKind) (x : Currents) (k : Counters) : Counters :=
  { (k.tally kind).wearOut (some x) with marks := ((k.tally kind).wearOut (some x)).marksAfter }

theorem State.askWear_oru (payload : List Byte) (b : Bool) (s : State) : (s.askWear payload b).oru = s.oru := by
  unfold State.askWear
  split <;> rfl

theorem State.record_worn {r : OpRecord} {x : Currents} (h : r.currents = some x) (s : State) :
    (s.record r).oru.counters = s.oru.counters.worn r.kind x := by
  unfold State.record
  dsimp only
  rw [h, if_pos (by rfl), State.judgeWear_eq rfl]
  simp [State.askWear_oru, Counters.worn]

theorem State.spares.askWear (h : s.spares id t) (differs : id ≠ .wearLimit) (payload : List Byte) (b : Bool) :
    s.spares id (t.askWear payload b) := by
  unfold State.askWear
  split
  · exact h.alarm differs _
  · exact h

theorem State.askWear_asks {payload : List Byte} {b : Bool} (ok : s.rpu.poolOk) (h : b = true ∨ s.rpu.asks .wearLimit payload) :
    (s.askWear payload b).rpu.poolOk ∧ (s.askWear payload b).rpu.asks .wearLimit payload := by
  unfold State.askWear
  split
  · exact State.alarm_asks payload ok
  · next off => exact ⟨ok, h.resolve_left off⟩

theorem State.askWear_ok {payload : List Byte} {b : Bool} (ok : s.rpu.poolOk) : (s.askWear payload b).rpu.poolOk := by
  unfold State.askWear
  split
  · exact (State.alarm_asks payload ok).1
  · exact ok

/-- A pole newly marked asks for the WEAR_LIMIT alarm (R165). -/
theorem State.judgeWear_asks (ok : s.rpu.poolOk) (new : s.oru.counters.marksAfter ≠ s.oru.counters.marks) :
    s.judgeWear.rpu.poolOk ∧ s.judgeWear.rpu.asks .wearLimit ({ s.oru.counters with marks := s.oru.counters.marksAfter } : Counters).wearPayload := by
  let k : Counters := { s.oru.counters with marks := s.oru.counters.marksAfter }
  rw [State.judgeWear_eq (k := k) rfl]
  have kept (limit wear : Nat) {mark : Bool} (h : ¬ (passed limit wear mark && !mark) = true) : passed limit wear mark = mark := by
    unfold passed at *
    cases mark <;> simp_all
  have some_ : (k.marks.a && !s.oru.counters.marks.a) = true ∨ (k.marks.b && !s.oru.counters.marks.b) = true
      ∨ (k.marks.c && !s.oru.counters.marks.c) = true := by
    by_contra none_
    obtain ⟨a, b, c⟩ : _ ∧ _ ∧ _ := ⟨fun h => none_ (.inl h), fun h => none_ (.inr (.inl h)), fun h => none_ (.inr (.inr h))⟩
    have all := congr (congr (congrArg PerPole.mk (kept _ _ a)) (kept _ _ b)) (kept _ _ c)
    exact new all
  have ok₁ := State.askWear_ok (s := { s with oru := { s.oru with counters := k } }) (payload := k.wearPayload)
    (b := k.marks.a && !s.oru.counters.marks.a) ok
  rcases some_ with a | b | c
  · have asked := State.askWear_asks (s := { s with oru := { s.oru with counters := k } }) (payload := k.wearPayload) ok (.inl a)
    have asked := State.askWear_asks (b := k.marks.b && !s.oru.counters.marks.b) asked.1 (.inr asked.2)
    exact State.askWear_asks asked.1 (.inr asked.2)
  · have asked := State.askWear_asks (payload := k.wearPayload) ok₁ (.inl b)
    exact State.askWear_asks asked.1 (.inr asked.2)
  · exact State.askWear_asks (State.askWear_ok ok₁) (.inl c)

/-- The alarm of a record that marks a pole (R165). -/
theorem State.record_asks {r : OpRecord} {x : Currents} (h : r.currents = some x) (ok : s.rpu.poolOk)
    (new : (s.oru.counters.worn r.kind x).marks ≠ s.oru.counters.marks) :
    (s.record r).rpu.poolOk ∧ (s.record r).rpu.asks .wearLimit (s.oru.counters.worn r.kind x).wearPayload := by
  let u : State := { s with oru :=
    { ring := pushRing 32 { r with time := s.stamp, shotAfter := s.sqc.shot } s.oru.ring
      counters := (s.oru.counters.tally r.kind).wearOut (some x) } }
  have recorded : s.record r = (u.judgeWear.place .counters).place .recordRing := by
    unfold State.record
    simp only [u, h]
    rfl
  have asked := State.judgeWear_asks (s := u) ok new
  have rpu : (s.record r).rpu = u.judgeWear.rpu := by rw [recorded]; simp
  rw [rpu]
  exact asked

/-! ### The hand-off (R77) -/

/-- What the Sequence Controller makes of an operation's end. -/
def State.operationTold (outcome : OpOutcome) (op : Operation) (s : State) : State :=
  match op.kind with
  | .trip => s.tripEnded outcome
  | .close => s.closeEnded outcome

/-- The occurrence of an operation's end. -/
def Operation.flag (op : Operation) : Flag :=
  match op.kind with
  | .trip => .trip
  | .close => .close

theorem State.handOff_eq (outcome : OpOutcome) (op : Operation) (s : State) : ∃ kind, s.handOff outcome op
    = (if outcome.isFault then State.raise .mechFault
        ((((s.operationTold outcome op).record (op.toRecord outcome)).event kind (be 2 op.number)).raise op.flag)
      else (((s.operationTold outcome op).record (op.toRecord outcome)).event kind (be 2 op.number)).raise op.flag) := by
  unfold State.handOff State.operationTold Operation.flag
  cases op.kind
  · exact ⟨.trip, rfl⟩
  · exact ⟨.close, rfl⟩

theorem State.handOff_spec (outcome : OpOutcome) (op : Operation) (s : State) :
    (s.handOff outcome op).sqc = (s.operationTold outcome op).sqc
    ∧ (s.handOff outcome op).oru = ((s.operationTold outcome op).record (op.toRecord outcome)).oru
    ∧ (s.handOff outcome op).ports.cAlerts.lit op.flag ∧ (s.handOff outcome op).ports.pAlerts.lit op.flag
    ∧ (outcome.isFault = true → (s.handOff outcome op).ports.cAlerts.lit .mechFault) := by
  obtain ⟨kind, eq⟩ := State.handOff_eq outcome op s
  rw [eq]
  split
  · exact ⟨by simp, by simp, by simp, by simp, fun _ => by simp⟩
  · next ok => exact ⟨by simp, by simp, by simp, by simp, fun fault => absurd fault ok⟩

theorem State.endOperation_spec (outcome : OpOutcome) (op : Operation) (s : State) :
    let idle := s.withMdr fun m => { m with op := none, tripDrive := false, closeDrive := false }
    let v := idle.operationTold outcome op
    (s.endOperation outcome op).sqc = v.sqc ∧ (s.endOperation outcome op).oru = (v.record (op.toRecord outcome)).oru
    ∧ (s.endOperation outcome op).ports.cAlerts.lit op.flag ∧ (s.endOperation outcome op).ports.pAlerts.lit op.flag
    ∧ (outcome.isFault = true → (s.endOperation outcome op).ports.cAlerts.lit .mechFault)
    ∧ (s.endOperation outcome op).bcu.opInFlight = false ∧ (s.endOperation outcome op).rpu = (idle.handOff outcome op).rpu := by
  intro idle v
  have flight (w : State) : w.operationEnded.bcu.opInFlight = false := by
    unfold State.operationEnded State.resumeTest
    repeat' split
    all_goals rfl
  obtain ⟨sqc, oru, cLit, pLit, fault⟩ := idle.handOff_spec outcome op
  have told (w : State) : w.operationEnded.sqc = w.sqc ∧ w.operationEnded.oru = w.oru ∧ w.operationEnded.ports = w.ports
      ∧ w.operationEnded.rpu = w.rpu := by simp
  obtain ⟨sqc', oru', ports', rpu'⟩ := told (idle.handOff outcome op)
  have ended : s.endOperation outcome op = (idle.handOff outcome op).operationEnded := rfl
  rw [ended, sqc', oru', ports', rpu']
  exact ⟨sqc, oru, cLit, pLit, fault, flight _, rfl⟩

/-- The operation's own record is the newest of the ring (R77, R161). -/
theorem State.endOperation_newest (outcome : OpOutcome) (op : Operation) (s : State) :
    (s.endOperation outcome op).oru.ring.getLast? = some (op.ringRecord outcome (s.endOperation outcome op)) := by
  obtain ⟨sqc, oru, -⟩ := State.endOperation_spec outcome op s
  have clock (w : State) : (w.operationTold outcome op).clock = w.clock := by
    unfold State.operationTold
    split <;> simp
  have stamp : (State.operationTold outcome op (s.withMdr fun m => { m with op := none, tripDrive := false, closeDrive := false })).stamp
      = (s.endOperation outcome op).stamp := by
    rw [State.stamp, State.stamp, clock, (State.endOperation_frame _ _ _).1]
    rfl
  rw [oru, State.record_ring, pushRing_getLast (by decide), stamp, ← sqc]
  rfl

theorem State.spares.handOff (h : s.spares id t) (hk : op.kind = .trip) (lockout : id ≠ .lockout) (wear : id ≠ .wearLimit) (outcome : OpOutcome) :
    s.spares id (t.handOff outcome op) := by
  obtain ⟨kind, eq⟩ := State.handOff_eq outcome op t
  have told : s.spares id (t.operationTold outcome op) := by
    unfold State.operationTold
    rw [hk]
    exact h.tripEnded lockout outcome
  have recorded := ((told.record wear (op.toRecord outcome)).event kind (be 2 op.number)).raise op.flag
  rw [eq]
  split
  · exact recorded.raise _
  · exact recorded

theorem Operation.recordKind_trip (hk : op.kind = .trip) :
    op.recordKind = if op.origins.head? = some .protection then .protTrip else .cmdTrip := by
  unfold Operation.recordKind
  rw [hk]
  split
  · next h => exact (if_pos h).symm
  · next h => exact (if_neg h).symm
  all_goals simp_all

/-! ### What the sequence makes of a trip's end (R48, R49) -/

/-- The first cause of R48 that holds. -/
theorem State.lockoutCause_eq (mark : Bool) (s : State) : ((s.lockoutCause mark).map Prod.fst) = firstOf
    [(decide (s.sqc.active.trips ≤ s.sqc.shot), LockoutCause.shots), (!s.au.tags.isEmpty, .tag), (s.au.block, .block),
     (s.sqc.afterCommand, .afterCommand), (mark, .hotLine)] := by
  unfold State.lockoutCause
  simp only [firstOf, decide_eq_true_eq]
  repeat' split
  all_goals rfl

theorem Settings.interval_eq (k : Nat) (s : Settings) : s.interval k = if k = 1 then s.interval1 else if k = 2 then s.interval2 else s.interval3 := by
  unfold Settings.interval
  split
  · rfl
  · rfl
  · next h₁ h₂ => rw [if_neg h₁, if_neg h₂]

/-- What a completed trip leads to, by the state the sequence is in (Table 3-5). -/
theorem State.tripCompleted_spec (s : State) :
    (∀ mark k, s.sqc.sequence = .tripping .protection mark → (s.lockoutCause mark).map Prod.fst = some k → ∃ o, s.tripCompleted = s.enterLockout k o)
    ∧ (∀ mark, s.sqc.sequence = .tripping .protection mark → (s.lockoutCause mark).map Prod.fst = none →
        s.tripCompleted = s.setSequence (.interval (s.now + s.sqc.active.interval s.sqc.shot * 1000)))
    ∧ (∀ mark, s.sqc.sequence = .tripping .command mark → s.tripCompleted = (s.setSequence .opened).activationTest)
    ∧ (∀ mark, s.sqc.sequence = .tripping .tag mark → s.tripCompleted = s.enterLockout .tag .tag)
    ∧ (∀ mark, s.sqc.sequence = .tripping .discordance mark → s.tripCompleted = s.enterLockout .mechanism .discordance)
    ∧ ((∀ kind mark, s.sqc.sequence ≠ .tripping kind mark) → s.tripCompleted = s) := by
  unfold State.tripCompleted
  refine ⟨fun mark k h c => ?_, fun mark h c => ?_, fun mark h => ?_, fun mark h => ?_, fun mark h => ?_, fun h => ?_⟩
  · obtain ⟨⟨cause, o⟩, hc, rfl⟩ := Option.map_eq_some_iff.mp c
    exact ⟨o, by rw [h]; simp only [hc]⟩
  · rw [h]
    simp only [Option.map_eq_none_iff.mp c]
    rfl
  · rw [h]
  · rw [h]
  · rw [h]
  · cases e : s.sqc.sequence with
    | tripping kind mark => exact absurd e (h kind mark)
    | _ => rfl

theorem State.tripEnded_completes (reported : s.sqc.reported = true) (retrip : Bool) :
    s.tripEnded (if retrip then .retripComplete else .complete) = s.tripCompleted := by
  unfold State.tripEnded
  rw [if_neg (by simp [reported])]
  cases retrip <;> rfl

/-- A step from one state of the sequence to another enters LOCKOUT. -/
def State.locks (s t : State) : Prop := (∀ cause, s.sqc.sequence ≠ .lockout cause) ∧ ∃ cause, t.sqc.sequence = .lockout cause

/-- A lockout is counted exactly where LOCKOUT is entered. -/
def State.countsLockout (s t : State) : Prop :=
  (s.locks t ∧ t.oru.counters = s.oru.counters.lockedOut) ∨ (¬ s.locks t ∧ t.oru.counters = s.oru.counters)

theorem State.enterLockout_counts (cause : LockoutCause) (o : Origin) (s : State) : s.countsLockout (s.enterLockout cause o) := by
  by_cases h : ∃ held, s.sqc.sequence = .lockout held
  · obtain ⟨held, h⟩ := h
    rw [State.enterLockout_stays h]
    exact .inr ⟨fun l => l.1 held h, rfl⟩
  · have free : ∀ held, s.sqc.sequence ≠ .lockout held := fun held e => h ⟨held, e⟩
    exact .inl ⟨⟨free, cause, (State.enterLockout_spec cause free).1⟩, State.enterLockout_counters free cause o⟩

theorem State.countsLockout_same (sequence : ∀ cause, t.sqc.sequence = .lockout cause → s.sqc.sequence = .lockout cause) (oru : t.oru = s.oru) :
    s.countsLockout t := .inr ⟨fun ⟨free, cause, h⟩ => free cause (sequence cause h), by rw [oru]⟩

theorem State.tripCompleted_counts (s : State) : s.countsLockout s.tripCompleted := by
  obtain ⟨locks, waits, opens, tags, discords, stays⟩ := s.tripCompleted_spec
  cases e : s.sqc.sequence with
  | tripping kind mark =>
    cases kind with
    | protection =>
      cases c : (s.lockoutCause mark).map Prod.fst with
      | some k =>
        obtain ⟨o, he⟩ := locks mark k e c
        rw [he]
        exact s.enterLockout_counts _ _
      | none =>
        rw [waits mark e c]
        exact State.countsLockout_same (fun cause h => by simp [State.setSequence] at h) rfl
    | command =>
      obtain ⟨sequence, oru, -⟩ := (s.setSequence .opened).activationTest_spec
      rw [opens mark e]
      exact State.countsLockout_same (fun cause h => by rw [sequence] at h; simp [State.setSequence] at h) oru
    | tag => rw [tags mark e]; exact s.enterLockout_counts _ _
    | discordance => rw [discords mark e]; exact s.enterLockout_counts _ _
  | _ => rw [stays (by simp [e])]; exact State.countsLockout_same (fun _ h => h) rfl

end

/-- Settles O47: what the sequence makes of the end, then the record with the counters and the wear. -/
theorem tripsCompleteWithAllPolesOpen : Obligations.TripsCompleteWithAllPolesOpen := by
  intro c op s hp reported flight kind allOpen moved was wears worn mark marks locks
  let s' := s.withMdr fun m => { m with poles := polesOf c }
  let outcome : OpOutcome := if op.retrip then .retripComplete else .complete
  let idle := s'.withMdr fun m => { m with op := none, tripDrive := false, closeDrive := false }
  let t := s'.endOperation outcome op
  have done : exec (.poleIndicationChange c) s = .next t.rejudge := by
    have done : exec (.poleIndicationChange c) s = .next (s.contactsRead c).rejudge := act_powered hp
    rwa [State.contactsRead_opens reported moved flight kind allOpen] at done
  have told : idle.operationTold outcome op = idle.tripCompleted := by
    unfold State.operationTold
    rw [kind]
    exact State.tripEnded_completes (by exact reported) op.retrip
  obtain ⟨sqc, oru, cLit, pLit, -, ended, rpu⟩ := State.endOperation_spec outcome op s'
  rw [told] at sqc oru
  have flag : op.flag = .trip := by unfold Operation.flag; rw [kind]
  rw [flag] at cLit pLit
  have recorded : (op.toRecord outcome).currents = some op.currents := if_pos kind
  have counters : t.oru.counters = idle.tripCompleted.oru.counters.worn op.recordKind op.currents := by
    rw [oru]
    exact State.record_worn recorded _
  have kind_eq := Operation.recordKind_trip kind
  have uncounted : op.recordKind.counts = true ∧ (op.recordKind = .lockout ↔ False) ∧ (op.recordKind = .protTrip ↔ op.origins.head? = some .protection) := by
    rw [kind_eq]
    by_cases h : op.origins.head? = some .protection <;> simp [h, RecordKind.counts]
  obtain ⟨counts, lockout, protTrip⟩ := uncounted
  obtain ⟨limit, total, prot, wear, marked, locked, open_⟩ : idle.tripCompleted.oru.counters.limit = was.limit ∧ idle.tripCompleted.oru.counters.total = was.total
      ∧ idle.tripCompleted.oru.counters.protTrips = was.protTrips ∧ idle.tripCompleted.oru.counters.wear = was.wear ∧ idle.tripCompleted.oru.counters.marks = was.marks
      ∧ (s.locks idle.tripCompleted → idle.tripCompleted.oru.counters.next = (was.next + 1) % 65536
          ∧ idle.tripCompleted.oru.counters.lockouts = min 9999999 (was.lockouts + 1))
      ∧ (¬ s.locks idle.tripCompleted → idle.tripCompleted.oru.counters.next = was.next
          ∧ idle.tripCompleted.oru.counters.lockouts = was.lockouts) := by
    rcases idle.tripCompleted_counts with ⟨locks, h⟩ | ⟨locks, h⟩
    · rw [h]
      exact ⟨rfl, rfl, rfl, rfl, rfl, fun _ => ⟨rfl, rfl⟩, fun no => absurd locks no⟩
    · rw [h]
      exact ⟨rfl, rfl, rfl, rfl, rfl, fun yes => absurd yes locks, fun _ => ⟨rfl, rfl⟩⟩
  have locks_iff : locks t.rejudge ↔ s.locks idle.tripCompleted := by
    change _ ∧ (∃ cause, t.sqc.sequence = _) ↔ _ ∧ _
    rw [sqc]
  have k_marks : t.oru.counters.marks = marks := by
    rw [counters, Counters.worn, Counters.marksAfter]
    simp only [Counters.wearOut, Counters.tally, limit, wear, marked, passed_eq]
    rfl
  have k_wear : t.oru.counters.wear = worn := by
    rw [counters, Counters.worn]
    simp only [Counters.wearOut, Counters.tally, wear]
    rfl
  obtain ⟨toLockout, toInterval, opens, tags, discords, stays⟩ := idle.tripCompleted_spec
  have newest := State.endOperation_newest outcome op s'
  have clock : t.clock = s.clock := by simp [t, s', State.withMdr]
  have cause_eq (m : Bool) := idle.lockoutCause_eq m
  refine ⟨_, op.ringRecord outcome t, t.oru.counters, done, rfl, State.endOperation_mdr outcome op s', clock, by simp [t, s', State.withMdr],
    by simp [t, s', State.withMdr], by simp [t, s', State.withMdr], ended, newest, rfl, rfl, kind_eq, recorded, rfl, rfl, rfl, ?_, ?_, ?_, k_wear, k_marks,
    ?_, fun l => ?_, fun l => ?_, fun pool new => ?_, cLit, pLit, fun m h => ⟨fun k hk => ?_, fun hk => ?_⟩, fun m h => ?_, fun m h => ?_, fun m h => ?_,
    fun h => ?_⟩
  · change t.stamp = s.stamp
    rw [State.stamp, clock]
    rfl
  · rw [counters, Counters.worn]
    simp [Counters.wearOut, Counters.tally, counts, total, satSucc, counterLimit]
  · rw [counters, Counters.worn]
    simp [Counters.wearOut, Counters.tally, limit]
  · rw [counters, Counters.worn]
    simp [Counters.wearOut, Counters.tally, protTrip, prot, satSucc, counterLimit]
  · obtain ⟨next, lockouts⟩ := locked (locks_iff.mp l)
    rw [counters, Counters.worn]
    simp [Counters.wearOut, Counters.tally, lockout, next, lockouts]
  · obtain ⟨next, lockouts⟩ := open_ (mt locks_iff.mpr l)
    rw [counters, Counters.worn]
    simp [Counters.wearOut, Counters.tally, lockout, next, lockouts]
  · have ok : idle.tripCompleted.rpu.poolOk := (State.spares.tripCompleted (.refl .wearLimit idle) nofun pool).1
    have asked := State.record_asks recorded ok (by
      intro same
      refine new ?_
      rw [← k_marks, counters, ← marked]
      exact same)
    have kind_ : (op.toRecord outcome).kind = op.recordKind := rfl
    rw [kind_, ← counters] at asked
    obtain ⟨event, eq⟩ := State.handOff_eq outcome op idle
    have fine : outcome.isFault = false := by
      simp only [outcome]
      cases op.retrip <;> rfl
    rw [told, fine, if_neg (by simp)] at eq
    have rpu : t.rpu = (((idle.tripCompleted.record (op.toRecord outcome)).event event (be 2 op.number)).raise op.flag).rpu := by rw [rpu, eq]
    obtain ⟨-, x, hx, kind, payload⟩ := (((State.spares.refl .wearLimit _).event event (be 2 op.number)).raise op.flag).carry asked
    rw [← rpu] at hx
    refine ⟨x, by rwa [State.rejudge_qAlarm, State.rejudge_held], kind, payload.trans ?_⟩
    rw [Counters.wearPayload, k_wear, k_marks, counters, Counters.worn]
    simp only [Counters.wearOut, Counters.tally, limit]
  · have h : idle.sqc.sequence = .tripping .protection m := h
    obtain ⟨o, he⟩ := toLockout m k h ((cause_eq m).trans hk)
    change t.sqc.sequence = _
    rw [sqc, he]
    exact (State.enterLockout_spec k (by simp [h])).1
  · change t.sqc = _
    rw [sqc, toInterval m h ((cause_eq m).trans hk), Settings.interval_eq]
    rfl
  · change t.sqc.sequence = _
    rw [sqc, opens m h, (State.activationTest_spec _).1]
    rfl
  · have h : idle.sqc.sequence = .tripping .tag m := h
    change t.sqc.sequence = _
    rw [sqc, tags m h]
    exact (State.enterLockout_spec _ (by simp [h])).1
  · have h : idle.sqc.sequence = .tripping .discordance m := h
    change t.sqc.sequence = _
    rw [sqc, discords m h]
    exact (State.enterLockout_spec _ (by simp [h])).1
  · have same : t.sqc = s.sqc := by
      rw [sqc, stays fun kind mark e => ?_]
      · rfl
      · have e : s.sqc.sequence = .tripping kind mark := e
        rcases h with h | ⟨k, h⟩ <;> exact nomatch h.symm.trans e
    exact ⟨same, congrArg Sqc.shot same⟩

end Sys2Proof.Machine
end

section
/-! PROOFS. The ends of the trip pulse, of the settle window and of the retrip's window (R70 to R72). -/

namespace Sys2Proof.Machine

section
variable {s u : State} {op : Operation}

theorem State.tripPulseOver_opens (flight : s.mdr.op = some op) (kind : op.kind = .trip) (phase : op.phase = .pulse ∨ op.phase = .retripPulse)
    (allOpen : s.mdr.poles.allOpen = true) : s.tripPulseOver = (s.reach (op.pulseStart + tripPulse)).tripOpened op := by
  unfold State.tripPulseOver
  simp only [flight, if_pos kind]
  rcases phase with h | h <;> rw [h] <;> exact if_pos allOpen

theorem State.tripPulseOver_settles (flight : s.mdr.op = some op) (kind : op.kind = .trip) (phase : op.phase = .pulse)
    (closed : s.mdr.poles.allOpen = false) : s.tripPulseOver = (s.reach (op.pulseStart + tripPulse)).toPhase .settle op := by
  unfold State.tripPulseOver
  simp only [flight, if_pos kind, phase]
  exact if_neg ((Bool.not_eq_true _).mpr closed)

theorem State.tripPulseOver_resettles (flight : s.mdr.op = some op) (kind : op.kind = .trip) (phase : op.phase = .retripPulse)
    (closed : s.mdr.poles.allOpen = false) : s.tripPulseOver = (s.reach (op.pulseStart + tripPulse)).toPhase .retripSettle op := by
  unfold State.tripPulseOver
  simp only [flight, if_pos kind, phase]
  exact if_neg ((Bool.not_eq_true _).mpr closed)

theorem State.tripWindowOver_retrips (flight : s.mdr.op = some op) (kind : op.kind = .trip) (first : op.retrip = false) (phase : op.phase = .settle)
    (closed : s.mdr.poles.allOpen = false) : s.tripWindowOver = (s.reach (op.pulseStart + tripWindow)).retrip op := by
  unfold State.tripWindowOver
  simp only [flight]
  rw [if_pos (by simp [kind, first]), if_neg (by simp [phase])]
  simp only [flight]
  exact if_neg ((Bool.not_eq_true _).mpr closed)

/-- The alarms of a trip whose retrip has failed, with the latch (R72, R81). -/
def State.tripFailed (op : Operation) (s : State) : State :=
  (s.setLatch.discordanceAlarm (some op.number)).mechanismAlarm .tripFailed (some op.number)

theorem State.retripWindowOver_fails (flight : s.mdr.op = some op) (kind : op.kind = .trip) (second : op.retrip = true) (phase : op.phase = .retripSettle)
    (closed : s.mdr.poles.allOpen = false) :
    s.retripWindowOver = ((s.reach (op.pulseStart + tripWindow)).tripFailed op).endOperation .discordant op := by
  unfold State.retripWindowOver
  simp only [flight]
  rw [if_pos (by simp [kind, second]), if_neg (by simp [phase])]
  simp only [flight]
  exact if_neg ((Bool.not_eq_true _).mpr closed)

theorem State.setLatch_mdr (s : State) : ∃ w₁ w₂, s.setLatch.mdr = { s.mdr with latch := true, invalidWatch := w₁, mixedWatch := w₂ } := by
  unfold State.setLatch
  split
  · next h => exact ⟨s.mdr.invalidWatch, s.mdr.mixedWatch, by rw [← h]⟩
  · exact ⟨none, none, by simp [State.withMdr, Mdr.stopWatches]⟩

/-- The end of a trip that no retrip could open, as it shows. -/
theorem State.tripFailed_ends (ok : s.rpu.poolOk) (kind : op.kind = .trip) : let t := (s.tripFailed op).endOperation .discordant op
    t.clock = s.clock ∧ t.mdr.op = none ∧ t.mdr.tripDrive = false ∧ t.mdr.closeDrive = false ∧ t.mdr.latch = true
      ∧ t.mdr.estimate = s.mdr.estimate ∧ t.mdr.poles = s.mdr.poles
      ∧ (s.sqc.reported = true → (∀ k, s.sqc.sequence ≠ .lockout k) → t.sqc.sequence = .lockout .mechanism)
      ∧ (∀ k, s.sqc.sequence = .lockout k → t.sqc = s.sqc)
      ∧ t.rpu.asks .mechanismFault (1 :: s.mdr.poles.enc ++ (1 :: be 2 op.number))
      ∧ t.rpu.asks .poleDiscordance (s.mdr.poles.enc ++ (1 :: be 2 op.number))
      ∧ t.ports.cAlerts.lit .mechFault := by
  intro t
  obtain ⟨w₁, w₂, latched⟩ := s.setLatch_mdr
  have mdr : t.mdr = { (s.tripFailed op).mdr with op := none, tripDrive := false, closeDrive := false } := State.endOperation_mdr _ _ _
  have failed : (s.tripFailed op).mdr = s.setLatch.mdr := by simp [State.tripFailed, State.mechanismAlarm, State.discordanceAlarm]
  have same : (s.tripFailed op).sqc = s.sqc ∧ (s.tripFailed op).clock = s.clock := by
    simp [State.tripFailed, State.mechanismAlarm, State.discordanceAlarm]
  obtain ⟨sqc, -, -, -, fault, -, rpu⟩ := State.endOperation_spec .discordant op (s.tripFailed op)
  rw [failed, latched] at mdr
  let idle := (s.tripFailed op).withMdr fun m => { m with op := none, tripDrive := false, closeDrive := false }
  have idle_sqc : idle.sqc = s.sqc := same.1
  have told : idle.operationTold .discordant op = if s.sqc.reported then idle.enterLockout .mechanism .discordance else idle := by
    unfold State.operationTold State.tripEnded
    rw [kind, idle_sqc]
    cases s.sqc.reported <;> rfl
  have sqc : t.sqc = (idle.operationTold .discordant op).sqc := sqc
  have poles : s.setLatch.mdr.poles = s.mdr.poles := by rw [latched]
  have discordant : (s.setLatch.discordanceAlarm (some op.number)).rpu.poolOk
      ∧ (s.setLatch.discordanceAlarm (some op.number)).rpu.asks .poleDiscordance (s.mdr.poles.enc ++ (1 :: be 2 op.number)) := by
    rw [← poles]
    exact State.alarm_asks _ ((State.spares.setLatch (.refl .poleDiscordance s)) ok).1
  have fault_ : (s.tripFailed op).rpu.poolOk ∧ (s.tripFailed op).rpu.asks .mechanismFault (1 :: s.mdr.poles.enc ++ (1 :: be 2 op.number)) := by
    rw [← poles]
    exact State.alarm_asks _ discordant.1
  have handed (id : AlarmId) (lockout : id ≠ .lockout) (wear : id ≠ .wearLimit) : (s.tripFailed op).spares id t :=
    State.spares.same (State.spares.handOff (t := idle) (.refl id _) kind lockout wear .discordant) rpu
  refine ⟨?_, by rw [mdr], by rw [mdr], by rw [mdr], by rw [mdr], by rw [mdr], by rw [mdr], fun reported free => ?_, fun k locked => ?_, ?_, ?_, fault rfl⟩
  · exact (State.endOperation_frame _ _ _).1.trans same.2
  · rw [sqc, told, if_pos reported]
    exact (State.enterLockout_spec _ (by rw [idle_sqc]; exact free)).1
  · rw [sqc, told, State.enterLockout_stays (s := idle) (by rw [idle_sqc]; exact locked), ite_self, idle_sqc]
  · exact ((handed .mechanismFault nofun nofun).carry fault_).2
  · have alarmed := State.spares.alarm (.refl .poleDiscordance (s.setLatch.discordanceAlarm (some op.number))) (other := .mechanismFault) nofun
      (MechCause.tripFailed.code :: (s.setLatch.discordanceAlarm (some op.number)).mdr.poles.enc ++ encOpt (be 2) (some op.number))
    exact ((handed .poleDiscordance nofun nofun).carry (alarmed.carry discordant)).2

end

/-- Settles O48: the pulse by the poles it leaves, the window by the retrip it starts, the retrip's window by the trip that has failed. -/
theorem tripPulsesAndWindowsEnd : Obligations.TripPulsesAndWindowsEnd := by
  intro op s hp pool flight kind pulseOver windowOver settle
  have pulse : tripPulse = 40000 := rfl
  have window : tripWindow = 100000 := rfl
  refine ⟨fun phase closed => ?_, fun phase closed => ?_, fun phase allOpen => ?_, fun phase first closed => ?_, fun phase second closed => ?_⟩
  · have over_ := State.tripPulseOver_settles flight kind phase closed
    rw [pulse] at over_
    exact State.leads_as (f := State.tripPulseOver) hp (by rfl) over_ rfl rfl
  · have over_ := State.tripPulseOver_resettles flight kind phase closed
    rw [pulse] at over_
    exact State.leads_as (f := State.tripPulseOver) hp (by rfl) over_ rfl rfl
  · have done : exec .tripPulseEnd s = .next (s.tripPulseOver).rejudge := act_powered hp
    rw [State.tripPulseOver_opens flight kind phase allOpen, pulse] at done
    exact ⟨_, _, done, State.endOperation_mdr _ op pulseOver, (State.endOperation_frame _ op pulseOver).1, State.endOperation_newest _ op pulseOver,
      rfl, rfl⟩
  · have over_ := State.tripWindowOver_retrips flight kind first phase closed
    rw [window] at over_
    exact State.leads_as (f := State.tripWindowOver) hp (by rfl) over_ rfl rfl
  · have done : exec .retripSettleExpiry s = .next (s.retripWindowOver).rejudge := act_powered hp
    rw [State.retripWindowOver_fails flight kind second phase closed, window] at done
    obtain ⟨clock, idle, trip, close, latch, estimate, poles, locks, stays, fault, discord, lit⟩ := State.tripFailed_ends (s := windowOver) pool kind
    refine ⟨_, _, done, clock, idle, trip, close, latch, estimate, poles, State.endOperation_newest _ op _, rfl, rfl, locks, stays, ?_, ?_, lit⟩
    · rw [State.rejudge_qAlarm, State.rejudge_held]
      exact fault
    · rw [State.rejudge_qAlarm, State.rejudge_held]
      exact discord

end Sys2Proof.Machine
end

section
/-! PROOFS. The ends of a close: complete, failed, discordant (R54, R55, R73, R75, R76). -/

namespace Sys2Proof.Machine

section
variable {s t u : State} {op : Operation} {outcome : OpOutcome}

/-- What a completed close leads to (R54). -/
theorem State.closeCompleted_spec (s : State) :
    (∀ kind, s.sqc.sequence = .closing kind → s.au.tags ≠ [] → s.closeCompleted = s.enterReady)
    ∧ (s.sqc.sequence = .closing .reclose → s.au.tags = [] → s.closeCompleted = s.startReclaim)
    ∧ (s.sqc.sequence = .closing .command → s.au.tags = [] → s.closeCompleted = ((s.setShot 0).setAfterCommand true).startReclaim)
    ∧ ((∀ kind, s.sqc.sequence ≠ .closing kind) → s.closeCompleted = s) := by
  unfold State.closeCompleted
  refine ⟨fun kind h tagged => ?_, fun h free => ?_, fun h free => ?_, fun h => ?_⟩
  · rw [h]
    exact if_pos (by simp [tagged])
  · rw [h]
    exact if_neg (by simp [free])
  · rw [h]
    exact if_neg (by simp [free])
  · cases e : s.sqc.sequence with
    | closing kind => exact absurd e (h kind)
    | _ => rfl

theorem State.closeEnded_completes (reported : s.sqc.reported = true) : s.closeEnded .complete = s.closeCompleted := by
  unfold State.closeEnded
  rw [if_neg (by simp [reported])]

theorem State.closeEnded_fails (reported : s.sqc.reported = true) (fault : outcome = .failed ∨ outcome = .discordant) :
    s.closeEnded outcome = s.enterLockout .mechanism .discordance := by
  unfold State.closeEnded
  rw [if_neg (by simp [reported])]
  rcases fault with rfl | rfl <;> rfl

theorem State.operationTold_close (kind : op.kind = .close) : s.operationTold outcome op = s.closeEnded outcome := by
  unfold State.operationTold
  rw [kind]

/-- The record of an operation handed off is the newest of the ring (R77, R161). -/
theorem State.handOff_newest (outcome : OpOutcome) (op : Operation) (s : State) :
    (s.handOff outcome op).oru.ring.getLast? = some (op.ringRecord outcome (s.operationTold outcome op)) := by
  obtain ⟨-, oru, -⟩ := s.handOff_spec outcome op
  rw [oru, State.record_ring, pushRing_getLast (by decide)]
  rfl

theorem Operation.recordKind_ofClose (kind : op.kind = .close) : op.recordKind = if op.origins.head? = some .reclose then .reclose else .cmdClose := by
  unfold Operation.recordKind
  rw [kind]
  split
  case h_3 h => exact (if_pos h).symm
  case h_4 h => exact (if_neg h).symm
  all_goals contradiction

/-- The newest record is that of a close with its outcome. -/
theorem Operation.ringRecord_close (kind : op.kind = .close) (outcome : OpOutcome) (h : t.oru.ring.getLast? = some (op.ringRecord outcome u)) :
    ∃ r, t.oru.ring.getLast? = some r ∧ r.number = op.number ∧ r.outcome = some outcome ∧ r.currents = none
      ∧ r.kind = (if op.origins.head? = some .reclose then .reclose else .cmdClose) :=
  ⟨_, h, rfl, rfl, if_neg (by rw [kind]; nofun), Operation.recordKind_ofClose kind⟩

/-! ### The events that end a close -/

theorem State.contactsRead_closes {c : Contacts} (reported : s.sqc.reported = true) (moved : s.mdr.poles ≠ polesOf c)
    (flight : s.mdr.op = some op) (kind : op.kind = .close) (allClosed : (polesOf c).allClosed = true) :
    s.contactsRead c = (s.withMdr fun m => { m with poles := polesOf c }).endOperation .complete op := by
  unfold State.contactsRead
  dsimp only
  rw [if_neg (by simp [reported]), if_neg (Ne.symm moved)]
  unfold State.indicationEvent State.judgePoles
  simp only [State.withMdr, flight, kind, allClosed, if_true]

theorem State.closePulseOver_settles (flight : s.mdr.op = some op) (kind : op.kind = .close) (phase : op.phase = .pulse) :
    s.closePulseOver = (s.reach (op.pulseStart + closePulse)).toPhase .settle op := by
  unfold State.closePulseOver
  simp only [flight]
  exact if_pos (by simp [kind, phase])

theorem State.toPhase_reach (phase : Phase) (time : Nat) : (s.reach time).toPhase phase op = { s.reach time with mdr :=
    { s.mdr with op := some { op with phase := phase }, tripDrive := false, closeDrive := false } } := rfl

theorem State.closeWindowOver_fails (flight : s.mdr.op = some op) (kind : op.kind = .close) (opened : s.mdr.poles.allClosed = false) :
    s.closeWindowOver = (s.reach (op.pulseStart + closeWindow)).closeFailedAt op := by
  have gap (time : Nat) : ¬ (s.reach time).mdr.poles.allClosed = true := (Bool.not_eq_true _).mpr opened
  unfold State.closeWindowOver
  simp only [flight]
  exact (if_pos kind).trans (if_neg (gap _))

theorem Poles.allClosed_of_allOpen {p : Poles} (h : p.allOpen = true) : p.allClosed = false := by
  simp only [Poles.allOpen, Bool.and_eq_true, beq_iff_eq] at h
  simp [Poles.allClosed, h]

/-! ### A close that fails (R75, R76) -/

theorem State.setLatch_poles (s : State) : s.setLatch.mdr.poles = s.mdr.poles := by
  obtain ⟨w₁, w₂, latched⟩ := s.setLatch_mdr
  rw [latched]

theorem State.closeFailedAt_failed (allOpen : s.mdr.poles.allOpen = true) :
    s.closeFailedAt op = (s.setLatch.mechanismAlarm .closeFailed (some op.number)).endOperation .failed op := by
  unfold State.closeFailedAt
  exact if_pos (by rw [s.setLatch_poles]; exact allOpen)

/-- The trip that answers a discordant close, with the alarms (R76). -/
def State.closeAnswered (op : Operation) (s : State) : State :=
  ((((s.withMdr fun m => { m with closeDrive := false }).beginTrip .discordance none s.lmu.currents).discordanceAlarm
    (some op.number)).mechanismAlarm .closeDiscordant (some op.number))

theorem State.closeFailedAt_discordant (opened : s.mdr.poles.allOpen = false) :
    s.closeFailedAt op = (s.setLatch.closeAnswered op).handOff .discordant op := by
  unfold State.closeFailedAt
  exact if_neg (by rw [s.setLatch_poles]; simp [opened])

theorem State.setLatch_frame' (s : State) : s.setLatch.sqc = s.sqc ∧ s.setLatch.clock = s.clock := by simp

theorem State.beginTrip_sqc (o : Origin) (e : Option Element) (c : Currents) (s : State) :
    (s.beginTrip o e c).sqc = ((s.tripPulsed o e c).tripStarted [o]).sqc := by
  rw [State.beginTrip_eq, (State.operationStarted_rest _).2.1]
  rfl

theorem State.beginTrip_opInFlight (o : Origin) (e : Option Element) (c : Currents) (s : State) : (s.beginTrip o e c).bcu.opInFlight = true :=
  (State.operationStarted_bcu _).1

/-- A trip of origin DISCORDANCE that starts in CLOSING (R47). -/
theorem State.beginTrip_discordance (e : Option Element) (c : Currents) (reported : s.sqc.reported = true) (closing : ∃ k, s.sqc.sequence = .closing k) :
    (s.beginTrip .discordance e c).sqc = { s.sqc with sequence := .tripping .discordance false } := by
  obtain ⟨-, -, sqc, -⟩ := State.tripPulsed_frame .discordance e c s
  obtain ⟨k, closing⟩ := closing
  rw [State.beginTrip_sqc, State.tripStarted, sqc, reported, closing]
  exact congrArg (fun q : Sqc => { q with sequence := .tripping .discordance false }) sqc

/-- A failed close, as it shows. -/
theorem State.closeFailed_ends (kind : op.kind = .close) (reported : s.sqc.reported = true) (closing : ∃ k, s.sqc.sequence = .closing k) :
    let t := (s.setLatch.mechanismAlarm .closeFailed (some op.number)).endOperation .failed op
    t.clock = s.clock ∧ t.mdr.op = none ∧ t.mdr.closeDrive = false ∧ t.mdr.tripDrive = false ∧ t.mdr.latch = true
      ∧ t.mdr.estimate = s.mdr.estimate ∧ t.sqc.sequence = .lockout .mechanism := by
  intro t
  let alarmed := s.setLatch.mechanismAlarm .closeFailed (some op.number)
  obtain ⟨w₁, w₂, latched⟩ := s.setLatch_mdr
  obtain ⟨sqc_, clock_⟩ := s.setLatch_frame'
  have mdr : t.mdr = { alarmed.mdr with op := none, tripDrive := false, closeDrive := false } := State.endOperation_mdr _ _ _
  have failed : alarmed.mdr = s.setLatch.mdr := by simp [alarmed, State.mechanismAlarm]
  rw [failed, latched] at mdr
  obtain ⟨sqc, -⟩ := State.endOperation_spec .failed op alarmed
  let idle := alarmed.withMdr fun m => { m with op := none, tripDrive := false, closeDrive := false }
  have idle_sqc : idle.sqc = s.sqc := sqc_
  obtain ⟨k, closing⟩ := closing
  have sequence : t.sqc.sequence = .lockout .mechanism := by
    have sqc : t.sqc = (idle.operationTold .failed op).sqc := sqc
    rw [sqc, State.operationTold_close kind, State.closeEnded_fails (by rw [idle_sqc]; exact reported) (.inl rfl)]
    exact (State.enterLockout_spec _ (by simp [idle_sqc, closing])).1
  exact ⟨(State.endOperation_frame _ _ _).1.trans clock_, by rw [mdr], by rw [mdr], by rw [mdr], by rw [mdr], by rw [mdr], sequence⟩

/-- A discordant close, as it shows: its answer, the trip, is in flight. -/
theorem State.closeDiscordant_ends (kind : op.kind = .close) (reported : s.sqc.reported = true) (closing : ∃ k, s.sqc.sequence = .closing k) :
    let t := (s.setLatch.closeAnswered op).handOff .discordant op
    t.clock = s.clock ∧ t.mdr.latch = true ∧ t.mdr.closeDrive = false
      ∧ t.mdr.op = some ((s.setLatch.withMdr fun m => { m with closeDrive := false }).newTrip .discordance none s.setLatch.lmu.currents)
      ∧ t.mdr.tripDrive = true ∧ t.mdr.estimate = s.mdr.estimate - s.mdr.settings.eTrip
      ∧ t.sqc.sequence = .lockout .mechanism ∧ t.bcu.opInFlight = true := by
  intro t
  let v := s.setLatch.withMdr fun m => { m with closeDrive := false }
  let begun := v.beginTrip .discordance none s.setLatch.lmu.currents
  obtain ⟨w₁, w₂, latched⟩ := s.setLatch_mdr
  obtain ⟨sqc_, clock_⟩ := s.setLatch_frame'
  have asked : (s.setLatch.closeAnswered op).mdr = begun.mdr ∧ (s.setLatch.closeAnswered op).sqc = begun.sqc
      ∧ (s.setLatch.closeAnswered op).bcu = begun.bcu ∧ (s.setLatch.closeAnswered op).clock = begun.clock := by
    simp [State.closeAnswered, State.mechanismAlarm, State.discordanceAlarm, begun, v]
  obtain ⟨asked_mdr, asked_sqc, asked_bcu, asked_clock⟩ := asked
  have begun_mdr := State.beginTrip_mdr .discordance none s.setLatch.lmu.currents v
  have v_mdr : v.mdr = { s.setLatch.mdr with closeDrive := false } := rfl
  have mdr : t.mdr = begun.mdr := (by simp [t] : t.mdr = (s.setLatch.closeAnswered op).mdr).trans asked_mdr
  rw [begun_mdr, v_mdr, latched] at mdr
  have began : begun.sqc = { s.sqc with sequence := .tripping .discordance false } := by
    rw [State.beginTrip_discordance _ _ (by exact sqc_ ▸ reported) (by exact sqc_ ▸ closing)]
    exact congrArg (fun q : Sqc => { q with sequence := .tripping .discordance false }) sqc_
  obtain ⟨sqc, -⟩ := State.handOff_spec .discordant op (s.setLatch.closeAnswered op)
  have sequence : t.sqc.sequence = .lockout .mechanism := by
    have sqc : t.sqc = ((s.setLatch.closeAnswered op).operationTold .discordant op).sqc := sqc
    rw [sqc, State.operationTold_close kind, State.closeEnded_fails (by rw [asked_sqc, began]; exact reported) (.inr rfl)]
    exact (State.enterLockout_spec _ (by simp [asked_sqc, began])).1
  have clock : begun.clock = s.clock := (by simp [begun] : begun.clock = v.clock).trans clock_
  have bcu : t.bcu = begun.bcu := (by simp [t] : t.bcu = (s.setLatch.closeAnswered op).bcu).trans asked_bcu
  refine ⟨?_, by rw [mdr], by rw [mdr], by rw [mdr], by rw [mdr], by rw [mdr], sequence, by rw [bcu]; exact State.beginTrip_opInFlight _ _ _ v⟩
  exact (by simp [t] : t.clock = (s.setLatch.closeAnswered op).clock).trans (asked_clock.trans clock)

end

/-- Settles O49: the indication event by what the sequence makes of a completed close, the window by the poles it finds. -/
theorem closesCompleteOrFail : Obligations.ClosesCompleteOrFail := by
  intro c op s hp reported flight kind windowOver recorded reclaim
  have pulse : closePulse = 60000 := rfl
  have window : closeWindow = 150000 := rfl
  refine ⟨fun allClosed moved => ?_, fun phase => ?_, fun allOpen closing => ?_, fun opened gap closing => ?_⟩
  · let s' := s.withMdr fun m => { m with poles := polesOf c }
    let idle := s'.withMdr fun m => { m with op := none, tripDrive := false, closeDrive := false }
    let t := s'.endOperation .complete op
    have done : exec (.poleIndicationChange c) s = .next (s.contactsRead c).rejudge := act_powered hp
    rw [State.contactsRead_closes reported moved flight kind allClosed] at done
    obtain ⟨sqc, -, cLit, -, -, ended, -⟩ := State.endOperation_spec .complete op s'
    have told : idle.operationTold .complete op = idle.closeCompleted :=
      (State.operationTold_close kind).trans (State.closeEnded_completes (by exact reported))
    have sqc : t.sqc = idle.closeCompleted.sqc := sqc.trans (congrArg State.sqc told)
    have flag : op.flag = .close := by unfold Operation.flag; rw [kind]
    rw [flag] at cLit
    obtain ⟨ready, reclose, command, stays⟩ := idle.closeCompleted_spec
    refine ⟨_, done, State.endOperation_mdr .complete op s', by simp [State.withMdr], by simp [State.withMdr], ended,
      Operation.ringRecord_close kind _ (State.endOperation_newest .complete op s'), cLit, fun free h => ?_, fun free h => ?_, fun tagged h => ?_, fun h => ?_⟩
    · change t.sqc = _
      rw [sqc, reclose h free]
      rfl
    · change t.sqc = _
      rw [sqc, command h free]
      rfl
    · obtain ⟨k, h⟩ := h
      obtain ⟨sequence, shot, after⟩ := idle.enterReady_spec
      change t.sqc.sequence = _ ∧ t.sqc.shot = _ ∧ t.sqc.afterCommand = _
      rw [sqc, ready k h tagged]
      exact ⟨sequence, shot, after⟩
    · change t.sqc = _
      rw [sqc, stays h]
      rfl
  · have pulsed := State.closePulseOver_settles flight kind phase
    have leads (time : Nat) (h : s.closePulseOver = { s.reach time with mdr :=
        { s.mdr with op := some { op with phase := .settle }, tripDrive := false, closeDrive := false } }) :=
      State.leads_as (f := State.closePulseOver) (c := .closePulseEnd) hp (by rfl) h rfl rfl
    rw [pulse, State.toPhase_reach] at pulsed
    exact leads _ pulsed
  · have done : exec .closeSettleExpiry s = .next (s.closeWindowOver).rejudge := act_powered hp
    have fails (time : Nat) := State.closeFailedAt_failed (s := s.reach time) (op := op) allOpen
    have ends (time : Nat) := State.closeFailed_ends (s := s.reach time) kind reported closing
    rw [State.closeWindowOver_fails flight kind (Poles.allClosed_of_allOpen allOpen), window, fails] at done
    obtain ⟨clock, idle, close, trip, latch, estimate, sequence⟩ := ends (op.pulseStart + 150000)
    exact ⟨_, done, clock, idle, close, trip, latch, estimate.trans (congrArg Mdr.estimate (s.reach_mdr _)), sequence,
      Operation.ringRecord_close kind _ (State.endOperation_newest .failed op _)⟩
  · have done : exec .closeSettleExpiry s = .next (s.closeWindowOver).rejudge := act_powered hp
    have fails (time : Nat) := State.closeFailedAt_discordant (s := s.reach time) (op := op) opened
    have ends (time : Nat) := State.closeDiscordant_ends (s := s.reach time) kind reported closing
    rw [State.closeWindowOver_fails flight kind gap, window, fails] at done
    obtain ⟨clock, latch, close, trip, drive, estimate, sequence, inFlight⟩ := ends (op.pulseStart + 150000)
    refine ⟨_, _, done, clock, latch, close, trip, rfl, rfl, rfl, ?_, drive, estimate, sequence, inFlight,
      Operation.ringRecord_close kind _ (State.handOff_newest .discordant op _)⟩
    have now : windowOver.setLatch.clock = windowOver.clock := windowOver.setLatch_frame'.2
    exact congrArg Clock.running (now.trans clock.symm)

end Sys2Proof.Machine
end

section
/-! PROOFS. Pole events and watches with nothing in flight (R58, R63, R65, R78 to R81, R88). -/

namespace Sys2Proof.Machine

section
variable {s t : State} {c : Contacts}

/-! ### The trip that answers a discordance -/

/-- A trip of origin DISCORDANCE has just begun, with the latch set (R80, R88). -/
def State.answersDiscordance (t : State) : Prop := t.mdr.latch = true ∧ t.mdr.tripDrive = true
  ∧ ∃ op, t.mdr.op = some op ∧ op.kind = .trip ∧ op.origins = [.discordance] ∧ op.phase = .pulse ∧ op.pulseStart = t.now

theorem State.beginTrip_answers (latch : s.mdr.latch = true) : (s.beginTrip .discordance none s.lmu.currents).answersDiscordance := by
  have mdr := State.beginTrip_mdr .discordance none s.lmu.currents s
  have clock : (s.beginTrip .discordance none s.lmu.currents).clock = s.clock := by simp
  refine ⟨by rw [mdr]; exact latch, by rw [mdr], _, by rw [mdr], rfl, rfl, rfl, ?_⟩
  exact congrArg Clock.running clock.symm

theorem State.answersDiscordance.judged (h : t.answersDiscordance) : t.rejudge.answersDiscordance := h

theorem State.tripStarted_reported (l : List Origin) (s : State) : (s.tripStarted l).sqc.reported = s.sqc.reported := by
  unfold State.tripStarted
  split
  · rfl
  · cases s.sqc.sequence with
    | interval d | energyWait d => exact (State.enterLockout_keeps _ _ s).1
    | _ => rfl

theorem State.beginTrip_reported (o : Origin) (e : Option Element) (x : Currents) (s : State) :
    (s.beginTrip o e x).sqc.reported = s.sqc.reported := by
  obtain ⟨-, -, sqc, -⟩ := State.tripPulsed_frame o e x s
  rw [State.beginTrip_sqc, State.tripStarted_reported, sqc]

/-- In LOCKOUT a trip's start leaves the sequence as it is (Table 3-4). -/
theorem State.beginTrip_locked {cause : LockoutCause} (o : Origin) (e : Option Element) (x : Currents) (locked : s.sqc.sequence = .lockout cause) :
    (s.beginTrip o e x).sqc = s.sqc := by
  obtain ⟨-, -, sqc, -⟩ := State.tripPulsed_frame o e x s
  rw [State.beginTrip_sqc, State.tripStarted]
  split
  · exact sqc
  · rw [sqc, locked]
    exact sqc

/-! ### The first report (R63, R88) -/

/-- The alarms and the latch of a first report that finds the poles not all alike (R88). -/
def State.reportAlarmed (s : State) : State :=
  if s.mdr.poles.mixed then (s.setLatch.mechanismAlarm .powerOn none).discordanceAlarm none else s.setLatch.mechanismAlarm .powerOn none

theorem State.reportAlarmed_frame (s : State) : s.reportAlarmed.mdr = s.setLatch.mdr ∧ s.reportAlarmed.sqc = s.sqc
    ∧ s.reportAlarmed.clock = s.clock ∧ s.reportAlarmed.lmu = s.lmu := by
  unfold State.reportAlarmed
  split <;> simp [State.mechanismAlarm, State.discordanceAlarm]

theorem State.judgeReport_alike (h : s.mdr.poles.allOpen = true ∨ s.mdr.poles.allClosed = true) : s.judgeReport = s := by
  unfold State.judgeReport
  exact if_pos (by simpa using h)

theorem State.judgeReport_differ (opened : s.mdr.poles.allOpen = false) (closed : s.mdr.poles.allClosed = false) :
    s.judgeReport = if s.mdr.poles.anyClosed then s.reportAlarmed.requestTrip .discordance else s.reportAlarmed := by
  unfold State.judgeReport State.reportAlarmed
  exact if_neg (by simp [opened, closed])

/-- What a first report with nothing in flight makes of poles that are not all alike. -/
theorem State.judgeReport_spec (idle : s.mdr.op = none) (opened : s.mdr.poles.allOpen = false) (closed : s.mdr.poles.allClosed = false) :
    s.judgeReport.mdr.latch = true ∧ s.judgeReport.mdr.poles = s.mdr.poles
      ∧ (s.mdr.poles.anyClosed = true → s.judgeReport = s.reportAlarmed.beginTrip .discordance none s.reportAlarmed.lmu.currents)
      ∧ (s.mdr.poles.anyClosed = false → s.judgeReport = s.reportAlarmed ∧ s.reportAlarmed.mdr.op = none) := by
  obtain ⟨w₁, w₂, latched⟩ := s.setLatch_mdr
  obtain ⟨mdr, -⟩ := s.reportAlarmed_frame
  rw [latched] at mdr
  rw [State.judgeReport_differ opened closed]
  by_cases any : s.mdr.poles.anyClosed = true
  · have begun := State.beginTrip_mdr .discordance none s.reportAlarmed.lmu.currents s.reportAlarmed
    rw [if_pos any, State.requestTrip_idle _ (by rw [mdr]; exact idle)]
    refine ⟨by rw [begun, mdr], by rw [begun, mdr], fun _ => rfl, fun no => absurd any (by simp [no])⟩
  · rw [if_neg any]
    exact ⟨by rw [mdr], by rw [mdr], fun yes => absurd yes any, fun _ => ⟨rfl, by rw [mdr]; exact idle⟩⟩

theorem State.takeReport_mdr (p : Poles) (s : State) : (s.takeReport p).mdr = s.mdr ∧ (s.takeReport p).clock = s.clock := by simp

theorem State.firstReport_idle (idle : s.mdr.op = none) : s.firstReport = (s.takeReport s.mdr.poles).judgeReport := by
  obtain ⟨mdr, -⟩ := State.takeReport_mdr s.mdr.poles s
  have idle' : (s.takeReport s.mdr.poles).mdr.op = none := by rw [mdr]; exact idle
  unfold State.firstReport
  dsimp only
  by_cases alike : s.mdr.poles.allOpen = true ∨ s.mdr.poles.allClosed = true
  · rw [State.judgeReport_alike (by rw [mdr]; exact alike), idle']
  · obtain ⟨opened, closed⟩ := not_or.mp alike
    obtain ⟨-, poles, trips, rests⟩ := State.judgeReport_spec idle' (by rw [mdr]; simpa using opened) (by rw [mdr]; simpa using closed)
    cases any : (s.takeReport s.mdr.poles).mdr.poles.anyClosed with
    | true =>
      have begun := State.beginTrip_mdr .discordance none (s.takeReport s.mdr.poles).reportAlarmed.lmu.currents (s.takeReport s.mdr.poles).reportAlarmed
      have flight := congrArg Mdr.op begun
      rw [← trips any] at flight
      rw [flight]
      exact if_neg (by rw [poles, mdr]; exact opened)
    | false =>
      obtain ⟨same, none_⟩ := rests any
      rw [same, none_]

theorem State.takeReport_spec (p : Poles) (s : State) : (s.takeReport p).sqc.reported = true
    ∧ (p.allClosed = true → (s.takeReport p).sqc.sequence = .ready)
    ∧ (p.allOpen = true → (s.takeReport p).sqc.sequence = .opened)
    ∧ (p.allClosed = false → p.allOpen = false → (∀ k, s.sqc.sequence ≠ .lockout k) → (s.takeReport p).sqc.sequence = .lockout .mechanism) := by
  let u : State := { s with sqc := { s.sqc with reported := true } }
  have settled (q : Sequence) : (u.setSequence q).activationTest.sqc.reported = true ∧ (u.setSequence q).activationTest.sqc.sequence = q :=
    ⟨(State.activationTest_keeps _).1, (State.activationTest_spec _).1⟩
  have taken : s.takeReport p = if p.allClosed then (u.setSequence .ready).activationTest
      else if p.allOpen then (u.setSequence .opened).activationTest else u.enterLockout .mechanism .discordance := rfl
  rw [taken]
  cases closed : p.allClosed with
  | true => exact ⟨(settled _).1, fun _ => (settled _).2, fun opened => absurd closed (by simp [Poles.allClosed_of_allOpen opened]), nofun⟩
  | false =>
    cases opened : p.allOpen with
    | true => exact ⟨(settled _).1, nofun, fun _ => (settled _).2, nofun⟩
    | false =>
      refine ⟨(State.enterLockout_keeps _ _ u).1, nofun, nofun, fun _ _ free => ?_⟩
      exact (State.enterLockout_spec (s := u) _ free).1

/-! ### Events after the first report (R65, R78 to R80) -/

theorem State.contactsRead_first (c : Contacts) (unreported : s.sqc.reported = false) :
    s.contactsRead c = (s.withMdr fun m => { m with poles := polesOf c }).firstReport := by
  unfold State.contactsRead
  exact if_pos (by simp [unreported])

theorem State.contactsRead_same (reported : s.sqc.reported = true) (same : s.mdr.poles = polesOf c) : s.contactsRead c = s := by
  unfold State.contactsRead
  dsimp only
  rw [if_neg (by simp [reported]), if_pos same.symm]

/-- An indication event with nothing in flight. -/
theorem State.contactsRead_idle (reported : s.sqc.reported = true) (idle : s.mdr.op = none) (moved : s.mdr.poles ≠ polesOf c) :
    let s' := s.withMdr fun m => { m with poles := polesOf c }
    s.contactsRead c = if (polesOf c).allOpen then s'.externalOpen else if s.mdr.poles.risen (polesOf c) then s'.unexpectedClose
      else s'.withMdr (·.watch s'.now) := by
  unfold State.contactsRead
  dsimp only
  rw [if_neg (by simp [reported]), if_neg (Ne.symm moved)]
  unfold State.indicationEvent
  simp only [State.withMdr, idle]

/-- The external open up to the activation test: the notice, the record, its event and its occurrence (R78). -/
def State.openedOutside (s : State) : State :=
  let u := (s.withMdr Mdr.stopWatches).externallyOpened
  let made := u.newRecord .externalOpen .p none (some u.lmu.currents) (some u.mdr.estimate)
  (made.1.event .trip (be 2 made.2)).raise .trip

theorem State.externalOpen_eq (s : State) : s.externalOpen = if s.sqc.openedByHand then s.openedOutside.activationTest else s.openedOutside := rfl

theorem State.openedOutside_sqc (s : State) : s.openedOutside.sqc = s.externallyOpened.sqc := by
  have sqc : s.openedOutside.sqc = ((s.withMdr Mdr.stopWatches).externallyOpened).sqc := by simp [State.openedOutside]
  rw [sqc]
  unfold State.externallyOpened
  change (if s.sqc.openedByHand then _ else _ : State).sqc = (if s.sqc.openedByHand then _ else _ : State).sqc
  split <;> rfl

/-- What an external open leaves (R58, R78). -/
theorem State.externalOpen_spec (s : State) : s.externalOpen.mdr = { s.mdr with invalidWatch := none, mixedWatch := none }
    ∧ s.externalOpen.oru = s.openedOutside.oru ∧ s.externalOpen.ports.cAlerts.lit .trip
    ∧ (s.sqc.openedByHand = true → s.externalOpen.sqc.sequence = .opened)
    ∧ (s.sqc.openedByHand = false → s.externalOpen.sqc = s.sqc) := by
  have mdr : s.openedOutside.mdr = { s.mdr with invalidWatch := none, mixedWatch := none } := by
    simp [State.openedOutside, State.withMdr, Mdr.stopWatches]
  have lit : s.openedOutside.ports.cAlerts.lit .trip := by simp [State.openedOutside]
  have sqc := s.openedOutside_sqc
  rw [State.externalOpen_eq]
  unfold State.externallyOpened at sqc
  cases hand : s.sqc.openedByHand with
  | true =>
    obtain ⟨sequence, oru, -⟩ := s.openedOutside.activationTest_spec
    rw [if_pos rfl]
    refine ⟨?_, oru, (State.activationTest_lit .trip s.openedOutside).1 lit, fun _ => ?_, nofun⟩
    · exact (by simp : s.openedOutside.activationTest.mdr = s.openedOutside.mdr).trans mdr
    · rw [sequence, sqc, if_pos hand]
      rfl
  | false =>
    rw [if_neg nofun]
    exact ⟨mdr, rfl, lit, nofun, fun _ => by rw [sqc, if_neg (by simp [hand])]⟩

/-- The record of an external open is the newest of the ring (R78). -/
theorem State.openedOutside_newest (s : State) : ∃ r, s.openedOutside.oru.ring.getLast? = some r ∧ r.kind = .externalOpen ∧ r.origin = .p
    ∧ r.outcome = none ∧ r.element = none ∧ r.number = s.oru.counters.next ∧ r.currents = some s.lmu.currents
    ∧ r.energyBefore = some s.mdr.estimate ∧ r.shotAfter = s.sqc.shot := by
  let u := (s.withMdr Mdr.stopWatches).externallyOpened
  obtain ⟨lmu, mdr, oru⟩ : u.lmu = s.lmu ∧ u.mdr = s.mdr.stopWatches ∧ u.oru = s.oru := by simp [u, State.withMdr]
  have shot : u.sqc.shot = s.sqc.shot := by
    simp only [u, State.externallyOpened]
    split <;> rfl
  have ring : s.openedOutside.oru = (u.newRecord .externalOpen .p none (some u.lmu.currents) (some u.mdr.estimate)).1.oru := rfl
  rw [ring, State.newRecord, State.record_ring, pushRing_getLast (by decide)]
  refine ⟨_, rfl, rfl, rfl, rfl, rfl, ?_, ?_, ?_, ?_⟩
  · exact congrArg (fun o : Oru => o.counters.next) oru
  · exact congrArg (fun l : Lmu => some l.currents) lmu
  · exact (congrArg (fun m : Mdr => some m.estimate) mdr : some u.mdr.estimate = some s.mdr.stopWatches.estimate)
  · exact shot

theorem Poles.opened_of_risen {before after : Poles} (h : before.risen after = true) : after.allOpen = false := by
  simp only [Poles.risen, Bool.or_eq_true, Bool.and_eq_true, beq_iff_eq] at h
  rw [Poles.allOpen]
  rcases h with (⟨-, h⟩ | ⟨-, h⟩) | ⟨-, h⟩ <;> simp [h]

/-- A pole found CLOSED: the latch, and the alarm (R80). -/
def State.closeNoticed (s : State) : State :=
  (if s.mdr.latch then s else s.setLatch.latchNoticed).mechanismAlarm .unexpectedClose none

theorem State.closeNoticed_mdr (s : State) : ∃ w₁ w₂, s.closeNoticed.mdr = { s.mdr with latch := true, invalidWatch := w₁, mixedWatch := w₂ } := by
  unfold State.closeNoticed State.mechanismAlarm
  split
  · next latch => exact ⟨s.mdr.invalidWatch, s.mdr.mixedWatch, by rw [← latch]; rfl⟩
  · obtain ⟨w₁, w₂, latched⟩ := s.setLatch_mdr
    exact ⟨w₁, w₂, by simp [latched]⟩

theorem State.closeNoticed_asks (ok : s.rpu.poolOk) :
    s.closeNoticed.rpu.poolOk ∧ s.closeNoticed.rpu.asks .mechanismFault (6 :: s.mdr.poles.enc ++ [0]) := by
  unfold State.closeNoticed
  split
  · exact State.alarm_asks _ ok
  · have poles : s.setLatch.latchNoticed.mdr.poles = s.mdr.poles :=
      (congrArg Mdr.poles (by simp : s.setLatch.latchNoticed.mdr = s.setLatch.mdr)).trans s.setLatch_poles
    rw [← poles]
    exact State.alarm_asks _ ((State.spares.latchNoticed (State.spares.setLatch (.refl .mechanismFault s)) nofun) ok).1

theorem State.unexpectedClose_idle (idle : s.mdr.op = none) :
    s.unexpectedClose = s.closeNoticed.beginTrip .discordance none s.closeNoticed.lmu.currents := by
  obtain ⟨w₁, w₂, mdr⟩ := s.closeNoticed_mdr
  exact State.requestTrip_idle (s := s.closeNoticed) _ (by rw [mdr]; exact idle)

/-! ### The watches (R79) -/

theorem State.latchNoticed_spec (reported : s.sqc.reported = true) :
    (s.sqc.sequence = .opened ∨ (∃ k, s.sqc.sequence = .interval k) ∨ (∃ k, s.sqc.sequence = .energyWait k) →
        s.latchNoticed.sqc.sequence = .lockout .mechanism)
      ∧ (s.sqc.sequence = .ready ∨ (∃ k, s.sqc.sequence = .reclaim k) ∨ (∃ k, s.sqc.sequence = .lockout k) → s.latchNoticed = s) := by
  have notices : s.latchNoticed = match s.sqc.sequence with
      | .interval _ | .energyWait _ | .opened => s.enterLockout .mechanism .discordance
      | _ => s := if_neg (by simp [reported])
  rw [notices]
  constructor
  · rintro (h | ⟨k, h⟩ | ⟨k, h⟩) <;> rw [h] <;> exact (State.enterLockout_spec _ (by simp [h])).1
  · rintro (h | ⟨k, h⟩ | ⟨k, h⟩) <;> rw [h]

theorem State.setLatch_clear (clear : s.mdr.latch = false) : s.setLatch.mdr = { s.mdr with latch := true, invalidWatch := none, mixedWatch := none } := by
  unfold State.setLatch
  rw [if_neg (by simp [clear])]
  simp [State.withMdr, Mdr.stopWatches]

/-- The INVALID watch's end, as it shows. -/
theorem State.invalidWatch_ends (ok : s.rpu.poolOk) (clear : s.mdr.latch = false) (reported : s.sqc.reported = true) :
    let t := s.setLatch.latchNoticed.mechanismAlarm .invalidIndication none
    t.clock = s.clock ∧ t.mdr = { s.mdr with latch := true, invalidWatch := none, mixedWatch := none }
      ∧ (s.sqc.sequence = .opened ∨ (∃ k, s.sqc.sequence = .interval k) ∨ (∃ k, s.sqc.sequence = .energyWait k) →
          t.sqc.sequence = .lockout .mechanism)
      ∧ (s.sqc.sequence = .ready ∨ (∃ k, s.sqc.sequence = .reclaim k) ∨ (∃ k, s.sqc.sequence = .lockout k) → t.sqc = s.sqc)
      ∧ t.rpu.asks .mechanismFault (4 :: s.mdr.poles.enc ++ [0]) := by
  intro t
  obtain ⟨sqc, clock⟩ := s.setLatch_frame'
  obtain ⟨locks, stays⟩ := State.latchNoticed_spec (s := s.setLatch) (by rw [sqc]; exact reported)
  have mdr : s.setLatch.latchNoticed.mdr = s.setLatch.mdr := by simp
  have poles : s.setLatch.latchNoticed.mdr.poles = s.mdr.poles := (congrArg Mdr.poles mdr).trans s.setLatch_poles
  rw [sqc] at locks stays
  refine ⟨?_, mdr.trans (State.setLatch_clear clear), locks, fun h => ?_, ?_⟩
  · exact (by simp : s.setLatch.latchNoticed.clock = s.setLatch.clock).trans clock
  · exact (congrArg State.sqc (stays h)).trans sqc
  · rw [← poles]
    exact (State.alarm_asks _ ((State.spares.latchNoticed (State.spares.setLatch (.refl .mechanismFault s)) nofun) ok).1).2

/-- The mixed watch's end, as it shows. -/
theorem State.mixedWatch_ends (idle : s.mdr.op = none) (clear : s.mdr.latch = false) :
    let t := (((s.requestTrip .discordance).setLatch.discordanceAlarm none).mechanismAlarm .poleDropped none)
    t.clock = s.clock ∧ t.answersDiscordance ∧ t.mdr.estimate = s.mdr.estimate - s.mdr.settings.eTrip
      ∧ t.mdr.invalidWatch = none ∧ t.mdr.mixedWatch = none := by
  intro t
  have begun := State.beginTrip_mdr .discordance none s.lmu.currents s
  rw [← State.requestTrip_idle _ idle] at begun
  have mdr : t.mdr = (s.requestTrip .discordance).setLatch.mdr := by simp [t, State.discordanceAlarm, State.mechanismAlarm]
  have clear' : (s.requestTrip .discordance).mdr.latch = false := by rw [begun]; exact clear
  rw [State.setLatch_clear clear', begun] at mdr
  have clock : t.clock = s.clock := by
    rw [show t.clock = (s.requestTrip .discordance).setLatch.clock by simp [t, State.discordanceAlarm, State.mechanismAlarm],
      (State.setLatch_frame' _).2, State.requestTrip_idle _ idle]
    simp
  exact ⟨clock, ⟨by rw [mdr], by rw [mdr], _, by rw [mdr], rfl, rfl, rfl, congrArg Clock.running clock.symm⟩, by rw [mdr], by rw [mdr], by rw [mdr]⟩

end

/-- Settles O50: the first report by the poles it finds, an event after it by what it finds, the watches as they end. -/
theorem poleEventsWithNothingInFlight : Obligations.PoleEventsWithNothingInFlight := by
  intro c s hp pool poles discordance
  have pool : s.rpu.poolOk := pool
  let s' := s.withMdr fun m => { m with poles := poles }
  have done : exec (.poleIndicationChange c) s = .next (s.contactsRead c).rejudge := act_powered hp
  refine ⟨fun unreported idle => ?_, fun reported same => ?_, fun reported idle moved => ⟨fun allOpen => ?_, fun risen => ?_, fun opened still clear => ?_⟩,
    fun d running idle clear reported => ?_, fun d running idle clear => ?_⟩
  · let u := s'.takeReport poles
    obtain ⟨mdr, clock⟩ := State.takeReport_mdr poles s'
    have idle' : u.mdr.op = none := by rw [mdr]; exact idle
    obtain ⟨reports, ready, opens, locks⟩ := State.takeReport_spec poles s'
    rw [State.contactsRead_first c unreported, State.firstReport_idle (by exact idle)] at done
    refine ⟨_, done, ?_⟩
    change u.judgeReport.sqc.reported = true ∧ u.judgeReport.mdr.poles = poles ∧ u.judgeReport.clock = s.clock
      ∧ (poles.allClosed = true → u.judgeReport.sqc.sequence = .ready ∧ u.judgeReport.mdr = s'.mdr)
      ∧ (poles.allOpen = true → u.judgeReport.sqc.sequence = .opened ∧ u.judgeReport.mdr = s'.mdr)
      ∧ (poles.allClosed = false → poles.allOpen = false → s.sqc.sequence = .opened → u.judgeReport.sqc.sequence = .lockout .mechanism
          ∧ u.judgeReport.mdr.latch = true ∧ (poles.anyClosed = true → u.judgeReport.answersDiscordance)
          ∧ (poles.anyClosed = false → u.judgeReport.mdr.op = none))
    have poles_ : u.mdr.poles = poles := by rw [mdr]; rfl
    by_cases alike : poles.allOpen = true ∨ poles.allClosed = true
    · rw [State.judgeReport_alike (by rw [poles_]; exact alike)]
      refine ⟨reports, poles_, clock, fun h => ⟨ready h, mdr⟩, fun h => ⟨opens h, mdr⟩, fun closed opened => ?_⟩
      exact absurd alike (by simp [closed, opened])
    · obtain ⟨opened, closed⟩ : poles.allOpen = false ∧ poles.allClosed = false := by simpa using alike
      obtain ⟨latch, same, trips, rests⟩ := State.judgeReport_spec idle' (by rw [poles_]; exact opened) (by rw [poles_]; exact closed)
      obtain ⟨alarmed_mdr, alarmed_sqc, alarmed_clock, -⟩ := u.reportAlarmed_frame
      rw [poles_] at trips rests
      refine ⟨?_, same.trans poles_, ?_, fun h => absurd h (by simp [closed]), fun h => absurd h (by simp [opened]), fun _ _ was => ⟨?_, latch, fun any => ?_,
        fun none_ => ?_⟩⟩
      · cases any : poles.anyClosed with
        | true => rw [trips any, State.beginTrip_reported, alarmed_sqc, reports]
        | false => rw [(rests any).1, alarmed_sqc, reports]
      · exact (by simp : u.judgeReport.clock = u.clock).trans clock
      · have locked := locks closed opened (by simp [s', State.withMdr, was])
        cases any : poles.anyClosed with
        | true => rw [trips any, State.beginTrip_locked _ _ _ (by rw [alarmed_sqc]; exact locked), alarmed_sqc, locked]
        | false => rw [(rests any).1, alarmed_sqc, locked]
      · obtain ⟨w₁, w₂, latched⟩ := u.setLatch_mdr
        rw [trips any]
        exact State.beginTrip_answers (by rw [alarmed_mdr, latched])
      · rw [(rests none_).1]
        exact (rests none_).2
  · exact State.leads_as (f := fun s => s.contactsRead c) hp (by rfl) (State.contactsRead_same reported same) rfl rfl
  · rw [State.contactsRead_idle reported idle moved, if_pos (by exact allOpen)] at done
    obtain ⟨mdr, oru, lit, opens, stays⟩ := s'.externalOpen_spec
    obtain ⟨r, newest, kind, origin, outcome, element, number, currents, energy, shot⟩ := s'.openedOutside_newest
    rw [← oru] at newest
    have hand : s'.sqc.openedByHand = true ↔ s.sqc.sequence = .ready ∨ ∃ k, s.sqc.sequence = .reclaim k := by
      change s.sqc.openedByHand = true ↔ _
      rw [Sqc.openedByHand, reported]
      cases s.sqc.sequence <;> simp
    refine ⟨_, r, done, mdr, by simp [State.withMdr], newest, kind, origin, outcome, element, number, currents, energy, shot, lit,
      fun h => opens (hand.mpr h), fun ready reclaim => ?_⟩
    refine stays ((Bool.not_eq_true _).mp fun h => ?_)
    rcases hand.mp h with h | ⟨k, h⟩
    · exact ready h
    · exact reclaim k h
  · have opened : poles.allOpen = false := Poles.opened_of_risen risen
    rw [State.contactsRead_idle reported idle moved, if_neg (by exact (Bool.not_eq_true _).mpr opened), if_pos (by exact risen),
      State.unexpectedClose_idle (by exact idle)] at done
    obtain ⟨w₁, w₂, mdr⟩ := s'.closeNoticed_mdr
    have begun := State.beginTrip_mdr .discordance none s'.closeNoticed.lmu.currents s'.closeNoticed
    rw [mdr] at begun
    have asked := State.closeNoticed_asks (s := s') pool
    refine ⟨_, done, State.beginTrip_answers (by rw [mdr]), congrArg Mdr.poles begun, congrArg Mdr.estimate begun, ?_⟩
    rw [State.rejudge_qAlarm, State.rejudge_held]
    exact ((State.spares.beginTrip (.refl .mechanismFault s'.closeNoticed) nofun .discordance none s'.closeNoticed.lmu.currents).carry asked).2
  · have read := State.contactsRead_idle reported idle moved
    have time : watchTime = 200000 := rfl
    have read : s.contactsRead c = s'.withMdr (·.watch s'.now) :=
      read.trans ((if_neg ((Bool.not_eq_true _).mpr opened)).trans (if_neg ((Bool.not_eq_true _).mpr still)))
    refine State.leads_as (f := fun s => s.contactsRead c) hp (by rfl) (read.trans ?_) rfl rfl
    have watched : s'.mdr.watch s'.now = { s'.mdr with
        invalidWatch := if poles.anyInvalid then some (s.mdr.invalidWatch.getD (s.now + watchTime)) else none
        mixedWatch := if poles.mixed then some (s.mdr.mixedWatch.getD (s.now + watchTime)) else none } := by
      unfold Mdr.watch
      exact if_neg (by simp [s', State.withMdr, clear, idle])
    rw [← time]
    exact congrArg (fun m : Mdr => ({ s with mdr := m } : State)) watched
  · have done : exec .invalidWatchExpiry s = .next (s.invalidWatchOver).rejudge := act_powered hp
    have ends (d : Nat) := State.invalidWatch_ends (s := s.reach d) pool clear reported
    obtain ⟨clock, mdr, locks, stays, asked⟩ := ends d
    unfold State.invalidWatchOver at done
    rw [running] at done
    refine ⟨_, done, clock, mdr, locks, stays, ?_⟩
    rw [State.rejudge_qAlarm, State.rejudge_held]
    exact asked
  · have done : exec .mixedWatchExpiry s = .next (s.mixedWatchOver).rejudge := act_powered hp
    have ends (d : Nat) := State.mixedWatch_ends (s := s.reach d) idle clear
    unfold State.mixedWatchOver at done
    rw [running] at done
    exact ⟨_, done, ends d⟩

end Sys2Proof.Machine
end

section
/-! PROOFS. What a tier entered does to the test, the reports and the counts (R117 to R119, R154). -/

namespace Sys2Proof.Machine

/-! ### The sticky bits that stay -/

/-- Every sticky bit of one state is set in the next. -/
def State.lights (s t : State) : Prop :=
  ∀ f, (s.ports.cAlerts.lit f → t.ports.cAlerts.lit f) ∧ (s.ports.pAlerts.lit f → t.ports.pAlerts.lit f)

section
variable {s t u : State}

theorem State.lights.refl (s : State) : s.lights s := fun _ => ⟨fun h => h, fun h => h⟩

theorem State.lights.raise (h : s.lights t) (f : Flag) : s.lights (t.raise f) := fun g =>
  ⟨fun on => by simp [(h g).1 on], fun on => by simp [(h g).2 on]⟩

theorem State.lights.same (h : s.lights t) (c : u.ports.cAlerts = t.ports.cAlerts) (p : u.ports.pAlerts = t.ports.pAlerts) : s.lights u := fun g => by
  rw [c, p]
  exact h g

theorem State.lights.judgeVerdict (h : s.lights t) : s.lights t.judgeVerdict := by
  unfold State.judgeVerdict
  dsimp only
  repeat' split
  · exact h
  · refine State.lights.raise ?_ _
    exact h.same rfl rfl
  · exact h.same rfl rfl

theorem State.lights.attributeUpdate (h : s.lights t) (f : Attributes → Attributes) : s.lights (t.attributeUpdate f) := by
  have judged : s.lights (t.withAttributes f).judgeVerdict := State.lights.judgeVerdict (h.same rfl rfl)
  exact judged.same (by simp [State.attributeUpdate]) (by simp [State.attributeUpdate])

theorem State.lights.setScore (h : s.lights t) (n : Nat) : s.lights (t.setScore n) := by
  unfold State.setScore State.restand
  dsimp only
  split
  · exact h.same rfl rfl
  · refine State.lights.raise ?_ _
    exact h.same rfl rfl

theorem State.lights.charge (h : s.lights t) (single : Bool) (x : Report) : s.lights (t.charge single x) := by
  have taken : s.lights { t with rpu := t.rpu.takeOut x } := h.same rfl rfl
  unfold State.charge
  generalize min 255 (t.rpu.score + 8) = score
  have scored := taken.setScore score
  exact scored.same rfl rfl

theorem State.lights.chargeInFlight (h : s.lights t) : s.lights t.chargeInFlight := by
  unfold State.chargeInFlight
  split
  · refine State.lights.charge ?_ _ _
    exact h.same rfl rfl
  · exact h

end

/-! ### The object in flight is charged (R147, R154) -/

section
variable {id : AlarmId} {s t : State} {r : Rpu} {x : Report}

/-- No queue and no place of HELD holds the object in flight. -/
theorem Rpu.takeOut_inFlight (ok : r.poolOk) (flight : r.inFlight = some x) : r.takeOut x = r := by
  obtain ⟨-, -, -, -, -, distinct, -⟩ := ok
  have apart : ∀ l : List Report, (∀ y ∈ l, y.object ≠ x.object) → without x l = l := fun l h =>
    List.filter_eq_self.mpr fun y hy => by simpa using h y hy
  have used : r.used.map Report.object = (r.qAlarm ++ r.qEvent ++ r.qMeasure).map Report.object ++ [x.object] ++ r.held.map Report.object := by
    simp [Rpu.used, flight]
  rw [used] at distinct
  obtain ⟨front, -, held⟩ := List.nodup_append.mp distinct
  obtain ⟨-, -, queued⟩ := List.nodup_append.mp front
  have waits {y : Report} (hy : y ∈ r.qAlarm ++ r.qEvent ++ r.qMeasure) : y.object ≠ x.object :=
    queued _ (List.mem_map_of_mem hy) _ (List.mem_singleton_self _)
  have rests {y : Report} (hy : y ∈ r.held) : y.object ≠ x.object := fun e =>
    held x.object (List.mem_append_right _ (List.mem_singleton_self _)) _ (List.mem_map_of_mem hy) e.symm
  unfold Rpu.takeOut
  rw [apart r.qAlarm fun y hy => waits (by simp [hy]), apart r.qEvent fun y hy => waits (by simp [hy]),
    apart r.qMeasure fun y hy => waits (by simp [hy]), apart r.held fun y hy => rests hy]

theorem Report.absorb_payload (x y : Report) : (x.absorb y).payload = y.payload := by
  unfold Report.absorb
  split <;> rfl

/-- The disposal of a charged report takes no alarm away and leaves the payloads (R147). -/
theorem Rpu.dispose_asks {payload : List Byte} (now : Nat) (single : Bool) (asked : r.asks id payload) : (r.dispose now single x).asks id payload := by
  obtain ⟨y, hy, kind, same⟩ := asked
  have absorbed : (x.absorb y).kind = .alarm id ∧ (x.absorb y).payload = payload :=
    ⟨(congrArg Prod.fst (x.absorb_key y)).trans kind, (x.absorb_payload y).trans same⟩
  unfold Rpu.dispose
  split
  · exact ⟨y, hy, kind, same⟩
  · split
    · rcases List.mem_append.mp hy with hy | hy
      · exact ⟨_, List.mem_append_left _ (List.mem_map_of_mem hy), absorbed⟩
      · exact ⟨y, List.mem_append_right _ hy, kind, same⟩
    · split
      · rcases List.mem_append.mp hy with hy | hy
        · exact ⟨y, List.mem_append_left _ hy, kind, same⟩
        · exact ⟨_, List.mem_append_right _ (List.mem_map_of_mem hy), absorbed⟩
      · split
        · dsimp only
          split
          · exact ⟨y, List.mem_cons_of_mem _ hy, kind, same⟩
          · exact ⟨y, hy, kind, same⟩
        · exact ⟨y, by simpa [or_assoc] using Or.inl (List.mem_append.mp hy), kind, same⟩

theorem Rpu.dispose_inFlight (now : Nat) (single : Bool) (x : Report) (r : Rpu) : (r.dispose now single x).inFlight = r.inFlight := by
  unfold Rpu.dispose
  dsimp only
  repeat' split
  all_goals rfl

theorem State.charge_inFlight (single : Bool) (x : Report) (s : State) : (s.charge single x).rpu.inFlight = s.rpu.inFlight := by
  obtain ⟨standing, q, probe, e, -⟩ := State.setScore_rpu (min 255 (s.rpu.score + 8)) { s with rpu := s.rpu.takeOut x }
  unfold State.charge
  dsimp only
  rw [Rpu.dispose_inFlight, e]
  rfl

theorem State.chargeInFlight_clears (s : State) : s.chargeInFlight.rpu.inFlight = none := by
  unfold State.chargeInFlight
  split
  · exact State.charge_inFlight _ _ _
  · next h => exact h

/-- The charge of the object in flight spares the alarms queued and held. -/
theorem State.spares.chargeInFlight (h : s.spares id t) : s.spares id t.chargeInFlight := by
  refine fun ok => ⟨(Keeps.refl t).chargeInFlight.pool (h ok).1, fun payload asked => ?_⟩
  obtain ⟨ok', keeps⟩ := h ok
  have asked := keeps payload asked
  unfold State.chargeInFlight
  cases flight : t.rpu.inFlight with
  | none => exact asked
  | some x =>
    let r : Rpu := { t.rpu with inFlight := none, singleTrial := false, ackTimer := none }
    obtain ⟨standing, q, probe, e, -⟩ := State.setScore_rpu (min 255 (r.score + 8)) { t with rpu := r.takeOut x }
    have lists := Rpu.takeOut_inFlight ok' flight
    have qAlarm := congrArg Rpu.qAlarm lists
    have held := congrArg Rpu.held lists
    have qAlarm : (r.takeOut x).qAlarm = t.rpu.qAlarm := by exact qAlarm
    have held : (r.takeOut x).held = t.rpu.held := by exact held
    have scored : (State.setScore (min 255 (r.score + 8)) { t with rpu := r.takeOut x }).rpu.asks id payload := by
      rw [e]
      unfold Rpu.asks
      dsimp only
      rw [qAlarm, held]
      exact asked
    exact Rpu.dispose_asks _ _ scored

end

/-! ### The stages of a tier entered (R118) -/

/-- The tier is in force, the RPU has heard of it, and a test it does not suit has ended (R118 steps 1 and 2). -/
def State.tierTold (new : Tier) (s : State) : State :=
  ((s.withBcu fun b => { b with tier := new }).tierToRpu s.bcu.tier new).tierToTest new

/-- The alarm of a tier entered downward (R118 step 3). -/
def State.tierAlarmed (new : Tier) (s : State) : State :=
  match new.alarm with
  | some id => if decide (s.bcu.tier.rank < new.rank) then
      (s.tierTold new).alarm id ((s.tierTold new).bcu.vAndT ++ [acCode (s.tierTold new).bcu.acPresent]) else s.tierTold new
  | none => s.tierTold new

/-- An entry into CRITICAL counts a deep discharge (R118, R128). -/
def State.tierCounted (new : Tier) (s : State) : State :=
  if new = .critical && decide (s.bcu.tier.rank < new.rank) then
    ((s.tierAlarmed new).withStored fun b => { b with deep := satSucc 65535 (s.tierAlarmed new).bcu.stored.deep }).attributeUpdate
      (·.setDeep (satSucc 65535 (s.tierAlarmed new).bcu.stored.deep))
  else s.tierAlarmed new

/-- The event of NORMAL and the occurrence (R118). -/
def State.tierNoted (new : Tier) (s : State) : State :=
  State.raise .batteryTier (if new = .normal then (s.tierCounted new).event .tierCleared (be 2 (s.tierCounted new).bcu.v) else s.tierCounted new)

section
variable {id : AlarmId} {new : Tier} {s t : State}

theorem State.setTier_eq (h : new ≠ s.bcu.tier) : s.setTier new = if new = .disconnect then (s.tierNoted new).beginShutdown else s.tierNoted new := by
  unfold State.setTier
  exact if_neg h

theorem State.setTier_same (h : new = s.bcu.tier) : s.setTier new = s := if_pos h

/-- An aborted test, as the BCU's record shows it. -/
theorem State.abortTest_bcu (cause : TestCause) (s : State) : ∃ test loadOn charger pending history, (s.abortTest cause).bcu
    = { s.bcu with test := test, loadOn := loadOn, charger := charger, stored := { s.bcu.stored with pending := pending, history := history } } := by
  cases h : s.bcu.test with
  | none =>
    have same : s.abortTest cause = s := by unfold State.abortTest; rw [h]
    rw [same]
    exact ⟨_, _, _, _, _, rfl⟩
  | some r =>
    rw [State.abortTest_eq h, (State.releaseHold_rest _ _ _).1]
    exact ⟨none, false, s.bcu.freeCharger, false, pushRing 8 (r.abortedEntry cause r.vRest s.stamp) s.bcu.stored.history,
      by simp [State.testAborted]⟩

/-- What a tier leaves of the BCU up to its alarm: the tier is in force, and a test may have ended. -/
theorem State.tierTold_bcu (new : Tier) (s : State) : ∃ test loadOn charger pending history, (s.tierTold new).bcu
    = { s.bcu with tier := new, test := test, loadOn := loadOn, charger := charger
                   stored := { s.bcu.stored with pending := pending, history := history } } := by
  unfold State.tierTold State.tierToTest
  split
  · split
    · exact ⟨_, _, _, _, _, rfl⟩
    · split
      · exact ⟨_, _, _, _, _, rfl⟩
      · obtain ⟨test, loadOn, charger, pending, history, h⟩ :=
          State.abortTest_bcu .tier ((s.withBcu fun b => { b with tier := new }).tierToRpu s.bcu.tier new)
        exact ⟨test, loadOn, charger, pending, history, h⟩
  · exact ⟨_, _, _, _, _, rfl⟩

theorem State.tierAlarmed_bcu (new : Tier) (s : State) : (s.tierAlarmed new).bcu = (s.tierTold new).bcu := by
  unfold State.tierAlarmed
  split
  · split <;> rfl
  · rfl

/-- What a tier leaves of the BCU up to the shutdown. -/
theorem State.tierNoted_bcu (new : Tier) (s : State) : ∃ test loadOn charger pending history failing, (s.tierNoted new).bcu
    = { s.bcu with tier := new, test := test, loadOn := loadOn, charger := charger, failing := failing
                   stored := { s.bcu.stored with
                     pending := pending, history := history
                     deep := if new = .critical && decide (s.bcu.tier.rank < new.rank) then satSucc 65535 s.bcu.stored.deep else s.bcu.stored.deep
                     attributes := if new = .critical && decide (s.bcu.tier.rank < new.rank)
                       then s.bcu.stored.attributes.setDeep (satSucc 65535 s.bcu.stored.deep) else s.bcu.stored.attributes } } := by
  have noted : (s.tierNoted new).bcu = (s.tierCounted new).bcu := by
    unfold State.tierNoted
    split <;> rfl
  obtain ⟨test, loadOn, charger, pending, history, told⟩ := s.tierTold_bcu new
  rw [← State.tierAlarmed_bcu] at told
  rw [noted, State.tierCounted]
  split
  · let counted := ((s.tierAlarmed new).withStored fun b =>
      { b with deep := satSucc 65535 (s.tierAlarmed new).bcu.stored.deep }).withAttributes (·.setDeep (satSucc 65535 (s.tierAlarmed new).bcu.stored.deep))
    have judged := State.judgeVerdict_bcu counted
    have bcu : counted.bcu = { (s.tierAlarmed new).bcu with stored := { (s.tierAlarmed new).bcu.stored with
        deep := satSucc 65535 (s.tierAlarmed new).bcu.stored.deep
        attributes := (s.tierAlarmed new).bcu.stored.attributes.setDeep (satSucc 65535 (s.tierAlarmed new).bcu.stored.deep) } } := rfl
    refine ⟨test, loadOn, charger, pending, history, counted.judgeVerdict.bcu.failing, judged.trans ?_⟩
    rw [bcu, told]
  · exact ⟨test, loadOn, charger, pending, history, _, told⟩

/-- What a tier leaves of the BCU, with the shutdown that DISCONNECT begins. -/
theorem State.setTier_bcu (new : Tier) (s : State) : ∃ test loadOn charger pending history failing recharging shutdown, (s.setTier new).bcu
    = { s.bcu with tier := new, test := test, loadOn := loadOn, charger := charger, failing := failing, recharging := recharging, shutdown := shutdown
                   stored := { s.bcu.stored with
                     pending := pending, history := history
                     deep := if new = .critical && decide (s.bcu.tier.rank < new.rank) then satSucc 65535 s.bcu.stored.deep else s.bcu.stored.deep
                     attributes := if new = .critical && decide (s.bcu.tier.rank < new.rank)
                       then s.bcu.stored.attributes.setDeep (satSucc 65535 s.bcu.stored.deep) else s.bcu.stored.attributes } } := by
  by_cases same : new = s.bcu.tier
  · rw [State.setTier_same same, same]
    have level : ¬ (s.bcu.tier = .critical && decide (s.bcu.tier.rank < s.bcu.tier.rank)) = true := by simp
    simp only [if_neg level]
    exact ⟨_, _, _, _, _, _, _, _, rfl⟩
  · obtain ⟨test, loadOn, charger, pending, history, failing, noted⟩ := s.tierNoted_bcu new
    rw [State.setTier_eq same]
    split
    · let u := ((s.tierNoted new).withBcu fun b => { b with charger := .off }).stopRecharge
      have resumed (v : State) : ∃ test charger, v.resumeTest.bcu = { v.bcu with test := test, charger := charger } := by
        unfold State.resumeTest
        repeat' split
        all_goals exact ⟨_, _, rfl⟩
      obtain ⟨test', charger', stopped⟩ : ∃ test charger, u.bcu = { (s.tierNoted new).bcu with test := test, charger := charger, recharging := false } := by
        obtain ⟨test, charger, h⟩ := resumed ({ ((s.tierNoted new).withBcu fun b => { b with charger := .off }) with
          mdr := { (s.tierNoted new).mdr with rechargeSince := none }
          bcu := { (s.tierNoted new).bcu with charger := .off, recharging := false } })
        exact ⟨test, charger, h⟩
      have asked : u.askLastCall.bcu = u.bcu := by simp
      have begun := congrArg (fun b : Bcu => { b with shutdown := .radio ((s.tierNoted new).now + shutdownRadioTime) }) asked
      refine ⟨test', loadOn, charger', pending, history, failing, false, .radio ((s.tierNoted new).now + shutdownRadioTime), begun.trans ?_⟩
      rw [stopped, noted]
    · exact ⟨test, loadOn, charger, pending, history, failing, s.bcu.recharging, s.bcu.shutdown, noted⟩

theorem State.lights.abortTest (h : s.lights t) (cause : TestCause) : s.lights (t.abortTest cause) := by
  cases hr : t.bcu.test with
  | none =>
    have same : t.abortTest cause = t := by unfold State.abortTest; rw [hr]
    rw [same]
    exact h
  | some r =>
    obtain ⟨-, -, -, -, c, p⟩ := State.releaseHold_rest r.port (r.abortedEntry cause r.vRest t.stamp).result
      (t.testAborted (r.abortedEntry cause r.vRest t.stamp))
    rw [State.abortTest_eq hr]
    refine State.lights.same ?_ c p
    refine State.lights.raise (t := State.event _ _ (State.place _ _)) ?_ _
    exact h.same (by simp) (by simp)

/-- A tier entered raises BATTERY_TIER (R118). -/
theorem State.setTier_lit (h : new ≠ s.bcu.tier) : (s.setTier new).ports.cAlerts.lit .batteryTier ∧ (s.setTier new).ports.pAlerts.lit .batteryTier := by
  have noted : (s.tierNoted new).ports.cAlerts.lit .batteryTier ∧ (s.tierNoted new).ports.pAlerts.lit .batteryTier := by simp [State.tierNoted]
  rw [State.setTier_eq h]
  split
  · let u := ((s.tierNoted new).withBcu fun b => { b with charger := .off }).stopRecharge
    have ports : u.ports = (s.tierNoted new).ports := State.resumeTest_frame _ |>.2.2.2.2.2.2.2.2.1
    have stopped : (s.tierNoted new).lights u := (State.lights.refl _).same (congrArg Ports.cAlerts ports) (congrArg Ports.pAlerts ports)
    have asked : (s.tierNoted new).lights u.chargeInFlight := stopped.chargeInFlight
    have begun : (s.tierNoted new).lights (s.tierNoted new).beginShutdown := asked.same rfl rfl
    exact ⟨(begun _).1 noted.1, (begun _).2 noted.2⟩
  · exact noted

/-! ### The alarms -/

theorem State.spares.tierTold (new : Tier) (s : State) : s.spares id (s.tierTold new) := by
  have told : s.spares id ((s.withBcu fun b => { b with tier := new }).tierToRpu s.bcu.tier new) := by
    refine fun ok => ⟨Rpu.poolOk_of_sublists ok (.refl _) (.refl _) ?_ (.refl _) (.refl _), fun _ asked => asked⟩
    dsimp only [State.tierToRpu, State.withBcu]
    split
    · exact List.nil_sublist _
    · exact .refl _
  unfold State.tierTold State.tierToTest
  split
  · split
    · exact told
    · split
      · exact told
      · exact told.abortTest _
  · exact told

/-- The alarm of a tier entered downward is asked for with V, T and the state of AC (R118). -/
theorem State.tierNoted_asks (ok : s.rpu.poolOk) (alarms : new.alarm = some id) (down : s.bcu.tier.rank < new.rank) :
    (s.tierNoted new).rpu.poolOk ∧ (s.tierNoted new).rpu.asks id (be 2 s.bcu.v ++ beInt 2 s.bcu.t ++ [acCode s.bcu.acPresent]) := by
  obtain ⟨test, loadOn, charger, pending, history, told⟩ := s.tierTold_bcu new
  have payload : (s.tierTold new).bcu.vAndT ++ [acCode (s.tierTold new).bcu.acPresent] = be 2 s.bcu.v ++ beInt 2 s.bcu.t ++ [acCode s.bcu.acPresent] := by
    rw [told]
    rfl
  have alarmed : s.tierAlarmed new = (s.tierTold new).alarm id (be 2 s.bcu.v ++ beInt 2 s.bcu.t ++ [acCode s.bcu.acPresent]) := by
    unfold State.tierAlarmed
    rw [alarms]
    dsimp only
    rw [if_pos (by simpa using down), payload]
  have asked := State.alarm_asks (s := s.tierTold new) (id := id) (be 2 s.bcu.v ++ beInt 2 s.bcu.t ++ [acCode s.bcu.acPresent])
    ((State.spares.tierTold (id := id) new s) ok).1
  rw [← alarmed] at asked
  have differs : id ≠ .batteryFailing := by
    rintro rfl
    cases new <;> exact nomatch alarms
  have counted : (s.tierAlarmed new).spares id (s.tierCounted new) := by
    unfold State.tierCounted
    split
    · exact State.spares.attributeUpdate (t := (s.tierAlarmed new).withStored _) ((State.spares.refl _ _).same rfl) differs _
    · exact .refl _ _
  have noted : (s.tierAlarmed new).spares id (s.tierNoted new) := by
    refine State.spares.raise ?_ _
    split
    · exact counted.event _ _
    · exact counted
  exact noted.carry asked

end

end Sys2Proof.Machine
end

section
/-! PROOFS. The AC supply and the timers of the charger and the battery (R113, R114, R116, R117, R119). -/

namespace Sys2Proof.Machine

section
variable {id : AlarmId} {s t : State}

/-! ### The shutdown begins (R119) -/

theorem State.resumeTest_stays (h : ∀ r, s.bcu.test = some r → ∀ d, r.phase ≠ .suspended d) : s.resumeTest = s := by
  unfold State.resumeTest
  split
  · next r hr =>
    split
    · next d hd => exact absurd hd (h r hr d)
    · rfl
  · rfl

/-- The charger is off and the recharge stopped (R119 step 1). -/
def State.drained (s : State) : State :=
  { s with mdr := { s.mdr with rechargeSince := none }, bcu := { s.bcu with charger := .off, recharging := false } }

/-- The shutdown as it begins, with no suspended test. -/
theorem State.beginShutdown_eq (h : ∀ r, s.bcu.test = some r → ∀ d, r.phase ≠ .suspended d) : s.beginShutdown
    = (s.drained.askLastCall).withBcu fun b => { b with shutdown := .radio (s.now + shutdownRadioTime) } := by
  have stopped : (s.withBcu fun b => { b with charger := .off }).stopRecharge = s.drained := State.resumeTest_stays (s := s.drained) h
  unfold State.beginShutdown
  rw [stopped]

theorem State.beginShutdown_spec (h : ∀ r, s.bcu.test = some r → ∀ d, r.phase ≠ .suspended d) :
    s.beginShutdown.bcu = { s.bcu with charger := .off, recharging := false, shutdown := .radio (s.now + shutdownRadioTime) }
      ∧ s.beginShutdown.mdr = { s.mdr with rechargeSince := none } ∧ s.beginShutdown.rpu.lastCall = .waiting
      ∧ s.beginShutdown.rpu.inFlight = none ∧ s.spares id s.beginShutdown := by
  have bcu : s.drained.askLastCall.bcu = s.drained.bcu := by simp
  have mdr : s.drained.askLastCall.mdr = s.drained.mdr := by simp
  have spared : s.spares id s.drained.chargeInFlight := State.spares.chargeInFlight ((State.spares.refl id s).same rfl)
  rw [State.beginShutdown_eq h]
  refine ⟨?_, mdr, rfl, s.drained.chargeInFlight_clears, ?_⟩
  · exact congrArg (fun b : Bcu => { b with shutdown := .radio (s.now + shutdownRadioTime) }) bcu
  · exact spared

/-- A tier other than NORMAL leaves no test but one in LOAD (R118). -/
theorem State.tierTold_test {new : Tier} (low : new ≠ .normal) (s : State) : ∀ r, (s.tierTold new).bcu.test = some r → ∀ d, r.phase ≠ .suspended d := by
  have aborted (u : State) (r : TestRun) (h : u.bcu.test = some r) : (u.abortTest .tier).bcu.test = none := by
    rw [State.abortTest_eq h, (State.releaseHold_rest _ _ _).1]
    simp [State.testAborted]
  intro r hr d suspended
  unfold State.tierTold State.tierToTest at hr
  split at hr
  · next r' h =>
    split at hr
    · next load => rw [h] at hr; cases hr; exact nomatch load.symm.trans suspended
    · rw [if_neg low, aborted _ r' h] at hr
      exact nomatch hr
  · next none_ => exact nomatch none_.symm.trans hr

/-- DISCONNECT, as it is entered (R117 to R119). -/
theorem State.setTier_disconnect (ok : s.rpu.poolOk) (new : s.bcu.tier ≠ .disconnect) :
    (s.setTier .disconnect).bcu.tier = .disconnect ∧ (s.setTier .disconnect).bcu.charger = .off ∧ (s.setTier .disconnect).bcu.recharging = false
      ∧ (s.setTier .disconnect).bcu.shutdown = .radio (s.now + shutdownRadioTime)
      ∧ (s.setTier .disconnect).bcu.contactorClosed = s.bcu.contactorClosed
      ∧ (s.setTier .disconnect).mdr = { s.mdr with rechargeSince := none } ∧ (s.setTier .disconnect).rpu.lastCall = .waiting
      ∧ (s.setTier .disconnect).rpu.inFlight = none
      ∧ (s.setTier .disconnect).rpu.asks .batteryDisconnect (be 2 s.bcu.v ++ beInt 2 s.bcu.t ++ [acCode s.bcu.acPresent]) := by
  have noted : s.tierNoted .disconnect = (s.tierAlarmed .disconnect).raise .batteryTier := rfl
  have bcu : (s.tierNoted .disconnect).bcu = (s.tierTold .disconnect).bcu := by
    rw [noted]
    exact s.tierAlarmed_bcu .disconnect
  obtain ⟨test, loadOn, charger, pending, history, told⟩ := s.tierTold_bcu .disconnect
  obtain ⟨mdr, clock⟩ : (s.tierNoted .disconnect).mdr = s.mdr ∧ (s.tierNoted .disconnect).clock = s.clock := by
    have told : (s.tierTold .disconnect).mdr = s.mdr ∧ (s.tierTold .disconnect).clock = s.clock := by
      unfold State.tierTold State.tierToTest
      repeat' split
      all_goals first | exact ⟨rfl, rfl⟩ | exact ⟨by simp [State.tierToRpu, State.withBcu], by simp [State.tierToRpu, State.withBcu]⟩
    rw [noted]
    unfold State.tierAlarmed
    split
    · split <;> exact told
    · exact told
  obtain ⟨begun, stopped, waiting, idle, spared⟩ := State.beginShutdown_spec (id := .batteryDisconnect) (s := s.tierNoted .disconnect)
    (by rw [bcu]; exact State.tierTold_test (new := .disconnect) nofun s)
  have now : (s.tierNoted .disconnect).now = s.now := congrArg Clock.running clock
  have down : s.bcu.tier.rank < Tier.disconnect.rank := by
    revert new
    cases s.bcu.tier <;> decide
  rw [State.setTier_eq (Ne.symm new), if_pos rfl, begun, stopped, bcu, told, mdr, now]
  exact ⟨rfl, rfl, rfl, rfl, rfl, rfl, waiting, idle, (spared.carry (State.tierNoted_asks ok rfl down)).2⟩

/-- With the transmission asked for in DISCONNECT, the radio is supplied (R152, R154). -/
theorem State.rejudge_lastCall (tier : t.bcu.tier = .disconnect) (waiting : t.rpu.lastCall = .waiting) : t.rejudge.rpu.radio ≠ .off := by
  have wanted : t.rpu.wanted t.now t.bcu.tier = true := by
    rw [tier]
    exact (Bool.or_eq_true _ _).mpr (.inl (by simpa using waiting))
  change (t.rpu.rejudgeRadio t.now t.bcu.tier).radio ≠ .off
  unfold Rpu.rejudgeRadio
  rw [if_pos wanted]
  split
  · next supplied => simpa [Rpu.supplied] using supplied
  · nofun

/-! ### AC (R113) -/

theorem Bcu.toBulk_eq (b : Bcu) : b.toBulk = { b with
    charger := if b.acPresent = true ∧ b.thermalHold = false ∧ b.tier ≠ .disconnect ∧ b.testHolds = false then .bulk else .off } := by
  unfold Bcu.toBulk Bcu.mayCharge
  simp [and_assoc]

theorem Bcu.leaveOff_eq (b : Bcu) : b.leaveOff = { b with
    charger := if b.charger = .off ∧ b.acPresent = true ∧ b.thermalHold = false ∧ b.tier ≠ .disconnect ∧ b.testHolds = false then .bulk
      else b.charger } := by
  unfold Bcu.leaveOff
  rw [Bcu.toBulk_eq]
  by_cases off : b.charger = .off
  · simp [off]
  · simp [off]

/-- The readings of AC: none taken before, one that changes nothing, one that changes the state (R113). -/
theorem State.acReading_spec (s : State) :
    (s.bcu.acPresent = true → s.acReading true = { s with bcu := { s.bcu with acQualified := true } })
    ∧ (s.bcu.acPresent = false → s.bcu.acQualified = false → s.acReading true
        = { s with bcu := ({ s.bcu with acQualified := true, acPresent := true, disconnectSince := none } : Bcu).leaveOff })
    ∧ (s.bcu.acPresent = false → s.bcu.acQualified = true → s.acReading true
        = State.event .acSupplyRestored s.bcu.vAndT
            { s with bcu := ({ s.bcu with acQualified := true, acPresent := true, disconnectSince := none } : Bcu).leaveOff })
    ∧ (s.bcu.acPresent = true → s.acReading false
        = ((State.abortTest .acLoss { s with bcu := { s.bcu with acQualified := true, acPresent := false } }).withBcu Bcu.putOff).announceAcLost)
    ∧ (s.bcu.acPresent = false → s.bcu.acQualified = true → s.acReading false = { s with bcu := { s.bcu with acQualified := true } })
    ∧ (s.bcu.acPresent = false → s.bcu.acQualified = false → s.acReading false
        = State.announceAcLost { s with bcu := { s.bcu with acQualified := true } }) := by
  unfold State.acReading
  refine ⟨fun here => ?_, fun gone first => ?_, fun gone taken => ?_, fun here => ?_, fun gone taken => ?_, fun gone first => ?_⟩
  · simp [here, State.withBcu]
  · simp [gone, first, State.withBcu]
  · simp [gone, taken, State.withBcu]
    rfl
  · simp [here, State.withBcu]
  · simp [gone, taken, State.withBcu]
  · simp [gone, first, State.withBcu]

theorem State.abortTest_idle (none_ : s.bcu.test = none) (cause : TestCause) : s.abortTest cause = s := by
  unfold State.abortTest
  rw [none_]

theorem Bcu.leaveOff_ac (b : Bcu) : b.leaveOff.acPresent = b.acPresent ∧ b.leaveOff.acQualified = b.acQualified := by
  rw [Bcu.leaveOff_eq]
  exact ⟨rfl, rfl⟩

theorem Bcu.putOff_ac (b : Bcu) : b.putOff.acPresent = b.acPresent ∧ b.putOff.acQualified = b.acQualified := by
  unfold Bcu.putOff
  split <;> exact ⟨rfl, rfl⟩

theorem State.abortTest_ac (cause : TestCause) (s : State) :
    (s.abortTest cause).bcu.acPresent = s.bcu.acPresent ∧ (s.abortTest cause).bcu.acQualified = s.bcu.acQualified := by
  obtain ⟨test, loadOn, charger, pending, history, aborted⟩ := s.abortTest_bcu cause
  rw [aborted]
  exact ⟨rfl, rfl⟩

/-- After a reading has been taken, it is the state, and a reading has been taken. -/
theorem State.acReading_reads (b : Bool) (s : State) : (s.acReading b).bcu.acPresent = b ∧ (s.acReading b).bcu.acQualified = true := by
  obtain ⟨stays, first, returns, leaves, gone, missing⟩ := s.acReading_spec
  cases b with
  | true =>
    cases here : s.bcu.acPresent with
    | true => rw [stays here]; exact ⟨here, rfl⟩
    | false =>
      cases qualified : s.bcu.acQualified with
      | false => rw [first here qualified]; exact Bcu.leaveOff_ac _
      | true => rw [returns here qualified]; exact Bcu.leaveOff_ac _
  | false =>
    cases here : s.bcu.acPresent with
    | true =>
      rw [leaves here]
      obtain ⟨present, qualified⟩ := State.abortTest_ac .acLoss { s with bcu := { s.bcu with acQualified := true, acPresent := false } }
      exact ⟨(Bcu.putOff_ac _).1.trans present, (Bcu.putOff_ac _).2.trans qualified⟩
    | false =>
      cases qualified : s.bcu.acQualified with
      | false => rw [missing here qualified]; exact ⟨here, rfl⟩
      | true => rw [gone here qualified]; exact ⟨here, rfl⟩

/-- AC lost in a test, as it shows. -/
theorem State.acLost_shows {r : TestRun} (ok : s.rpu.poolOk) (run : s.bcu.test = some r) (gone : s.bcu.acPresent = false) :
    let t := ((s.abortTest .acLoss).withBcu Bcu.putOff).announceAcLost
    t.bcu.test = none ∧ t.bcu.loadOn = false ∧ t.bcu.charger = .off ∧ t.bcu.acPresent = false ∧ t.bcu.stored.pending = false
      ∧ t.bcu.stored.history.getLast? = some (r.abortedEntry .acLoss r.vRest (s.abortTest .acLoss).stamp)
      ∧ t.mdr = s.mdr ∧ t.sqc = s.sqc ∧ t.au = s.au ∧ t.oru = s.oru ∧ t.clock = s.clock
      ∧ t.rpu.asks .acSupplyLost s.bcu.vAndT ∧ t.ports.cAlerts.lit .acSupply := by
  intro t
  obtain ⟨test, load, charger, pending, history, -⟩ := State.abortTest_shows run .acLoss
  obtain ⟨test', loadOn', charger', pending', history', aborted⟩ := State.abortTest_bcu .acLoss s
  have free : s.bcu.freeCharger = .off := by unfold Bcu.freeCharger; rw [gone]; rfl
  rw [free] at charger
  have off : (s.abortTest .acLoss).bcu.putOff = (s.abortTest .acLoss).bcu := by
    unfold Bcu.putOff
    rw [if_neg (by rw [charger]; nofun), ← charger]
  have bcu : t.bcu = (s.abortTest .acLoss).bcu := off
  have reported : (s.abortTest .acLoss).bcu.putOff.vAndT = s.bcu.vAndT := by
    rw [off, aborted]
    rfl
  obtain ⟨mdr, sqc, au, oru, clock⟩ : t.mdr = s.mdr ∧ t.sqc = s.sqc ∧ t.au = s.au ∧ t.oru = s.oru ∧ t.clock = s.clock := by
    simp [t, State.announceAcLost, State.withBcu]
  have asks : t.rpu.asks .acSupplyLost s.bcu.vAndT := by
    have spared : s.spares .acSupplyLost (s.abortTest .acLoss) := (State.spares.refl _ s).abortTest _
    rw [← reported]
    exact (State.alarm_asks (s := (s.abortTest .acLoss).withBcu Bcu.putOff) _ (spared ok).1).2
  rw [bcu]
  exact ⟨test, load, charger, (State.abortTest_ac .acLoss s).1.trans gone, pending, history, mdr, sqc, au, oru, clock, asks,
    by simp [t, State.announceAcLost]⟩

/-! ### The timers of the charger and the battery (R116, R117) -/

/-- An event that brings the running time up and changes the BCU alone. -/
theorem State.leads_bcuAt {c : Instr} {f : State → State} (hp : s.powered = true) (he : exec c s = act f s) {time : Nat} {g : Bcu → Bcu}
    (hf : f s = (s.reach time).withBcu g) : s.leads c ((s.reach time).withBcu g) := State.leads_as hp he hf rfl rfl

def State.absorbOver (s : State) : State :=
  match s.bcu.charger with
  | .absorb since => (s.reach (since + absorbTime)).withBcu fun b => { b with charger := .float (s.reach (since + absorbTime)).now none }
  | _ => s

def State.floatDropOver (s : State) : State :=
  match s.bcu.charger with
  | .float _ (some start) => (s.reach (start + floatDropTime)).withBcu Bcu.toBulk
  | _ => s

def State.disconnectOver (s : State) : State :=
  match s.bcu.disconnectSince with
  | some start => (s.reach (start + disconnectTime)).setTier .disconnect
  | none => s

theorem exec_absorbTimeout (s : State) : exec .absorbTimeout s = act State.absorbOver s := rfl
theorem exec_floatDropExpiry (s : State) : exec .floatDropExpiry s = act State.floatDropOver s := rfl
theorem exec_disconnectTimerExpiry (s : State) : exec .disconnectTimerExpiry s = act State.disconnectOver s := rfl

theorem State.absorbOver_leads {since time : Nat} (hp : s.powered = true) (absorbing : s.bcu.charger = .absorb since) (at_ : since + absorbTime = time) :
    s.leads .absorbTimeout ((s.reach time).withBcu fun b => { b with charger := .float (s.reach time).now none }) := by
  refine State.leads_bcuAt hp (exec_absorbTimeout s) ?_
  unfold State.absorbOver
  rw [absorbing, ← at_]

theorem State.floatDropOver_leads {since start time : Nat} (hp : s.powered = true) (dropping : s.bcu.charger = .float since (some start))
    (at_ : start + floatDropTime = time) : s.leads .floatDropExpiry ((s.reach time).withBcu Bcu.toBulk) := by
  refine State.leads_bcuAt hp (exec_floatDropExpiry s) ?_
  unfold State.floatDropOver
  rw [dropping, ← at_]

theorem State.disconnectOver_eq {start : Nat} (running : s.bcu.disconnectSince = some start) :
    s.disconnectOver = (s.reach (start + disconnectTime)).setTier .disconnect := by
  unfold State.disconnectOver
  rw [running]

end

/-- Settles O52: the readings of AC by what they change, the timers by what they end. -/
theorem acReadingsAndBatteryTimers : Obligations.AcReadingsAndBatteryTimers := by
  refine ⟨fun d b s hp pool => ?_, fun start since s hp pool => ?_⟩
  · intro base payload lost resting left taken restored
    have resting_eq : s.bcu.testHolds = resting := by
      simp only [Bcu.testHolds, resting]
      cases s.bcu.test with
      | none => rfl
      | some r => cases h : r.phase <;> simp [h]
    have time : acSense.time = 2000000 := rfl
    have heard (present : Bool) (h : s.bcu.acStand = some ⟨present, d⟩) :
        acSense.hear present s = State.acReading present { base with bcu := { s.bcu with acStand := none } } := acSense.hear_stood h rfl
    have left_eq : ({ s.bcu with acStand := none, acQualified := true, acPresent := true, disconnectSince := none } : Bcu).leaveOff
        = { taken with acPresent := true, disconnectSince := none, charger := left } := by
      rw [Bcu.leaveOff_eq]
      have holds : ({ s.bcu with acStand := none, acQualified := true, acPresent := true, disconnectSince := none } : Bcu).testHolds = resting :=
        resting_eq
      simp only [holds, true_and, left, taken]
    have told (u : State) (k : EventKind) (x : List Byte) : (u.event k x).rpu.unpooled = u.rpu.unpooled := by simp
    have asked (u : State) (k : AlarmId) (x : List Byte) : (u.alarm k x).rpu.unpooled = u.rpu.unpooled := by simp
    let standing : State := { base with bcu := { s.bcu with acStand := none } }
    obtain ⟨stays, first, returns, leaves, gone, missing⟩ := standing.acReading_spec
    refine ⟨fun new over_ => ?_, fun stood ended => ?_, fun stood => ⟨fun here => ?_, fun absent unread => ?_, fun absent read => ?_⟩,
      fun stood => ⟨fun here none_ => ?_, fun absent read => ?_, fun absent unread => ?_⟩, fun r stood here run => ?_⟩
    · refine State.leads_as (f := acSense.hear b) hp (by rfl) ?_ rfl rfl
      rw [acSense.hear_begins new over_, time]
      have inForce : acSense.inForce s = some b ↔ s.bcu.acQualified = true ∧ b = s.bcu.acPresent := by
        change (if s.bcu.acQualified = true then some s.bcu.acPresent else none) = some b ↔ _
        by_cases read : s.bcu.acQualified = true <;> simp [read, eq_comm]
      simp only [inForce]
      rfl
    · have done : exec (.acStateChange (!b)) s = .next (acSense.hear (!b) s).rejudge := act_powered hp
      rw [acSense.hear_after stood ended (by simp)] at done
      let v := State.acReading b { s with bcu := { s.bcu with acStand := none } }
      have read := State.acReading_reads b { s with bcu := { s.bcu with acStand := none } }
      have clock : v.clock = s.clock := by simp [v]
      refine ⟨_, done, read.1, read.2, ?_⟩
      change acSense.next (!b) v = _
      rw [← time]
      refine (if_neg ?_).trans (congrArg (fun c : Clock => some (Stand.mk (!b) (c.running + acSense.time))) clock)
      change ¬ (if v.bcu.acQualified = true then some v.bcu.acPresent else none) = some (!b)
      rw [if_pos read.2, read.1]
      simp
    · refine State.leads_as (f := acSense.hear true) hp (by rfl) ?_ rfl rfl
      rw [heard true stood]
      exact stays here
    · refine State.leads_as (f := acSense.hear true) hp (by rfl) ?_ rfl rfl
      rw [heard true stood]
      exact (first absent unread).trans (congrArg (fun x => ({ base with bcu := x } : State)) left_eq)
    · refine State.leads_as (f := acSense.hear true) hp (by rfl) ?_ (told _ _ _) rfl
      rw [heard true stood]
      exact (returns absent read).trans (congrArg (fun x => State.event .acSupplyRestored payload { base with bcu := x }) left_eq)
    · refine State.leads_as (f := acSense.hear false) hp (by rfl) ?_ (asked _ _ _) rfl
      rw [heard false stood]
      refine (leaves here).trans ?_
      rw [State.abortTest_idle (by exact none_)]
      have off : ({ taken with acPresent := false } : Bcu).putOff
          = { taken with acPresent := false, charger := if s.bcu.charger = .testHold then .testHold else .off } := by
        unfold Bcu.putOff
        by_cases hold : s.bcu.charger = .testHold
        · rw [if_pos hold, if_pos (by exact hold), ← hold]
        · rw [if_neg hold, if_neg (by exact hold)]
      exact congrArg (fun x => State.announceAcLost { base with bcu := x }) off
    · refine State.leads_as (f := acSense.hear false) hp (by rfl) ?_ rfl rfl
      rw [heard false stood]
      exact gone absent read
    · refine State.leads_as (f := acSense.hear false) hp (by rfl) ?_ (asked _ _ _) rfl
      rw [heard false stood]
      exact missing absent unread
    · have done : exec (.acStateChange false) s = .next (acSense.hear false s).rejudge := act_powered hp
      rw [heard false stood, leaves here] at done
      let u : State := { standing with bcu := { standing.bcu with acQualified := true, acPresent := false } }
      obtain ⟨test, load, charger, present, pending, history, mdr, sqc, au, oru, clock, asks, lit⟩ :=
        State.acLost_shows (s := u) pool run rfl
      refine ⟨_, _, done, test, load, charger, present, pending, history, rfl, rfl, rfl, mdr, sqc, au, oru, clock, ?_, lit⟩
      rw [State.rejudge_qAlarm, State.rejudge_held]
      exact asks
  · intro resting toBulk
    have resting_eq : s.bcu.testHolds = resting := by
      simp only [Bcu.testHolds, resting]
      rcases s.bcu.test with _ | ⟨mode, port, phase, suspensions, vRest⟩
      · rfl
      · cases phase <;> rfl
    have absorb : absorbTime = 14400000000 := rfl
    have drop : floatDropTime = 60000000 := rfl
    have disconnect : disconnectTime = 60000000 := rfl
    refine ⟨fun absorbing => ?_, fun dropping => ?_, fun running new => ?_⟩
    · have ends (time : Nat) (at_ : start + absorbTime = time) :
          s.leads .absorbTimeout { s.reach time with bcu := { s.bcu with charger := .float (s.reach time).now none } } :=
        State.absorbOver_leads hp absorbing at_
      exact ends _ (congrArg (start + ·) absorb)
    · have off : s.bcu.toBulk = { s.bcu with charger := toBulk } := by
        rw [Bcu.toBulk_eq, resting_eq]
      have ends (time : Nat) (at_ : start + floatDropTime = time) :
          s.leads .floatDropExpiry { s.reach time with bcu := { s.bcu with charger := toBulk } } := by
        rw [← off]
        exact State.floatDropOver_leads hp dropping at_
      exact ends _ (congrArg (start + ·) drop)
    · have done : exec .disconnectTimerExpiry s = .next s.disconnectOver.rejudge := (exec_disconnectTimerExpiry s).trans (act_powered hp)
      rw [State.disconnectOver_eq running, disconnect] at done
      have entered (time : Nat) : let t := (s.reach time).setTier .disconnect
          t.clock = (s.reach time).clock ∧ t.bcu.tier = .disconnect ∧ t.bcu.charger = .off ∧ t.bcu.recharging = false
            ∧ t.mdr = { s.mdr with rechargeSince := none } ∧ t.bcu.shutdown = .radio (t.now + shutdownRadioTime) ∧ t.rpu.lastCall = .waiting
            ∧ t.rpu.inFlight = none ∧ t.bcu.contactorClosed = s.bcu.contactorClosed ∧ t.sqc = s.sqc ∧ t.au = s.au ∧ t.oru = s.oru
            ∧ t.rpu.asks .batteryDisconnect (be 2 s.bcu.v ++ beInt 2 s.bcu.t ++ [acCode s.bcu.acPresent])
            ∧ t.ports.cAlerts.lit .batteryTier := by
        obtain ⟨tier, charger, recharging, shutdown, contactor, mdr, waiting, idle, asks⟩ := State.setTier_disconnect (s := s.reach time) pool new
        obtain ⟨clock, -, -, sqc, au, -, oru, -⟩ := State.setTier_frame .disconnect (s.reach time)
        exact ⟨clock, tier, charger, recharging, mdr, shutdown.trans (congrArg (fun c : Clock => Shutdown.radio (c.running + shutdownRadioTime)) clock.symm),
          waiting, idle, contactor, sqc, au, oru, asks, (State.setTier_lit (s := s.reach time) (Ne.symm new)).1⟩
      obtain ⟨clock, tier, charger, recharging, mdr, shutdown, waiting, idle, contactor, sqc, au, oru, asks, lit⟩ := entered (start + 60000000)
      refine ⟨_, done, clock, tier, charger, recharging, mdr, shutdown, (State.rejudge_reads (·.rpu.lastCall) (fun _ _ => rfl) _).trans waiting,
        (State.rejudge_reads (·.rpu.inFlight) (fun _ _ => rfl) _).trans idle, State.rejudge_lastCall tier waiting, contactor, sqc, au, oru, ?_, lit⟩
      rw [State.rejudge_qAlarm, State.rejudge_held]
      exact asks

end Sys2Proof.Machine
end

section
/-! PROOFS. A battery measurement: the thermal hold, the charger, the disconnect timer and the tier (R112, R114 to R118, R128). -/

namespace Sys2Proof.Machine

/-! ### The steps of a measurement, as they change the BCU -/

section
variable {s t : State} {id : AlarmId}

theorem Bcu.hold_eq (t : Int) (b : Bcu) :
    b.hold t = if b.measured then 550 ≤ t || (500 ≤ t && b.thermalHold) else 500 ≤ t := by
  unfold Bcu.hold
  cases b.measured with
  | false => rfl
  | true =>
    by_cases warm : 550 ≤ t
    · simp [warm]
    · by_cases cool : t < 500
      · simp [warm, cool]
      · simp [warm, cool, not_lt.mp cool]

/-- The charger after the thermal hold has been judged (R112 step 1, R114). -/
def Bcu.heldCharger (b : Bcu) : Charger :=
  if b.hold b.t then (if b.charger = .testHold then .testHold else .off)
  else if b.charger = .off then
    (if b.acPresent = true ∧ b.hold b.t = false ∧ b.tier ≠ .disconnect ∧ b.testHolds = false then .bulk else .off)
  else b.charger

theorem Bcu.thermalStep_eq (b : Bcu) : b.thermalStep = { b with thermalHold := b.hold b.t, measured := true, charger := b.heldCharger } := by
  unfold Bcu.thermalStep Bcu.heldCharger
  dsimp only
  cases hot : b.hold b.t with
  | true =>
    simp only [if_true]
    unfold Bcu.putOff
    by_cases held : b.charger = .testHold <;> simp [held]
  | false =>
    rw [if_neg nofun, if_neg nofun, Bcu.leaveOff_eq]
    have holds : ({ b with thermalHold := false, measured := true } : Bcu).testHolds = b.testHolds := rfl
    rw [holds]
    by_cases off : b.charger = .off <;> simp [off]

theorem Bcu.inLoad_congr {b b' : Bcu} (h : b.test = b'.test) : b.inLoad = b'.inLoad := by
  unfold Bcu.inLoad
  rw [h]

theorem Bcu.testHolds_congr {b b' : Bcu} (h : b.test = b'.test) : b.testHolds = b'.testHolds := by
  unfold Bcu.testHolds
  rw [h]

/-- The charger after one measurement (R116). -/
def Bcu.steppedCharger (now : Nat) (b : Bcu) : Charger :=
  match b.charger with
  | .bulk => if b.vAbsSet ≤ b.v then .absorb now else .bulk
  | .absorb since => if b.i < b.stored.settings.taper ∨ since + absorbTime ≤ now then .float now none else .absorb since
  | .float since drop =>
    if (b.v : Int) < b.vFloatSet - 1000 then
      (if drop.getD now + floatDropTime ≤ now then b.toBulk.charger else .float since (some (drop.getD now)))
    else .float since none
  | other => other

theorem Bcu.chargerStep_eq (now : Nat) (b : Bcu) : b.chargerStep now = { b with charger := b.steppedCharger now } := by
  unfold Bcu.chargerStep Bcu.steppedCharger
  cases h : b.charger with
  | off | testHold => exact congrArg (fun c => ({ b with charger := c } : Bcu)) h
  | bulk =>
    dsimp only
    split
    · rfl
    · rw [← h]
  | absorb since =>
    simp only [Bool.or_eq_true, decide_eq_true_eq]
    split
    · rfl
    · rw [← h]
  | float since drop =>
    dsimp only
    split
    · split
      · rw [Bcu.toBulk_eq]
      · rfl
    · rfl

theorem Bcu.disconnectStep_eq (now : Nat) (b : Bcu) :
    b.disconnectStep now = if b.v < 21000 ∧ b.acPresent = false then some (b.disconnectSince.getD now) else none := by
  unfold Bcu.disconnectStep
  simp

/-- Steps 1 to 6 of R117 as one order of checks. -/
theorem Bcu.decideTier_eq (now : Nat) (b : Bcu) : b.decideTier now = (firstOf
    [(b.disconnectSince.any fun start => start + disconnectTime ≤ now, Tier.disconnect),
     (decide (b.v < 22000) && (b.tier == .normal || b.tier == .low), .critical),
     (decide (b.v < 23000) && b.tier == .normal, .low),
     (decide (23400 < b.v) && (b.tier == .low || b.tier == .critical), .normal),
     (decide (22600 < b.v) && b.tier == .critical, .low)]).getD b.tier := by
  unfold Bcu.decideTier
  simp only [firstOf]
  cases b.disconnectSince.any fun start => start + disconnectTime ≤ now with
  | true => rfl
  | false =>
    cases b.tier with
    | normal => by_cases critical : b.v < 22000 <;> by_cases low : b.v < 23000 <;> simp [critical, low]
    | low => by_cases critical : b.v < 22000 <;> by_cases normal : 23400 < b.v <;> simp [critical, normal]
    | critical => by_cases normal : 23400 < b.v <;> by_cases low : 22600 < b.v <;> simp [normal, low]
    | disconnect => simp

/-- CRITICAL is entered from NORMAL or LOW alone (R117). -/
theorem Bcu.decideTier_down {now : Nat} {b : Bcu} (h : b.decideTier now = .critical) (new : b.tier ≠ .critical) : b.tier.rank < Tier.critical.rank := by
  unfold Bcu.decideTier at h
  split at h
  · exact nomatch h
  · cases e : b.tier with
    | normal | low => decide
    | critical => exact absurd e new
    | disconnect => rw [e] at h; exact nomatch h

theorem State.attributeUpdate_bcu (f : Attributes → Attributes) (s : State) : ∃ failing, (s.attributeUpdate f).bcu
    = { s.bcu with failing := failing, stored := { s.bcu.stored with attributes := f s.bcu.stored.attributes } } :=
  ⟨_, State.judgeVerdict_bcu (s.withAttributes f)⟩

/-- The hot hour as it starts again. -/
def State.hotCleared (s : State) : State :=
  (s.withBcu fun b => { b with hotCount := 0 }).withStored fun b => { b with hot := satSucc 65535 s.bcu.stored.hot }

theorem State.closeHotHour_eq (s : State) : s.closeHotHour = s.hotCleared.attributeUpdate (·.setHotHours (satSucc 65535 s.bcu.stored.hot)) := rfl

/-- The float window as it starts again. -/
def State.floatCleared (s : State) : State := s.withBcu fun b => { b with floatSum := 0, floatCount := 0 }

theorem State.closeFloatWindow_eq (s : State) : ∃ mean : Nat, s.closeFloatWindow = s.floatCleared.attributeUpdate (·.setFloatCurrent mean) := ⟨_, rfl⟩

theorem State.hotStep_bcu (s : State) : ∃ hotCount failing hot hotHours, s.hotStep.bcu = { s.bcu with
    hotCount := hotCount, failing := failing
    stored := { s.bcu.stored with hot := hot, attributes := { s.bcu.stored.attributes with hotHours := hotHours } } } := by
  unfold State.hotStep
  split
  · split
    · obtain ⟨failing, judged⟩ := s.hotCleared.attributeUpdate_bcu (·.setHotHours (satSucc 65535 s.bcu.stored.hot))
      rw [State.closeHotHour_eq]
      exact ⟨_, _, _, _, congrArg (fun b : Bcu => { b with hotCount := b.hotCount + 1 }) judged⟩
    · exact ⟨_, _, _, _, rfl⟩
  · exact ⟨_, _, _, _, rfl⟩

theorem State.floatStep_bcu (s : State) : ∃ floatSum floatCount failing floatCurrent, s.floatStep.bcu = { s.bcu with
    floatSum := floatSum, floatCount := floatCount, failing := failing
    stored := { s.bcu.stored with attributes := { s.bcu.stored.attributes with floatCurrent := floatCurrent } } } := by
  unfold State.floatStep
  split
  · split
    · obtain ⟨mean, closed⟩ := s.closeFloatWindow_eq
      obtain ⟨failing, judged⟩ := s.floatCleared.attributeUpdate_bcu (·.setFloatCurrent mean)
      rw [closed]
      exact ⟨_, _, _, _, congrArg (fun b : Bcu => { b with floatSum := b.floatSum + b.i.toNat, floatCount := b.floatCount + 1 }) judged⟩
    · exact ⟨_, _, _, _, rfl⟩
  · exact ⟨_, _, _, _, rfl⟩

theorem State.lights.hotStep (h : s.lights t) : s.lights t.hotStep := by
  have cleared : s.lights t.hotCleared := h.same rfl rfl
  have closed : s.lights t.closeHotHour := by
    rw [State.closeHotHour_eq]
    exact cleared.attributeUpdate _
  unfold State.hotStep
  split
  · split
    · exact closed.same rfl rfl
    · exact h.same rfl rfl
  · exact h

theorem State.lights.floatStep (h : s.lights t) : s.lights t.floatStep := by
  have cleared : s.lights t.floatCleared := h.same rfl rfl
  obtain ⟨mean, eq⟩ := t.closeFloatWindow_eq
  have closed : s.lights t.closeFloatWindow := by
    rw [eq]
    exact cleared.attributeUpdate _
  unfold State.floatStep
  split
  · split
    · exact closed.same rfl rfl
    · exact h.same rfl rfl
  · exact h

theorem State.spares.hotStep (h : s.spares id t) (differs : id ≠ .batteryFailing) : s.spares id t.hotStep := by
  have cleared : s.spares id t.hotCleared := h.same rfl
  have closed : s.spares id t.closeHotHour := by
    rw [State.closeHotHour_eq]
    exact cleared.attributeUpdate differs _
  unfold State.hotStep
  split
  · split
    · exact closed.same rfl
    · exact h.same rfl
  · exact h

theorem State.spares.floatStep (h : s.spares id t) (differs : id ≠ .batteryFailing) : s.spares id t.floatStep := by
  have cleared : s.spares id t.floatCleared := h.same rfl
  obtain ⟨mean, eq⟩ := t.closeFloatWindow_eq
  have closed : s.spares id t.closeFloatWindow := by
    rw [eq]
    exact cleared.attributeUpdate differs _
  unfold State.floatStep
  split
  · split
    · exact closed.same rfl
    · exact h.same rfl
  · exact h

/-- A tier entered leaves the mechanism alone, but for the recharge that DISCONNECT stops. -/
theorem State.setTier_mdr {new : Tier} (h : new ≠ .disconnect) (s : State) : (s.setTier new).mdr = s.mdr := by
  by_cases same : new = s.bcu.tier
  · rw [State.setTier_same same]
  · have told : (s.tierTold new).mdr = s.mdr := by
      unfold State.tierTold State.tierToTest
      repeat' split
      all_goals simp [State.tierToRpu, State.withBcu]
    have alarmed : (s.tierAlarmed new).mdr = s.mdr := by
      unfold State.tierAlarmed
      repeat' split
      all_goals exact told
    have counted : (s.tierCounted new).mdr = s.mdr := by
      unfold State.tierCounted
      split
      · simpa [State.withStored, State.withBcu] using alarmed
      · exact alarmed
    rw [State.setTier_eq same, if_neg h]
    unfold State.tierNoted
    split <;> exact counted

/-! ### The measurement as a whole (R112) -/

/-- Step 1: the readings and the thermal hold. -/
def State.batteryRead (v : Nat) (i t : Int) (s : State) : State := s.withBcu fun b => (b.read s.now v i t).thermalStep

/-- Step 2 and the disconnect timer of step 3. -/
def State.batteryTimed (s : State) : State :=
  (s.withBcu (·.chargerStep s.now)).withBcu fun b => { b with disconnectSince := b.disconnectStep s.now }

/-- What a change of the BCU alone leaves. -/
def State.besidesBcu (s t : State) : Prop := t.rpu = s.rpu ∧ t.clock = s.clock ∧ t.sqc = s.sqc ∧ t.au = s.au ∧ t.lmu = s.lmu ∧ t.oeb = s.oeb
  ∧ t.oru = s.oru ∧ t.mdr = s.mdr

theorem State.withBcu_besides (f : Bcu → Bcu) (s : State) : s.besidesBcu (s.withBcu f) := ⟨rfl, rfl, rfl, rfl, rfl, rfl, rfl, rfl⟩

theorem State.besidesBcu.trans {u : State} (h : s.besidesBcu t) (h' : t.besidesBcu u) : s.besidesBcu u :=
  have ⟨rpu, clock, sqc, au, lmu, oeb, oru, mdr⟩ := h
  have ⟨rpu', clock', sqc', au', lmu', oeb', oru', mdr'⟩ := h'
  ⟨rpu'.trans rpu, clock'.trans clock, sqc'.trans sqc, au'.trans au, lmu'.trans lmu, oeb'.trans oeb, oru'.trans oru, mdr'.trans mdr⟩

theorem State.batteryRead_besides (v : Nat) (i t : Int) (s : State) : s.besidesBcu (s.batteryRead v i t) := State.withBcu_besides _ _

theorem State.batteryTimed_bcu (s : State) : s.batteryTimed.bcu
    = { s.bcu.chargerStep s.now with disconnectSince := (s.bcu.chargerStep s.now).disconnectStep s.now } := rfl

theorem State.batteryRead_now (v : Nat) (i t : Int) (s : State) : (s.batteryRead v i t).now = s.now := by
  obtain ⟨-, clock, -⟩ := s.batteryRead_besides v i t
  rw [State.now, clock]
  rfl

theorem State.batteryTimed_besides (s : State) : s.besidesBcu s.batteryTimed := (State.withBcu_besides _ _).trans (State.withBcu_besides _ _)

theorem State.hotStep_besides (s : State) : s.hotStep.clock = s.clock ∧ s.hotStep.sqc = s.sqc ∧ s.hotStep.au = s.au ∧ s.hotStep.lmu = s.lmu
    ∧ s.hotStep.oeb = s.oeb ∧ s.hotStep.oru = s.oru ∧ s.hotStep.mdr = s.mdr := by simp

theorem State.measureBattery_inLoad {v : Nat} {i t : Int} (load : (s.batteryRead v i t).bcu.inLoad = true) :
    s.measureBattery v i t = (s.batteryRead v i t).hotStep.withBcu Bcu.keepMeasured := by
  unfold State.measureBattery
  exact congrArg (State.withBcu Bcu.keepMeasured) (if_pos load)

theorem State.measureBattery_outside {v : Nat} {i t : Int} (free : (s.batteryRead v i t).bcu.inLoad = false) : s.measureBattery v i t
    = ((s.batteryRead v i t).batteryTimed.setTier ((s.batteryRead v i t).batteryTimed.bcu.decideTier s.now)).floatStep.hotStep.withBcu
        Bcu.keepMeasured := by
  unfold State.measureBattery
  exact congrArg (State.withBcu Bcu.keepMeasured) (if_neg ((Bool.not_eq_true _).mpr free))

end

/-- Settles O53: the steps of the measurement, in LOAD and outside it. -/
theorem batteryMeasurementDecidesTheTier : Obligations.BatteryMeasurementDecidesTheTier := by
  intro v i t s hp pool
  have absorb : absorbTime = 14400000000 := rfl
  have drop : floatDropTime = 60000000 := rfl
  have disconnect : disconnectTime = 60000000 := rfl
  have period : batteryPeriod = 1000000 := rfl
  have done : exec (.batteryMeasurement v i t) s = .next ((s.reach (s.bcu.lastMeasurement + batteryPeriod)).measureBattery v i t).rejudge :=
    act_powered (f := fun s => (s.reach (s.bcu.lastMeasurement + batteryPeriod)).measureBattery v i t) hp
  rw [period] at done
  have reached (time : Nat) : (s.reach time).rpu.poolOk ∧ (s.reach time).bcu = s.bcu ∧ (s.reach time).mdr = s.mdr ∧ (s.reach time).sqc = s.sqc
      ∧ (s.reach time).au = s.au ∧ (s.reach time).lmu = s.lmu ∧ (s.reach time).oeb = s.oeb ∧ (s.reach time).oru = s.oru :=
    ⟨pool, rfl, rfl, rfl, rfl, rfl, rfl, rfl⟩
  obtain ⟨ok, bcu, mdr, sqc, au, lmu, oeb, oru⟩ := reached (s.bcu.lastMeasurement + 1000000)
  generalize s.reach (s.bcu.lastMeasurement + 1000000) = at_ at done ok bcu mdr sqc au lmu oeb oru ⊢
  intro at_' degrees set hot inLoad resting timer tier toBulk held moved setAttribute
  let taken := s.bcu.read at_.now v i t
  have hot_eq : taken.hold taken.t = hot := Bcu.hold_eq t taken
  have set_eq (v25 : Nat) : compensated v25 t = set v25 := rfl
  clear_value hot set
  let base : Bcu := { s.bcu with
    v := v, i := i, t := t, lastMeasurement := at_.now, vFloatSet := set s.bcu.stored.settings.vFloat, vAbsSet := set s.bcu.stored.settings.vAbs
    thermalHold := hot, measured := true }
  have read : (at_.batteryRead v i t).bcu = { base with charger := taken.heldCharger } := by
    have step := Bcu.thermalStep_eq taken
    rw [hot_eq] at step
    have read : (at_.batteryRead v i t).bcu = (at_.bcu.read at_.now v i t).thermalStep := rfl
    rw [read, bcu]
    refine step.trans ?_
    simp only [base, ← set_eq]
    rfl
  have load_eq : (at_.batteryRead v i t).bcu.inLoad = inLoad := by
    rw [read]
    refine (Bcu.inLoad_congr (b' := s.bcu) rfl).trans ?_
    unfold Bcu.inLoad
    simp only [inLoad]
    rcases s.bcu.test with _ | ⟨mode, port, phase, suspensions, vRest⟩
    · rfl
    · cases phase <;> rfl
  have holds_eq : inLoad = false → s.bcu.testHolds = resting := by
    unfold Bcu.testHolds
    simp only [inLoad, resting]
    rcases s.bcu.test with _ | ⟨mode, port, phase, suspensions, vRest⟩
    · exact fun _ => rfl
    · cases phase <;> simp
  cases loading : inLoad with
  | true =>
    have measured := State.measureBattery_inLoad (load_eq.trans loading)
    obtain ⟨hotCount, failing, hotHours, hotValue, hour⟩ := (at_.batteryRead v i t).hotStep_bcu
    obtain ⟨clock', sqc', au', lmu', oeb', oru', mdr'⟩ := (at_.batteryRead v i t).hotStep_besides
    obtain ⟨-, clock, sqc'', au'', lmu'', oeb'', oru'', mdr''⟩ := at_.batteryRead_besides v i t
    rw [measured] at done
    have after : ((at_.batteryRead v i t).hotStep.withBcu Bcu.keepMeasured).rejudge.bcu = (at_.batteryRead v i t).hotStep.bcu.keepMeasured := rfl
    rw [hour, read] at after
    refine ⟨_, done, clock'.trans clock, ?_⟩
    rw [after]
    refine ⟨rfl, rfl, rfl, rfl, rfl, rfl, rfl, rfl, rfl, rfl, sqc'.trans (sqc''.trans sqc), au'.trans (au''.trans au),
      lmu'.trans (lmu''.trans lmu), oeb'.trans (oeb''.trans oeb), oru'.trans (oru''.trans oru), fun _ => mdr'.trans (mdr''.trans mdr), fun _ testing => ⟨rfl, rfl, ?_, rfl, rfl, rfl, rfl⟩, nofun, nofun, nofun⟩
    change taken.heldCharger = .testHold
    unfold Bcu.heldCharger
    have charger : taken.charger = .testHold := testing
    rw [charger]
    simp
  | false =>
    let w := at_.batteryRead v i t
    have free : w.bcu.inLoad = false := load_eq.trans loading
    have charging : taken.heldCharger = held := by
      unfold Bcu.heldCharger
      have holds : taken.testHolds = resting := (Bcu.testHolds_congr (b' := s.bcu) rfl).trans (holds_eq loading)
      rw [hot_eq, holds]
      rfl
    rw [charging] at read
    have timed : w.batteryTimed.bcu = { base with charger := moved, disconnectSince := timer } := by
      have stepped := Bcu.chargerStep_eq at_.now w.bcu
      have moving : w.bcu.steppedCharger at_.now = moved := by
        rw [read]
        unfold Bcu.steppedCharger
        rw [absorb, drop, Bcu.toBulk_eq]
        have holds : ({ base with charger := held } : Bcu).testHolds = resting :=
          (Bcu.testHolds_congr (b' := s.bcu) rfl).trans (holds_eq loading)
        rw [holds] <;> rfl
      rw [moving] at stepped
      have since := Bcu.disconnectStep_eq at_.now (w.bcu.chargerStep at_.now)
      have now : w.now = at_.now := at_.batteryRead_now v i t
      rw [w.batteryTimed_bcu, now, since, stepped, read]
    have decides : w.batteryTimed.bcu.decideTier at_.now = tier := by
      rw [Bcu.decideTier_eq, timed, disconnect]
    have measured := State.measureBattery_outside free
    let x := w.batteryTimed
    have timed : x.bcu = { base with charger := moved, disconnectSince := timer } := timed
    change at_.measureBattery v i t = (((x.setTier (x.bcu.decideTier at_.now)).floatStep).hotStep).withBcu Bcu.keepMeasured at measured
    have decides : x.bcu.decideTier at_.now = tier := decides
    obtain ⟨rpu', clock', sqc', au', lmu', oeb', oru', mdr'⟩ : at_.besidesBcu x := (at_.batteryRead_besides v i t).trans w.batteryTimed_besides
    have pooled : x.rpu.poolOk := by rw [rpu']; exact ok
    have lowered (entered : tier = .critical) (new : tier ≠ s.bcu.tier) : x.bcu.tier.rank < Tier.critical.rank :=
      Bcu.decideTier_down (decides.trans entered) (by rw [timed]; exact fun e => new (entered.trans e.symm))
    rw [decides] at measured
    clear_value x
    let y := x.setTier tier
    let u := y.floatStep.hotStep
    have frame : u.clock = x.clock ∧ u.sqc = x.sqc ∧ u.au = x.au ∧ u.lmu = x.lmu ∧ u.oeb = x.oeb ∧ u.oru = x.oru ∧ u.mdr = y.mdr := by
      simp [u, y]
    obtain ⟨clock, sqc'', au'', lmu'', oeb'', oru'', mdr''⟩ := frame
    obtain ⟨test, loadOn, charger, pending, history, failing, recharging, shutdown, entered⟩ := x.setTier_bcu tier
    obtain ⟨floatSum, floatCount, failing', current, floated⟩ := y.floatStep_bcu
    obtain ⟨hotCount, failing'', hours, hotValue, warmed⟩ := y.floatStep.hotStep_bcu
    have shown : u.bcu = _ := warmed
    rw [floated] at shown
    have same (stays : tier = s.bcu.tier) : y = x := State.setTier_same (by rw [timed]; exact stays)
    have changes (new : tier ≠ s.bcu.tier) : tier ≠ x.bcu.tier := by rw [timed]; exact new
    have lights : y.lights u := ((State.lights.refl y).floatStep).hotStep
    have spares (id : AlarmId) (differs : id ≠ .batteryFailing) : y.spares id u := ((State.spares.refl id y).floatStep differs).hotStep differs
    have kept : u.bcu = { y.bcu with
        floatSum := floatSum, floatCount := floatCount, hotCount := hotCount, failing := failing''
        stored := { y.bcu.stored with
          hot := hours, attributes := { y.bcu.stored.attributes with floatCurrent := current, hotHours := hotValue } } } := shown
    have read : y.bcu.v = v ∧ y.bcu.i = i ∧ y.bcu.t = t ∧ y.bcu.measured = true ∧ y.bcu.lastMeasurement = at_.now ∧ y.bcu.thermalHold = hot
        ∧ y.bcu.vFloatSet = set s.bcu.stored.settings.vFloat ∧ y.bcu.vAbsSet = set s.bcu.stored.settings.vAbs
        ∧ y.bcu.tier = tier ∧ y.bcu.disconnectSince = timer := by
      rw [entered, timed]
      exact ⟨rfl, rfl, rfl, rfl, rfl, rfl, rfl, rfl, rfl, rfl⟩
    obtain ⟨v', i', t', measured', last, hold, float, absorption, tier', since⟩ := read
    have deepened : u.bcu.stored.deep
        = if tier = .critical && decide (x.bcu.tier.rank < tier.rank) then satSucc 65535 s.bcu.stored.deep else s.bcu.stored.deep := by
      rw [kept, entered, timed]
    have health : u.bcu.stored.attributes.deepDischarges = if tier = .critical && decide (x.bcu.tier.rank < tier.rank)
        then (s.bcu.stored.attributes.setDeep (satSucc 65535 s.bcu.stored.deep)).deepDischarges else s.bcu.stored.attributes.deepDischarges := by
      rw [kept, entered, timed]
      exact apply_ite Attributes.deepDischarges _ _ _
    have counts (critical : tier = .critical) (new : tier ≠ s.bcu.tier) :
        (decide (tier = .critical) && decide (x.bcu.tier.rank < tier.rank)) = true := by
      have down := lowered critical new
      rw [critical]
      simpa using down
    have uncounted (level : tier ≠ .critical) : ¬ (decide (tier = .critical) && decide (x.bcu.tier.rank < tier.rank)) = true := by
      simp [level]
    have alarmed (id : AlarmId) (asks : tier.alarm = some id) (down : x.bcu.tier.rank < tier.rank) (new : tier ≠ s.bcu.tier) (on : tier ≠ .disconnect)
        (differs : id ≠ .batteryFailing) : u.rpu.asks id (be 2 v ++ beInt 2 t ++ [acCode s.bcu.acPresent]) := by
      have noted := State.tierNoted_asks pooled asks down
      have eq : y = x.tierNoted tier := (State.setTier_eq (changes new)).trans (if_neg on)
      rw [← eq, timed] at noted
      exact ((spares id differs).carry noted).2
    rw [measured] at done
    refine ⟨_, done, clock.trans clock', ?_⟩
    change u.bcu.v = v ∧ u.bcu.i = i ∧ u.bcu.t = t ∧ u.bcu.measured = true ∧ u.bcu.lastMeasurement = at_.now ∧ u.bcu.thermalHold = hot
      ∧ u.bcu.vFloatSet = set s.bcu.stored.settings.vFloat ∧ u.bcu.vAbsSet = set s.bcu.stored.settings.vAbs ∧ u.bcu.tier = u.bcu.tier
      ∧ u.bcu.charger = u.bcu.charger ∧ u.sqc = s.sqc ∧ u.au = s.au ∧ u.lmu = s.lmu ∧ u.oeb = s.oeb ∧ u.oru = s.oru
      ∧ (_ → u.mdr = s.mdr) ∧ (_ → _ → _) ∧ (_ → u.bcu.tier = tier ∧ u.bcu.disconnectSince = timer)
      ∧ (_ → _ → u.bcu.charger = moved ∧ u.bcu.test = s.bcu.test) ∧ (_ → _ → u.ports.cAlerts.lit .batteryTier ∧ u.ports.pAlerts.lit .batteryTier ∧ _)
    refine ⟨by rw [kept]; exact v', by rw [kept]; exact i', by rw [kept]; exact t', by rw [kept]; exact measured', by rw [kept]; exact last,
      by rw [kept]; exact hold, by rw [kept]; exact float, by rw [kept]; exact absorption, rfl, rfl, sqc''.trans (sqc'.trans sqc),
      au''.trans (au'.trans au), lmu''.trans (lmu'.trans lmu), oeb''.trans (oeb'.trans oeb), oru''.trans (oru'.trans oru), fun calm => ?_, nofun,
      fun _ => by rw [kept]; exact ⟨tier', since⟩, fun _ stays => ?_, fun _ new => ⟨?_, ?_, fun critical => ⟨?_, ?_, ?_⟩, fun normal low => ?_,
      fun level => ?_⟩⟩
    · rw [mdr'', State.setTier_mdr (calm.resolve_left nofun), mdr', mdr]
    · rw [kept, same stays, timed]
      exact ⟨rfl, rfl⟩
    · exact (lights _).1 (State.setTier_lit (changes new)).1
    · exact (lights _).2 (State.setTier_lit (changes new)).2
    · exact deepened.trans (if_pos (counts critical new))
    · change u.bcu.stored.attributes.deepDischarges = setAttribute u.bcu.stored.deep (100 - 5 * u.bcu.stored.deep) _
      rw [health, deepened, if_pos (counts critical new), if_pos (counts critical new)]
      rfl
    · obtain ⟨r, hr, kind, -⟩ := alarmed .batteryCritical (by rw [critical]; rfl) (by rw [critical]; exact lowered critical new) new
        (by rw [critical]; nofun) nofun
      rw [State.rejudge_qAlarm, State.rejudge_held]
      exact ⟨r, hr, kind⟩
    · rw [State.rejudge_qAlarm, State.rejudge_held]
      exact alarmed .batteryLow (by rw [low]; rfl) (by rw [low, timed]; change s.bcu.tier.rank < _; rw [normal]; decide) new (by rw [low]; nofun) nofun
    · exact ⟨deepened.trans (if_neg (uncounted level)), health.trans (if_neg (uncounted level))⟩

end Sys2Proof.Machine
end

section
/-! PROOFS. Reports created, acknowledged and charged (R135 to R139, R144, R146, R147, R150). -/

namespace Sys2Proof.Machine

/-! ### The oldest report, and the eviction that makes room (R137) -/

section
variable {r : Rpu} {x : Report} {l : List Report}

theorem oldest_le (h : oldest l = some x) : ∀ y ∈ l, x.order ≤ y.order := by
  induction l generalizing x with
  | nil => exact nomatch h
  | cons z rest ih =>
    intro y hy
    rw [oldest] at h
    split at h
    · next none_ =>
      have empty := oldest_none none_
      subst empty
      cases h
      rw [List.mem_singleton.mp hy]
    · next w hw =>
      have least := ih hw
      rcases List.mem_cons.mp hy with rfl | hy <;> split at h <;> cases h
      · omega
      · omega
      · exact least y hy
      · have := least y hy
        omega

theorem oldest_eq_none : oldest l = none ↔ l = [] := ⟨oldest_none, fun h => by rw [h]; rfl⟩

theorem Rpu.evict_few (few : r.eventOrMeasureCount < 24) : r.evict = r := if_pos few

theorem Rpu.evict_many (many : 24 ≤ r.eventOrMeasureCount) :
    (∀ x, oldest r.qMeasure = some x → r.evict = { r with qMeasure := without x r.qMeasure })
    ∧ (∀ x, r.qMeasure = [] → oldest r.qEvent = some x → r.evict = { r with qEvent := without x r.qEvent, lost := satSucc 255 r.lost })
    ∧ (∀ x, r.qMeasure = [] → r.qEvent = [] → oldest (r.held.filter fun y => y.kind.isEvent) = some x →
        r.evict = { r with held := without x r.held, lost := satSucc 255 r.lost }) := by
  have full : ¬ r.eventOrMeasureCount < 24 := Nat.not_lt.mpr many
  refine ⟨fun x h => ?_, fun x m h => ?_, fun x m e h => ?_⟩
  · rw [Rpu.evict, if_neg full, h]
  · rw [Rpu.evict, if_neg full, oldest_eq_none.mpr m, h]
  · rw [Rpu.evict, if_neg full, oldest_eq_none.mpr m, oldest_eq_none.mpr e, h]

/-- A pool with 24 events and snapshots has one that can go. -/
theorem Rpu.evict_finds (ok : r.poolOk) (many : 24 ≤ r.eventOrMeasureCount) :
    r.qMeasure ≠ [] ∨ r.qEvent ≠ [] ∨ ∃ x ∈ r.held, x.kind.isEvent = true := by
  by_contra none_
  obtain ⟨m, none_⟩ := not_or.mp none_
  obtain ⟨e, h⟩ := not_or.mp none_
  have held : r.held.filter (fun y => y.kind.isEvent) = [] := by
    rw [List.filter_eq_nil_iff]
    exact fun y hy event => h ⟨y, hy, event⟩
  have same : r.evict = r := by
    rw [Rpu.evict, if_neg (Nat.not_lt.mpr many), oldest_eq_none.mpr (Classical.not_not.mp m), oldest_eq_none.mpr (Classical.not_not.mp e),
      oldest_eq_none.mpr held]
  have room := Rpu.evict_room ok
  rw [same] at room
  omega

/-- What the eviction leaves of the report counters. -/
theorem Rpu.evict_counters (r : Rpu) : r.evict.nextNumber = r.nextNumber ∧ r.evict.nextOrder = r.nextOrder := by
  unfold Rpu.evict
  repeat' split
  all_goals exact ⟨rfl, rfl⟩

end

/-! ### The score, the standing and the disposal (R147, R150) -/

section
variable {s : State} {r : Rpu} {x : Report}

/-- A score in force, with the standing it gives and the effects of a change of it (R150). -/
theorem State.setScore_eq (n : Nat) (s : State) : s.setScore n =
    if standingOf s.rpu.settings.warnLevel n = s.rpu.standing then { s with rpu := { s.rpu with score := n } }
    else State.raise .linkStanding { s with rpu := { s.rpu with
      score := n, standing := standingOf s.rpu.settings.warnLevel n
      qMeasure := if s.rpu.standing = .good then [] else s.rpu.qMeasure
      probe := if standingOf s.rpu.settings.warnLevel n = .silent then s.probeFrom
        else if s.rpu.standing = .silent then .stopped else s.rpu.probe } } := rfl

/-- The RPU with the object in flight out of flight. -/
def Rpu.landed (r : Rpu) : Rpu := { r with inFlight := none, singleTrial := false, ackTimer := none }

theorem Rpu.takeOut_landed (ok : r.poolOk) (flight : r.inFlight = some x) : r.landed.takeOut x = r.landed :=
  congrArg Rpu.landed (Rpu.takeOut_inFlight ok flight)

/-- The charge of the object in flight, up to its disposal (R147). -/
def State.restood (s : State) : State := State.setScore (min 255 (s.rpu.score + 8)) { s with rpu := s.rpu.landed }

theorem State.chargeInFlight_eq (ok : s.rpu.poolOk) (flight : s.rpu.inFlight = some x) : s.chargeInFlight
    = { s.restood with rpu := s.restood.rpu.dispose s.restood.now s.rpu.singleTrial { x with attempts := satSucc 8 x.attempts } } := by
  have taken := Rpu.takeOut_landed ok flight
  unfold State.chargeInFlight
  rw [flight]
  change State.charge s.rpu.singleTrial x { s with rpu := s.rpu.landed } = _
  unfold State.charge State.restood
  dsimp only
  rw [taken]
  rfl

theorem State.restood_queues (s : State) : s.restood.rpu.qAlarm = s.rpu.qAlarm ∧ s.restood.rpu.qEvent = s.rpu.qEvent
    ∧ s.restood.rpu.held = s.rpu.held ∧ s.restood.rpu.settings = s.rpu.settings ∧ s.restood.clock = s.clock := by
  obtain ⟨standing, q, probe, e, -⟩ := State.setScore_rpu (min 255 (s.rpu.score + 8)) { s with rpu := s.rpu.landed }
  have rest := State.setScore_rest (min 255 (s.rpu.score + 8)) { s with rpu := s.rpu.landed }
  have clock := congrArg State.clock rest
  refine ⟨?_, ?_, ?_, ?_, clock⟩
  all_goals
    unfold State.restood
    rw [e]
    rfl

/-- The disposal of a charged report, case by case (R147). -/
theorem Rpu.dispose_spec (now : Nat) (single : Bool) (x : Report) (r : Rpu) :
    (single = true ∨ x.kind.isMeasure = true → r.dispose now single x = r)
    ∧ (single = false → x.kind.isAlarm = true → (r.qAlarm.any fun y => y.kind == x.kind) = true →
        r.dispose now single x = { r with qAlarm := r.qAlarm.map (Report.absorb x) })
    ∧ (single = false → x.kind.isAlarm = true → (r.qAlarm.any fun y => y.kind == x.kind) = false → (r.held.any fun y => y.kind == x.kind) = true →
        r.dispose now single x = { r with held := r.held.map (Report.absorb x) })
    ∧ (single = false → x.kind.isAlarm = true → (r.qAlarm.any fun y => y.kind == x.kind) = false → (r.held.any fun y => y.kind == x.kind) = false →
        x.attempts < r.settings.maxAttempts →
        r.dispose now single x = { r with qAlarm := { x with notBefore := some (now + r.settings.backoff x.attempts) } :: r.qAlarm })
    ∧ (single = false → x.kind.isEvent = true → x.attempts < r.settings.maxAttempts →
        r.dispose now single x = { r with qEvent := { x with notBefore := some (now + r.settings.backoff x.attempts) } :: r.qEvent })
    ∧ (single = false → x.kind.isMeasure = false →
        (x.kind.isAlarm = true → (r.qAlarm.any fun y => y.kind == x.kind) = false ∧ (r.held.any fun y => y.kind == x.kind) = false) →
        r.settings.maxAttempts ≤ x.attempts → r.dispose now single x = { r with held := r.held ++ [x] }) := by
  have alarm : x.kind.isAlarm = true → x.kind.isMeasure = false := by cases x.kind <;> simp [ReportKind.isAlarm, ReportKind.isMeasure]
  have event : x.kind.isEvent = true → x.kind.isMeasure = false ∧ x.kind.isAlarm = false := by
    cases x.kind <;> simp [ReportKind.isAlarm, ReportKind.isMeasure, ReportKind.isEvent]
  unfold Rpu.dispose
  refine ⟨fun gone => ?_, fun multi a q => ?_, fun multi a q h => ?_, fun multi a q h few => ?_, fun multi e few => ?_, fun multi m away many => ?_⟩
  · exact if_pos (by simpa using gone)
  · rw [if_neg (by simp [multi, alarm a]), if_pos (by simp [a, q])]
  · rw [if_neg (by simp [multi, alarm a]), if_neg (by simp [q]), if_pos (by simp [a, h])]
  · rw [if_neg (by simp [multi, alarm a]), if_neg (by simp [q]), if_neg (by simp [h]), if_pos few]
    exact if_pos a
  · obtain ⟨m, a⟩ := event e
    rw [if_neg (by simp [multi, m]), if_neg (by simp [a]), if_neg (by simp [a]), if_pos few]
    exact if_neg (by simp [a])
  · rw [if_neg (by simp [multi, m]), if_neg ?_, if_neg ?_, if_neg (Nat.not_lt.mpr many)]
    · rw [Bool.and_eq_true]
      exact fun ⟨a, h⟩ => by simp [(away a).2] at h
    · rw [Bool.and_eq_true]
      exact fun ⟨a, q⟩ => by simp [(away a).1] at q

/-- An event that leaves the radio's supply and the frame being received as they were leads to its effect. -/
theorem State.leads_supplied {c : Instr} {f : State → State} {v : State} (hp : s.powered = true) (he : exec c s = act f s) (hf : f s = v)
    (radio : v.rpu.radio = s.rpu.radio) (holdoff : v.rpu.holdoff = s.rpu.holdoff) (wait : v.rpu.channelWait = s.rpu.channelWait)
    (partly : v.ports.lPartial = s.ports.lPartial) : s.leads c v := by
  refine State.leads_of hp he ?_
  rw [hf, State.supplyAs, ← radio, ← holdoff, ← wait, ← partly]

/-- The ack timer is over (R144). -/
def State.ackOver (s : State) : State :=
  match s.rpu.ackTimer with
  | some d => (s.reach d).chargeInFlight
  | none => s

theorem exec_ackTimeout (s : State) : exec .ackTimeout s = act State.ackOver s := rfl

theorem State.ackOver_eq {d : Nat} (running : s.rpu.ackTimer = some d) (ok : s.rpu.poolOk) (flight : s.rpu.inFlight = some x) : s.ackOver
    = { (s.reach d).restood with rpu := (s.reach d).restood.rpu.dispose (s.reach d).now s.rpu.singleTrial { x with attempts := satSucc 8 x.attempts } } := by
  have charged := State.chargeInFlight_eq (s := s.reach d) ok flight
  have now : (s.reach d).restood.now = (s.reach d).now := congrArg Clock.running (s.reach d).restood_queues.2.2.2.2
  unfold State.ackOver
  rw [running]
  dsimp only
  rw [charged, now]
  rfl

/-- What a charge changes besides reports, score and standing. -/
theorem State.restood_outside (s : State) : s.restood.ports.lPartial = s.ports.lPartial ∧ s.restood.rpu.radio = s.rpu.radio
    ∧ s.restood.rpu.holdoff = s.rpu.holdoff ∧ s.restood.rpu.channelWait = s.rpu.channelWait := by
  obtain ⟨standing, q, probe, e, -⟩ := State.setScore_rpu (min 255 (s.rpu.score + 8)) { s with rpu := s.rpu.landed }
  have flags : s.restood.ports.unflagged = s.ports.unflagged := by simp [State.restood]
  have lPartial := congrArg Ports.lPartial flags
  refine ⟨lPartial, ?_, ?_, ?_⟩
  all_goals
    unfold State.restood
    rw [e]
    rfl

end

/-- Settles O41: reports as they are created, the ACK by what it finds in flight, the ack timeout by its disposal. -/
theorem reportsAreAcknowledgedOrFail : Obligations.ReportsAreAcknowledgedOrFail := by
  refine ⟨fun s id kind set payload pool => ?_, fun l x => ⟨fun h => ⟨oldest_mem h, oldest_le h⟩, oldest_eq_none⟩, fun station number s hp => ?_,
    fun d x s hp running flight pool => ?_⟩
  · intro isId isSet merge overwrite spare fresh counted room
    have pool : s.rpu.poolOk := pool
    have roomy (made : Rpu → Prop) (h : made s.rpu.evict) : room made := by
      refine ⟨fun few => by rwa [Rpu.evict_few few] at h, fun many => ?_⟩
      obtain ⟨m, e, held⟩ := Rpu.evict_many many
      exact ⟨fun x hx => by rwa [m x hx] at h, fun x hm hx => by rwa [e x hm hx] at h, fun x hm he hx => by rwa [held x hm he hx] at h,
        Rpu.evict_finds pool many⟩
    obtain ⟨number, order⟩ := s.rpu.evict_counters
    refine ⟨fun q => ?_, fun q h => ?_, fun q h => ⟨s.rpu.freeObject, Rpu.freeObject_spec pool, ?_⟩, roomy (fun r => ∃ object, spare object r
        ∧ s.event kind payload = { s with rpu := { counted r with qEvent := r.qEvent ++ [fresh object (.event kind) payload r.lost], lost := 0 } }) ?_,
      fun m => ?_,
      fun m => roomy (fun r => ∃ object, spare object r ∧ s.snapshot set = { s with rpu := { counted r with
        qMeasure := r.qMeasure ++ [fresh object (.measure set) (s.measured set) 0] } }) ?_⟩
    · exact congrArg (fun r : Rpu => ({ s with rpu := r } : State)) (if_pos q)
    · exact congrArg (fun r : Rpu => ({ s with rpu := r } : State)) ((if_neg ((Bool.not_eq_true _).mpr q)).trans (if_pos h))
    · exact congrArg (fun r : Rpu => ({ s with rpu := r } : State))
        ((if_neg ((Bool.not_eq_true _).mpr q)).trans (if_neg ((Bool.not_eq_true _).mpr h)))
    · refine ⟨s.rpu.evict.freeObject, Rpu.freeObject_spec (Rpu.evict_poolOk pool), ?_⟩
      simp only [fresh, ← number, ← order]
      rfl
    · exact congrArg (fun r : Rpu => ({ s with rpu := r } : State)) (if_pos m)
    · refine ⟨s.rpu.evict.freeObject, Rpu.freeObject_spec (Rpu.evict_poolOk pool), ?_⟩
      simp only [fresh, ← number, ← order]
      exact congrArg (fun r : Rpu => ({ s with rpu := r } : State)) (if_neg ((Bool.not_eq_true _).mpr m))
  · intro score standing back freed
    have heard : exec (.ack station number) s
        = act (fun s => if s.rpu.hears && station = s.rpu.settings.address then s.acknowledge number else s) s := rfl
    refine ⟨fun other => State.leads_as hp heard ?_ rfl rfl, fun x hears own flight same => ?_⟩
    · split
      · next takes =>
        obtain ⟨hears, own⟩ : s.rpu.hears = true ∧ station = s.rpu.settings.address := by simpa using takes
        unfold State.acknowledge
        split
        · next x flight =>
          refine if_neg fun same => ?_
          rcases other with h | h | h
          · exact absurd hears (by simp [h])
          · exact h own
          · exact h x flight same
        · rfl
      · rfl
    · have takes : (if (s.rpu.hears && decide (station = s.rpu.settings.address)) = true then s.acknowledge number else s)
          = { State.setScore score { s with rpu := s.rpu.landed } with rpu := (State.setScore score { s with rpu := s.rpu.landed }).rpu.releaseHeld } := by
        rw [if_pos (by simp [hears, own])]
        unfold State.acknowledge
        rw [flight]
        exact if_pos same
      rw [State.setScore_eq] at takes
      refine ⟨fun stays => ?_, fun changes => ?_⟩
      · have level : standingOf s.rpu.settings.warnLevel score = s.rpu.standing := stays
        have level' : standing = standingOf s.rpu.settings.warnLevel score := rfl
        refine State.leads_supplied hp heard (takes.trans ?_) rfl rfl rfl rfl
        rw [if_pos (by exact level)]
        simp only [freed, stays]
        rfl
      · have level : ¬ standingOf s.rpu.settings.warnLevel score = s.rpu.standing := changes
        refine State.leads_supplied hp heard (takes.trans ?_) rfl rfl rfl rfl
        rw [if_neg (by exact level)]
        rfl
  · intro at_ score standing charged restood tries again merge queuedToo heldToo
    have pool : s.rpu.poolOk := pool
    have over_ := State.ackOver_eq running pool flight
    have restood_eq : at_.restood = restood := by
      unfold State.restood
      rw [State.setScore_eq]
      rfl
    obtain ⟨qAlarm, qEvent, held, settings, -⟩ := at_.restood_queues
    obtain ⟨partly, radio, holdoff, wait⟩ := at_.restood_outside
    rw [restood_eq] at over_ qAlarm qEvent held settings partly radio holdoff wait
    have leads (r : Rpu) (h : restood.rpu.dispose at_.now s.rpu.singleTrial { x with attempts := satSucc 8 x.attempts } = r)
        (e : r.radio = restood.rpu.radio ∧ r.holdoff = restood.rpu.holdoff ∧ r.channelWait = restood.rpu.channelWait) :
        s.leads .ackTimeout { restood with rpu := r } := by
      rw [h] at over_
      obtain ⟨r₁, r₂, r₃⟩ := e
      exact State.leads_supplied hp (exec_ackTimeout s) over_ (r₁.trans radio) (r₂.trans holdoff) (r₃.trans wait) partly
    have qAlarm : restood.rpu.qAlarm = s.rpu.qAlarm := qAlarm
    have qEvent : restood.rpu.qEvent = s.rpu.qEvent := qEvent
    have held : restood.rpu.held = s.rpu.held := held
    have settings : restood.rpu.settings = s.rpu.settings := settings
    clear_value restood at_
    let tried : Report := { x with attempts := tries }
    have merge_eq : Report.absorb tried = merge := by
      funext y
      simp only [Report.absorb, merge, beq_iff_eq]
      rfl
    have again_eq : ({ tried with notBefore := some (at_.now + restood.rpu.settings.backoff tries) } : Report) = again := by
      rw [settings]
      rfl
    obtain ⟨gone, queued, waiting, retried, retold, kept⟩ := Rpu.dispose_spec at_.now s.rpu.singleTrial tried restood.rpu
    refine ⟨fun single => ?_, fun multi a q => ?_, fun multi a q h => ?_, fun multi a q h few => ?_, fun multi e few => ?_,
      fun multi m away many => ?_⟩
    · exact leads _ (gone single) ⟨rfl, rfl, rfl⟩
    · exact leads _ ((queued multi a (by rw [qAlarm]; exact q)).trans (by rw [qAlarm, merge_eq])) ⟨rfl, rfl, rfl⟩
    · exact leads _ ((waiting multi a (by rw [qAlarm]; exact q) (by rw [held]; exact h)).trans (by rw [held, merge_eq])) ⟨rfl, rfl, rfl⟩
    · exact leads _ ((retried multi a (by rw [qAlarm]; exact q) (by rw [held]; exact h) (by rw [settings]; exact few)).trans
        (by rw [qAlarm, again_eq])) ⟨rfl, rfl, rfl⟩
    · exact leads _ ((retold multi e (by rw [settings]; exact few)).trans (by rw [qEvent, again_eq])) ⟨rfl, rfl, rfl⟩
    · exact leads _ ((kept multi m (fun a => by rw [qAlarm, held]; exact away a) (by rw [settings]; exact many)).trans (by rw [held])) ⟨rfl, rfl, rfl⟩

end Sys2Proof.Machine
end

section
/-! PROOFS. What the transmitter takes, and the ends of frames and of the channel wait (R141, R143 to R145, R151, R154). -/

namespace Sys2Proof.Machine

/-! ### Objects of the pool stand in one place -/

section
variable {r : Rpu} {x y : Report}

/-- A report waits in a queue or in HELD. -/
def Rpu.waits (x : Report) (r : Rpu) : Prop := x ∈ r.qAlarm ∨ x ∈ r.held ∨ x ∈ r.qEvent ∨ x ∈ r.qMeasure

theorem without_absent {l : List Report} (h : ∀ y ∈ l, x.object ≠ y.object) : without x l = l :=
  List.filter_eq_self.mpr fun y hy => by simpa using (h y hy).symm

/-- The lists of the pool have no object in common. -/
theorem Rpu.apart (ok : r.poolOk) : (∀ x ∈ r.qAlarm, ∀ y ∈ r.qEvent, x.object ≠ y.object) ∧ (∀ x ∈ r.qAlarm, ∀ y ∈ r.qMeasure, x.object ≠ y.object)
    ∧ (∀ x ∈ r.qEvent, ∀ y ∈ r.qMeasure, x.object ≠ y.object)
    ∧ (∀ x ∈ r.qAlarm ++ r.qEvent ++ r.qMeasure, ∀ y ∈ r.held, x.object ≠ y.object) := by
  obtain ⟨-, -, -, -, -, distinct, -⟩ := ok
  rw [Rpu.used, List.map_append, List.map_append, List.map_append, List.map_append] at distinct
  obtain ⟨front, -, held⟩ := List.nodup_append.mp distinct
  obtain ⟨queues, -⟩ := List.nodup_append.mp front
  obtain ⟨pair, -, measures⟩ := List.nodup_append.mp queues
  obtain ⟨-, -, events⟩ := List.nodup_append.mp pair
  have mem {l : List Report} {z : Report} (h : z ∈ l) : z.object ∈ l.map Report.object := List.mem_map_of_mem h
  refine ⟨fun x hx y hy => events _ (mem hx) _ (mem hy), fun x hx y hy => measures _ (List.mem_append_left _ (mem hx)) _ (mem hy),
    fun x hx y hy => measures _ (List.mem_append_right _ (mem hx)) _ (mem hy), fun x hx y hy => held _ (List.mem_append_left _ ?_) _ (mem hy)⟩
  rw [← List.map_append, ← List.map_append]
  exact mem hx

theorem Rpu.takeOut_alarm (ok : r.poolOk) (hx : x ∈ r.qAlarm) : r.takeOut x = { r with qAlarm := without x r.qAlarm } := by
  obtain ⟨events, measures, -, held⟩ := Rpu.apart ok
  rw [Rpu.takeOut, without_absent (events x hx), without_absent (measures x hx), without_absent (held x (by simp [hx]))]

theorem Rpu.takeOut_event (ok : r.poolOk) (hx : x ∈ r.qEvent) : r.takeOut x = { r with qEvent := without x r.qEvent } := by
  obtain ⟨alarms, -, measures, held⟩ := Rpu.apart ok
  rw [Rpu.takeOut, without_absent fun y hy => (alarms y hy x hx).symm, without_absent (measures x hx), without_absent (held x (by simp [hx]))]

theorem Rpu.takeOut_measure (ok : r.poolOk) (hx : x ∈ r.qMeasure) : r.takeOut x = { r with qMeasure := without x r.qMeasure } := by
  obtain ⟨-, alarms, events, held⟩ := Rpu.apart ok
  rw [Rpu.takeOut, without_absent fun y hy => (alarms y hy x hx).symm, without_absent fun y hy => (events y hy x hx).symm,
    without_absent (held x (by simp [hx]))]

/-- An alarm queued or held leaves the queue of alarms and HELD alone. -/
theorem Rpu.takeOut_asked (ok : r.poolOk) (hx : x ∈ r.qAlarm ++ r.held) :
    r.takeOut x = { r with qAlarm := without x r.qAlarm, held := without x r.held } := by
  obtain ⟨events, measures, -, held⟩ := Rpu.apart ok
  rcases List.mem_append.mp hx with hx | hx
  · rw [Rpu.takeOut, without_absent (events x hx), without_absent (measures x hx)]
  · rw [Rpu.takeOut, without_absent (l := r.qEvent) fun y hy => (held y (by simp [hy]) x hx).symm,
      without_absent (l := r.qMeasure) fun y hy => (held y (by simp [hy]) x hx).symm]

/-- An object that waits is found by its number. -/
theorem Rpu.find_waiting (ok : r.poolOk) (hx : r.waits x) : r.find x.object = some x := by
  have mem : x ∈ r.qAlarm ++ r.held ++ r.qEvent ++ r.qMeasure := by
    rcases hx with h | h | h | h <;> simp [h]
  unfold Rpu.find
  cases found : (r.qAlarm ++ r.held ++ r.qEvent ++ r.qMeasure).find? fun y => y.object == x.object with
  | none => exact absurd (List.find?_eq_none.mp found x mem) (by simp)
  | some y =>
    have same : y.object = x.object := by simpa using List.find?_some found
    have used {z : Report} (hz : z ∈ r.qAlarm ++ r.held ++ r.qEvent ++ r.qMeasure) : z ∈ r.used := by
      simp only [List.mem_append] at hz
      simp only [Rpu.used, List.mem_append]
      tauto
    rw [Rpu.object_injective ok (used (List.mem_of_find?_eq_some found)) (used mem) same]

/-- An alarm identity stands once in Q_ALARM and HELD. -/
theorem Rpu.alarm_unique (ok : r.poolOk) {id : AlarmId} (hx : x ∈ r.qAlarm ++ r.held) (hy : y ∈ r.qAlarm ++ r.held) (kx : x.kind = .alarm id)
    (ky : y.kind = .alarm id) : y = x := by
  obtain ⟨-, -, -, -, -, -, -, kinds⟩ := ok
  have alarm {z : Report} (hz : z ∈ r.qAlarm ++ r.held) (kz : z.kind = .alarm id) : z ∈ (r.qAlarm ++ r.held).filter fun w => w.kind.isAlarm :=
    List.mem_filter.mpr ⟨hz, by rw [kz]; rfl⟩
  exact List.inj_on_of_nodup_map kinds (alarm hy ky) (alarm hx kx) (ky.trans kx.symm)

theorem Rpu.find_alarm (ok : r.poolOk) {id : AlarmId} (hx : x ∈ r.qAlarm ++ r.held) (kind : x.kind = .alarm id) :
    (r.qAlarm ++ r.held).find? (fun y => y.kind == .alarm id) = some x := by
  cases found : (r.qAlarm ++ r.held).find? fun y => y.kind == .alarm id with
  | none => exact absurd (List.find?_eq_none.mp found x hx) (by simp [kind])
  | some y => rw [Rpu.alarm_unique ok hx (List.mem_of_find?_eq_some found) kind (by simpa using List.find?_some found)]

/-! ### The choice of R141 -/

theorem Rpu.nextReport_alarm {now : Nat} {tier : Tier} (loud : r.standing ≠ .silent) (h : r.qAlarm.find? (·.eligible now) = some x) :
    r.nextReport now tier = some x := by
  rw [Rpu.nextReport, if_neg loud, h]
  rfl

theorem Rpu.nextReport_event {now : Nat} {tier : Tier} (loud : r.standing ≠ .silent) (none_ : r.qAlarm.find? (·.eligible now) = none)
    (on : tier ≠ .critical) (h : r.qEvent.find? (·.eligible now) = some x) : r.nextReport now tier = some x := by
  rw [Rpu.nextReport, if_neg loud, none_]
  exact (if_neg on).trans (by rw [h]; rfl)

theorem Rpu.nextReport_measure {now : Nat} {tier : Tier} (loud : r.standing ≠ .silent) (none_ : r.qAlarm.find? (·.eligible now) = none)
    (on : tier ≠ .critical) (no : r.qEvent.find? (·.eligible now) = none) :
    r.nextReport now tier = r.qMeasure.find? (·.eligible now) := by
  rw [Rpu.nextReport, if_neg loud, none_]
  exact (if_neg on).trans (by rw [no]; rfl)

theorem Rpu.nextReport_critical {now : Nat} (loud : r.standing ≠ .silent) (none_ : r.qAlarm.find? (·.eligible now) = none) :
    r.nextReport now .critical = none := by
  rw [Rpu.nextReport, if_neg loud, none_]
  rfl

theorem Rpu.nextReport_probe {now : Nat} {tier : Tier} (silent : r.standing = .silent) (expired : r.probe = .expired) :
    r.nextReport now tier = r.probeReport := by
  rw [Rpu.nextReport, if_pos silent, if_pos expired]

theorem Rpu.nextItem_answer {now : Nat} {tier : Tier} (on : tier ≠ .disconnect) {a : Answer} {rest : List Answer} (h : r.answers = a :: rest) :
    r.nextItem now tier = some .answer := by
  rw [Rpu.nextItem, if_neg on, h]
  rfl

theorem Rpu.nextItem_report {now : Nat} {tier : Tier} (on : tier ≠ .disconnect) (quiet : r.answers = []) (idle : r.inFlight = none) :
    r.nextItem now tier = (r.nextReport now tier).map fun x => .report x.object false := by
  rw [Rpu.nextItem, if_neg on, quiet, idle]
  rfl

theorem Rpu.nextItem_flying {now : Nat} {tier : Tier} (on : tier ≠ .disconnect) (quiet : r.answers = []) (flying : r.inFlight ≠ none) :
    r.nextItem now tier = none := by
  rw [Rpu.nextItem, if_neg on, quiet]
  exact if_pos (Option.isSome_iff_ne_none.mpr flying)

theorem Rpu.nextItem_last {now : Nat} (ok : r.poolOk) (waiting : r.lastCall = .waiting) (hx : x ∈ r.qAlarm ++ r.held)
    (kind : x.kind = .alarm .batteryDisconnect) : r.nextItem now .disconnect = some (.report x.object true) := by
  rw [Rpu.nextItem, if_pos rfl, if_pos waiting, Rpu.find_alarm ok hx kind]
  rfl

end

/-! ### A frame that starts (R141, R145) -/

section
variable {s : State} {x : Report} {h : Nat}

theorem State.frameMayStart_eq (idle : s.rpu.tx = none) (clear : s.rpu.carrier = false) (on : s.rpu.radio = .on) (holdoff : s.rpu.holdoff = some h) :
    s.frameMayStart = match (s.reach h).nextItem with
      | some item => (s.reach h).startFrame item
      | none => s := by
  have may : s.rpu.mayStartAt = some h := by
    rw [Rpu.mayStartAt, idle, clear, on, holdoff]
    rfl
  have same : ({ s.reach h with rpu := { (s.reach h).rpu with radio := .on } } : State) = s.reach h := by rw [← on]; rfl
  unfold State.frameMayStart
  rw [may]
  dsimp only
  cases (s.reach h).nextItem with
  | none => rfl
  | some item => exact congrArg (State.startFrame item) same

/-- A report as its frame starts: out of its queue, in flight (R145). -/
theorem State.startFrame_report {disconnect : Bool} (ok : s.rpu.poolOk) (waits : s.rpu.waits x) : s.startFrame (.report x.object disconnect)
    = State.transmit (.report x.object disconnect) (x.radioFrame s.rpu.settings.address) { s with rpu := { s.rpu.takeOut x with
        inFlight := some x, singleTrial := disconnect
        probe := if s.rpu.standing = .silent && !disconnect then s.probeFrom else s.rpu.probe
        lastCall := if disconnect then .sending else s.rpu.lastCall } } := by
  unfold State.startFrame
  dsimp only
  rw [Rpu.find_waiting ok waits]
  rfl

end

/-! ### The channel wait is over (R144) -/

section
variable {s : State} {x : Report}

/-- The RPU with the channel wait stopped. -/
def Rpu.unwaiting (r : Rpu) : Rpu := { r with channelWait := none }

/-- The charge neither reads nor moves the channel wait. -/
theorem State.charge_unwaiting (single : Bool) (x : Report) (s : State) :
    State.charge single x { s with rpu := s.rpu.unwaiting } = { s.charge single x with rpu := (s.charge single x).rpu.unwaiting } := by
  have disposed (now : Nat) (y : Report) (r : Rpu) : r.unwaiting.dispose now single y = (r.dispose now single y).unwaiting := by
    unfold Rpu.dispose Rpu.unwaiting
    dsimp only
    repeat' split
    all_goals rfl
  have scored (n : Nat) (u : State) : State.setScore n { u with rpu := u.rpu.unwaiting } = { u.setScore n with rpu := (u.setScore n).rpu.unwaiting } := by
    rw [State.setScore_eq, State.setScore_eq]
    change (if standingOf u.rpu.settings.warnLevel n = u.rpu.standing then _ else _) = _
    split <;> rfl
  have taken := scored (min 255 (s.rpu.score + 8)) { s with rpu := s.rpu.takeOut x }
  have charged (u : State) : ∀ v : State, v = { u with rpu := u.rpu.unwaiting } →
      ({ v with rpu := v.rpu.dispose v.now single { x with attempts := satSucc 8 x.attempts } } : State)
        = { u with rpu := (u.rpu.dispose u.now single { x with attempts := satSucc 8 x.attempts }).unwaiting } := by
    rintro v rfl
    rw [← disposed]
    rfl
  exact charged _ _ taken

end

section
variable {s : State} {x : Report} {d : Nat}

theorem Rpu.takeOut_takeOut (x : Report) (r : Rpu) : (r.takeOut x).takeOut x = r.takeOut x := by
  simp [Rpu.takeOut, without]

theorem State.charge_takeOut (single : Bool) (x : Report) (s : State) :
    State.charge single x { s with rpu := s.rpu.takeOut x } = State.charge single x s := by
  unfold State.charge
  dsimp only
  rw [Rpu.takeOut_takeOut]
  rfl

/-- The state with the report that a wait would send in flight, its ack timer at the end of the wait. -/
def State.asFlown (x : Report) (d : Nat) (s : State) : State :=
  { s with rpu := { s.rpu.takeOut x with inFlight := some x, ackTimer := some d } }

theorem State.asFlown_ackOver (landed : s.rpu.inFlight = none) (single : s.rpu.singleTrial = false) (untimed : s.rpu.ackTimer = none) :
    (s.asFlown x d).ackOver = State.charge false x (s.reach d) := by
  have lands : ({ (s.asFlown x d).reach d with rpu := ((s.asFlown x d).reach d).rpu.landed } : State)
      = { s.reach d with rpu := (s.reach d).rpu.takeOut x } := by
    unfold Rpu.landed
    rw [← landed, ← single, ← untimed]
    rfl
  rw [← State.charge_takeOut, ← lands, ← single]
  rfl

theorem State.charge_now (single : Bool) (x : Report) (s : State) : (s.charge single x).now = s.now ∧ (s.charge single x).rpu.settings = s.rpu.settings := by
  obtain ⟨standing, q, probe, e, -⟩ := State.setScore_rpu (min 255 (s.rpu.score + 8)) { s with rpu := s.rpu.takeOut x }
  have rest := State.setScore_rest (min 255 (s.rpu.score + 8)) { s with rpu := s.rpu.takeOut x }
  have clock := congrArg (fun u : State => u.clock.running) rest
  have disposed (now : Nat) (y : Report) (r : Rpu) : (r.dispose now single y).settings = r.settings := by
    unfold Rpu.dispose
    dsimp only
    repeat' split
    all_goals rfl
  refine ⟨clock, ?_⟩
  unfold State.charge
  dsimp only
  rw [disposed, e]
  rfl

/-- The channel wait is over (R144). -/
def State.channelOver (s : State) : State :=
  match s.rpu.channelWait with
  | some d => (s.reach d).channelWaitOver
  | none => s

theorem exec_channelWaitTimeout (s : State) : exec .channelWaitTimeout s = act State.channelOver s := rfl

theorem State.channelWaitOver_report {disconnect : Bool} (ok : s.rpu.poolOk) (waits : s.rpu.waits x)
    (e : s.nextItem = some (.report x.object disconnect)) : s.channelWaitOver
    = if s.rpu.standing = .silent && s.bcu.tier != .disconnect then
        { s.charge false x with rpu := { (s.charge false x).rpu.unwaiting with probe := (s.charge false x).probeFrom } }
      else { s.charge false x with rpu := (s.charge false x).rpu.unwaiting } := by
  have charged := State.charge_unwaiting false x s
  unfold State.channelWaitOver
  dsimp only
  rw [e]
  dsimp only
  rw [Rpu.find_waiting ok waits]
  dsimp only
  change (if _ then ({ State.charge false x { s with rpu := s.rpu.unwaiting } with rpu :=
    { (State.charge false x { s with rpu := s.rpu.unwaiting }).rpu with probe := (State.charge false x { s with rpu := s.rpu.unwaiting }).probeFrom } } : State)
    else State.charge false x { s with rpu := s.rpu.unwaiting }) = _
  rw [charged]
  rfl

/-- With writes waiting, R119 goes on at the store. -/
theorem State.radioDone_busy {limit : Nat} (last : s.bcu.shutdown = .radio limit) (queue : s.nvs.queue ≠ []) :
    s.radioDone = s.withBcu fun b => { b with shutdown := .store (s.now + 5000000) } := by
  unfold State.radioDone
  rw [last]
  exact if_neg (by simp [State.withBcu, queue])

/-- The end of a wait for a report acts as an ack timeout of it does. -/
theorem State.channelOver_charges {disconnect : Bool} (hp : s.powered = true) (ok : s.rpu.poolOk) (running : s.rpu.channelWait = some d)
    (landed : s.rpu.inFlight = none) (single : s.rpu.singleTrial = false) (untimed : s.rpu.ackTimer = none) (waits : s.rpu.waits x)
    (e : (s.reach d).nextItem = some (.report x.object disconnect)) :
    ∃ t u, exec .channelWaitTimeout s = .next t ∧ exec .ackTimeout (s.asFlown x d) = .next u
      ∧ (s.rpu.standing ≠ .silent ∨ s.bcu.tier = .disconnect → t.supplyAs s = u.supplyAs s)
      ∧ (s.rpu.standing = .silent → s.bcu.tier ≠ .disconnect → t.supplyAs s = { u.supplyAs s with rpu := { (u.supplyAs s).rpu with
          probe := .running ((s.reach d).now + s.rpu.settings.probeInterval * second) } }) := by
  have over_ := State.channelWaitOver_report (s := s.reach d) ok waits e
  have waited : exec .channelWaitTimeout s = .next (s.reach d).channelWaitOver.rejudge := by
    rw [exec_channelWaitTimeout, act_powered hp, State.channelOver, running]
  have timed : exec .ackTimeout (s.asFlown x d) = .next (State.charge false x (s.reach d)).rejudge := by
    rw [exec_ackTimeout, act_powered (by exact hp), State.asFlown_ackOver landed single untimed]
  obtain ⟨now, settings⟩ := State.charge_now false x (s.reach d)
  refine ⟨_, _, waited, timed, fun calm => ?_, fun silent on => ?_⟩
  · rw [State.rejudge_supplyAs, State.rejudge_supplyAs, over_, if_neg ?_]
    · rfl
    · rcases calm with h | h <;> simp [h]
  · rw [State.rejudge_supplyAs, State.rejudge_supplyAs, over_, if_pos (by simp [silent, on]), State.probeFrom, now, settings]
    rfl

end

/-- Settles O42: the choice by what there is to send, the ends of frames by what was sent. -/
theorem framesStartAndEnd : Obligations.FramesStartAndEnd := by
  refine ⟨fun h s hp pool idle clear on holdoff tier => ?_, fun h x s hp pool idle clear on holdoff tier waiting landed mem kind => ?_,
    fun d x s hp pool running landed single untimed => ?_, fun bytes ends d s hp => ?_⟩
  · intro at_ sent eligible flown frameOf
    have pool : s.rpu.poolOk := pool
    have started := State.frameMayStart_eq idle clear on holdoff
    have leads (v : State) (e : s.frameMayStart = v) : s.leads .transmitFrameStart (v.supplyAs s) :=
      State.leads_of (f := State.frameMayStart) hp (by rfl) (by rw [e])
    have none_ (e : at_.nextItem = none) : s.leads .transmitFrameStart s := by
      have same : s.frameMayStart = s := started.trans (by rw [e])
      have led := leads s same
      exact led
    have chosen (x : Report) (waits : s.rpu.waits x) (r : Rpu) (e : at_.nextItem = some (.report x.object false)) (taken : s.rpu.takeOut x = r)
        (probe : Probe) (probes : (if s.rpu.standing = .silent && !false then at_.probeFrom else s.rpu.probe) = probe) : s.leads .transmitFrameStart
          ((State.transmit (.report x.object false) (frameOf x)
            { at_ with rpu := { r with inFlight := some x, singleTrial := false, probe := probe, lastCall := s.rpu.lastCall } }).supplyAs s) := by
      refine leads _ (started.trans ?_)
      rw [e]
      dsimp only
      rw [State.startFrame_report (s := s.reach h) pool waits, ← taken, ← probes]
      rfl
    have report (quiet : s.rpu.answers = []) (free : s.rpu.inFlight = none) : at_.nextItem
        = (s.rpu.nextReport at_.now s.bcu.tier).map fun x => .report x.object false := Rpu.nextItem_report tier quiet free
    have loudly (loud : s.rpu.standing ≠ .silent) : (if s.rpu.standing = .silent && !false then at_.probeFrom else s.rpu.probe) = s.rpu.probe :=
      if_neg (by simp [loud])
    refine ⟨fun a rest ready => ?_, fun x quiet free loud first => ?_, fun x quiet free loud no on first => ?_,
      fun x quiet free loud no on no' first => ?_, fun quiet free loud no rest => ?_, fun quiet flying => ?_, fun x quiet free silent expired first => ?_⟩
    · have e : at_.nextItem = some .answer := Rpu.nextItem_answer tier ready
      have led := leads _ (started.trans (by rw [e]))
      dsimp only [State.startFrame, State.reach_rpu] at led
      rw [ready] at led
      exact led
    · have e := report quiet free
      rw [Rpu.nextReport_alarm loud first] at e
      have mem := List.mem_of_find?_eq_some first
      exact chosen x (.inl mem) _ e (Rpu.takeOut_alarm pool mem) _ (loudly loud)
    · have e := report quiet free
      rw [Rpu.nextReport_event loud no on first] at e
      have mem := List.mem_of_find?_eq_some first
      exact chosen x (.inr (.inr (.inl mem))) _ e (Rpu.takeOut_event pool mem) _ (loudly loud)
    · have e := report quiet free
      rw [Rpu.nextReport_measure loud no on no'] at e
      have mem := List.mem_of_find?_eq_some first
      exact chosen x (.inr (.inr (.inr mem))) _ (e.trans (congrArg (Option.map fun x : Report => TxItem.report x.object false) first)) (Rpu.takeOut_measure pool mem) _ (loudly loud)
    · refine none_ ((report quiet free).trans ?_)
      by_cases critical : s.bcu.tier = .critical
      · rw [critical, Rpu.nextReport_critical loud no]
        rfl
      · obtain ⟨no', last⟩ := rest.resolve_left critical
        rw [Rpu.nextReport_measure loud no critical no']
        exact congrArg (Option.map fun x : Report => TxItem.report x.object false) last
    · exact none_ (Rpu.nextItem_flying tier quiet flying)
    · have e := report quiet free
      rw [Rpu.nextReport_probe silent expired, Rpu.probeReport, first] at e
      have mem : x ∈ s.rpu.qAlarm ++ s.rpu.held := (List.mem_filter.mp (oldest_mem first)).1
      have waits : s.rpu.waits x := (List.mem_append.mp mem).elim .inl fun h => .inr (.inl h)
      exact chosen x waits _ e (Rpu.takeOut_asked pool mem) _ (if_pos (by simp [silent]))
  · intro at_ bytes
    have pool : s.rpu.poolOk := pool
    have waits : s.rpu.waits x := (List.mem_append.mp mem).elim .inl fun h => .inr (.inl h)
    have started := State.frameMayStart_eq idle clear on holdoff
    have e : (s.reach h).nextItem = some (.report x.object true) := by
      unfold State.nextItem
      rw [State.reach_bcu, tier]
      exact Rpu.nextItem_last pool waiting mem kind
    rw [e] at started
    dsimp only at started
    rw [State.startFrame_report (s := s.reach h) pool waits, State.reach_rpu, Rpu.takeOut_asked pool mem] at started
    refine State.leads_of (f := State.frameMayStart) hp (by rfl) ?_
    rw [started]
    have probe : (if s.rpu.standing = .silent && !true then (s.reach h).probeFrom else s.rpu.probe) = s.rpu.probe := if_neg (by simp)
    rw [probe]
    rfl
  · intro at_ eligible asFlown
    have pool : s.rpu.poolOk := pool
    have charges {x : Report} (disconnect : Bool) := State.channelOver_charges (x := x) (disconnect := disconnect) hp pool running landed single untimed
    have report (quiet : s.rpu.answers = []) (on : s.bcu.tier ≠ .disconnect) : at_.nextItem
        = (s.rpu.nextReport at_.now s.bcu.tier).map fun x => .report x.object false := Rpu.nextItem_report on quiet landed
    refine ⟨fun quiet on loud first => ?_, fun off waiting mem kind => ?_, fun quiet on silent expired first => ?_⟩
    · have chosen : s.rpu.waits x ∧ s.rpu.nextReport at_.now s.bcu.tier = some x := by
        rcases first with first | ⟨calm, no, first | ⟨no', first⟩⟩
        · exact ⟨.inl (List.mem_of_find?_eq_some first), Rpu.nextReport_alarm loud first⟩
        · exact ⟨.inr (.inr (.inl (List.mem_of_find?_eq_some first))), Rpu.nextReport_event loud no calm first⟩
        · exact ⟨.inr (.inr (.inr (List.mem_of_find?_eq_some first))), (Rpu.nextReport_measure loud no calm no').trans first⟩
      obtain ⟨t, u, waited, timed, same, -⟩ := charges false chosen.1 ((report quiet on).trans (by rw [chosen.2]; rfl))
      exact ⟨t, u, waited, timed, same (.inl loud)⟩
    · have waits : s.rpu.waits x := (List.mem_append.mp mem).elim .inl fun h => .inr (.inl h)
      have e : (s.reach d).nextItem = some (.report x.object true) := by
        unfold State.nextItem
        rw [State.reach_bcu, off]
        exact Rpu.nextItem_last pool waiting mem kind
      obtain ⟨t, u, waited, timed, same, -⟩ := charges true waits e
      exact ⟨t, u, waited, timed, same (.inr off)⟩
    · have mem : x ∈ s.rpu.qAlarm ++ s.rpu.held := (List.mem_filter.mp (oldest_mem first)).1
      have waits : s.rpu.waits x := (List.mem_append.mp mem).elim .inl fun h => .inr (.inl h)
      have e := report quiet on
      rw [Rpu.nextReport_probe silent expired, Rpu.probeReport, first] at e
      obtain ⟨t, u, waited, timed, -, probes⟩ := charges false waits e
      exact ⟨t, u, waited, timed, probes silent on⟩
  · intro ended
    have over_ (tx : Transmission) (e : s.rpu.tx = some tx) (v : State) (h : s.frameOver tx = v) : s.leads .frameEnd (v.supplyAs s) :=
      State.leads_of (f := fun s => match s.rpu.tx with
        | some tx => s.frameOver tx
        | none => s) hp (by rfl) (by rw [e]; exact congrArg (State.supplyAs · s) h)
    have timed (object : Nat) (x : Report) (flight : s.rpu.inFlight = some x) (same : x.object = object) :
        (if s.rpu.inFlight.any fun x => x.object == object then
          { ended with rpu := { ended.rpu with ackTimer := some (ended.now + ended.rpu.settings.ackTimeout * ms) } } else ended : State)
        = { ended with rpu := { ended.rpu with ackTimer := some (ended.now + s.rpu.settings.ackTimeout * 1000) } } :=
      if_pos (by simp [flight, same])
    refine ⟨fun sent => ?_, fun x sent flight => ?_, fun x limit sent flight last queue => ?_, fun a rest running on ready => ?_⟩
    · exact over_ _ sent ended rfl
    · exact over_ _ sent _ (timed x.object x flight rfl)
    · refine over_ _ sent { ended with
          rpu := { ended.rpu with ackTimer := some (ended.now + s.rpu.settings.ackTimeout * 1000), lastCall := .over }
          bcu := { s.bcu with shutdown := .store (ended.now + 5000000) } } ?_
      have started := congrArg (fun u : State => State.radioDone { u with rpu := { u.rpu with lastCall := .over } }) (timed x.object x flight rfl)
      exact started.trans (State.radioDone_busy last queue)
    · have e : (s.reach d).nextItem = some .answer := Rpu.nextItem_answer on ready
      have over_ : s.channelOver = { (s.reach d) with rpu := { s.rpu with channelWait := none, answers := rest } } := by
        unfold State.channelOver State.channelWaitOver
        rw [running]
        dsimp only
        rw [e]
        dsimp only [State.reach_rpu]
        rw [ready]
        rfl
      refine State.leads_of hp (exec_channelWaitTimeout s) ?_
      rw [over_]
      rfl

end Sys2Proof.Machine
end

section
/-! PROOFS. The timers of the radio, and the snapshots of the measurement timer (R139 to R153). -/

namespace Sys2Proof.Machine

section

variable {s : State} {r : Rpu} {set : MeasureSet}

/-! ### Snapshots -/

/-- A snapshot of a set that has none queued joins Q_MEASURE. -/
theorem Rpu.snapshot_joins (now : Stamp) (payload : List Byte) (few : r.eventOrMeasureCount < 24)
    (new : .measure set ∉ r.qMeasure.map Report.kind) :
    r.snapshot now set payload = { r.count with qMeasure := r.qMeasure ++ [r.fresh now (.measure set) payload 0] } := by
  unfold Rpu.snapshot
  rw [if_neg (by simpa using new), Rpu.evict_few few]

/-- Alarms waiting, the report in flight and the score stay, and no report comes to be held. -/
theorem Rpu.snapshot_stays (now : Stamp) (payload : List Byte) (r : Rpu) :
    (r.snapshot now set payload).qAlarm = r.qAlarm ∧ ∀ x ∈ (r.snapshot now set payload).held, x ∈ r.held := by
  have evicted : r.evict.qAlarm = r.qAlarm := by
    unfold Rpu.evict
    repeat' split
    all_goals rfl
  obtain ⟨-, -, -, -, held⟩ := r.evict_sublists
  unfold Rpu.snapshot
  split
  · exact ⟨rfl, fun _ => id⟩
  · exact ⟨evicted, fun _ h => held.subset h⟩

theorem State.takeSnapshots_stays (s : State) :
    s.takeSnapshots.rpu.qAlarm = s.rpu.qAlarm ∧ ∀ x ∈ s.takeSnapshots.rpu.held, x ∈ s.rpu.held := by
  have one (set : MeasureSet) (s : State) : (s.snapshot set).rpu.qAlarm = s.rpu.qAlarm ∧ ∀ x ∈ (s.snapshot set).rpu.held, x ∈ s.rpu.held :=
    Rpu.snapshot_stays _ _ _
  unfold State.takeSnapshots
  split
  · obtain ⟨a, ha⟩ := one .load s
    obtain ⟨b, hb⟩ := one .voltage (s.snapshot .load)
    obtain ⟨c, hc⟩ := one .battery ((s.snapshot .load).snapshot .voltage)
    obtain ⟨d, hd⟩ := one .energy (((s.snapshot .load).snapshot .voltage).snapshot .battery)
    exact ⟨d.trans (c.trans (b.trans a)), fun x h => ha x (hb x (hc x (hd x h)))⟩
  · exact ⟨rfl, fun _ => id⟩

/-- From the state `s`, snapshots of the sets, and nothing else at the pool. -/
structure State.snapped (s : State) (sets : List MeasureSet) (t : State) : Prop where
  kinds : t.rpu.qMeasure.map Report.kind = sets.map .measure
  payloads : t.rpu.qMeasure.map Report.payload = sets.map s.measured
  times : t.rpu.qMeasure.map Report.created = sets.map fun _ => s.stamp
  events : t.rpu.qEvent = s.rpu.qEvent
  number : t.rpu.nextNumber = if sets = [] then s.rpu.nextNumber else (s.rpu.nextNumber + sets.length) % 65536
  count : t.rpu.eventOrMeasureCount = s.rpu.eventOrMeasureCount + sets.length
  stamped : t.stamp = s.stamp
  reads : ∀ set, t.measured set = s.measured set

theorem State.snapped.snapshot {sets : List MeasureSet} {t : State} (h : s.snapped sets t) (new : set ∉ sets)
    (few : s.rpu.eventOrMeasureCount + sets.length < 24) : s.snapped (sets ++ [set]) (t.snapshot set) := by
  obtain ⟨kinds, payloads, times, events, number, count, stamped, reads⟩ := h
  have joins : (t.snapshot set).rpu
      = { t.rpu.count with qMeasure := t.rpu.qMeasure ++ [t.rpu.fresh t.stamp (.measure set) (t.measured set) 0] } := by
    refine Rpu.snapshot_joins t.stamp (t.measured set) (count ▸ few) ?_
    rw [kinds]
    simpa using new
  refine ⟨?_, ?_, ?_, ?_, ?_, ?_, stamped, reads⟩
  · rw [joins]
    simp [kinds, Rpu.fresh]
  · rw [joins]
    simp [payloads, reads, Rpu.fresh]
  · rw [joins]
    simp [times, stamped, Rpu.fresh]
  · rw [joins]
    exact events
  · rw [joins]
    change (t.rpu.nextNumber + 1) % 65536 = _
    rw [if_neg (List.append_ne_nil_of_right_ne_nil _ (List.cons_ne_nil _ _)), number, List.length_append, List.length_singleton]
    split
    · next empty => rw [empty, List.length_nil, Nat.zero_add]
    · omega
  · rw [joins, List.length_append, List.length_singleton, ← Nat.add_assoc, ← count]
    simp [Rpu.eventOrMeasureCount, Rpu.used, Rpu.count, Rpu.fresh, ReportKind.isAlarm]
    omega

/-- With room for them, the four snapshots of Table 7-5 (R139). -/
theorem State.takeSnapshots_good (good : s.rpu.standing = .good) (tier : s.bcu.tier = .normal) (none_ : s.rpu.qMeasure = [])
    (few : s.rpu.eventOrMeasureCount ≤ 20) : s.snapped [.load, .voltage, .battery, .energy] s.takeSnapshots := by
  have start : s.snapped [] s := by
    constructor <;> simp [none_]
  have four := (((start.snapshot (set := .load) (by decide) (by simp; omega)).snapshot (set := .voltage) (by decide) (by simp; omega)).snapshot
    (set := .battery) (by decide) (by simp; omega)).snapshot (set := .energy) (by decide) (by simp; omega)
  rw [State.takeSnapshots, if_pos (by simp [good, tier])]
  exact four

theorem State.takeSnapshots_not (bad : s.rpu.standing ≠ .good ∨ s.bcu.tier ≠ .normal) : s.takeSnapshots = s := by
  rw [State.takeSnapshots, if_neg]
  rcases bad with h | h <;> simp [h]

/-! ### The measurement timer -/

/-- The measurement timer is over (R139). -/
def State.measurementOver (s : State) : State :=
  match s.rpu.measureTimer with
  | some d =>
    { (s.reach d).takeSnapshots with rpu := { (s.reach d).takeSnapshots.rpu with
        measureTimer := some ((s.reach d).takeSnapshots.now + (s.reach d).takeSnapshots.rpu.settings.measureInterval * second) } }
  | none => s

theorem State.measurementOver_eq {d : Nat} (running : s.rpu.measureTimer = some d) : s.measurementOver
    = { (s.reach d).takeSnapshots with rpu := { (s.reach d).takeSnapshots.rpu with
        measureTimer := some ((s.reach d).takeSnapshots.now + (s.reach d).takeSnapshots.rpu.settings.measureInterval * second) } } := by
  rw [State.measurementOver, running]

theorem exec_measurementTimerExpiry (s : State) : exec .measurementTimerExpiry s = act State.measurementOver s := rfl

/-- A carrier-detect that changes with the supply on moves the holdoff alone (R143). -/
theorem Rpu.carrierTo_changes {active : Bool} (on : r.radio = .on) (changes : active ≠ r.carrier) (now : Nat) : r.carrierTo active now
    = { r with carrier := active, holdoff := if active then none else some (now + (50 + 20 * r.settings.slot) * 1000) } := by
  unfold Rpu.carrierTo
  rw [if_neg changes]
  have supplied : ({ r with carrier := active } : Rpu).supplied = true := by simp [Rpu.supplied, on]
  dsimp only
  rw [if_pos supplied]
  rfl

/-- In NORMAL and LOW a supply that is on stays, and its holdoff with it. -/
theorem State.rejudge_on {t : State} (on : t.rpu.radio = .on) (tiers : t.bcu.tier = .normal ∨ t.bcu.tier = .low) :
    t.rejudge.rpu.radio = .on ∧ t.rejudge.rpu.holdoff = t.rpu.holdoff := by
  have wanted : t.rpu.wanted t.now t.bcu.tier = true := by rcases tiers with h | h <;> rw [h] <;> rfl
  have stays : t.rpu.rejudgeRadio t.now t.bcu.tier = t.rpu := by
    rw [Rpu.rejudgeRadio, if_pos wanted, if_pos (by simp [Rpu.supplied, on])]
  change (t.rpu.rejudgeRadio t.now t.bcu.tier).radio = .on ∧ (t.rpu.rejudgeRadio t.now t.bcu.tier).holdoff = _
  rw [stays]
  exact ⟨on, rfl⟩

end

/-- Settles O43, timer by timer. -/
theorem radioTimersRun : Obligations.RadioTimersRun := by
  intro d e active number s hp current voltage
  refine ⟨fun running => ?_, fun running => ?_, fun warming tier => ?_, ?_, fun t on tier changes ht => ?_, fun waiting => ?_,
    fun opened => ?_, fun x only same time => ?_⟩
  · let at_ := s.reach d
    let snapped := at_.takeSnapshots
    have run : exec .measurementTimerExpiry s = .next s.measurementOver.rejudge := by rw [exec_measurementTimerExpiry, act_powered hp]
    obtain ⟨clock, lmu, oeb, sqc, mdr, au, bcu, rpu, oru, ports, nvs, -, -, -⟩ := at_.takeSnapshots_frame
    obtain ⟨qAlarm, held⟩ := at_.takeSnapshots_stays
    have settings : at_.takeSnapshots.rpu.settings = s.rpu.settings := by
      have x := congrArg Rpu.settings rpu
      exact x
    have flight : at_.takeSnapshots.rpu.inFlight = s.rpu.inFlight := by
      have x := congrArg Rpu.inFlight rpu
      exact x
    have score : at_.takeSnapshots.rpu.score = s.rpu.score := by
      have x := congrArg Rpu.score rpu
      exact x
    have taken := State.measurementOver_eq running
    have portsAs : (s.measurementOver.rejudge.supplyAs s).ports = s.ports := by
      rw [State.rejudge_supplyAs, taken]
      change ({ snapped.ports with lPartial := s.ports.lPartial } : Ports) = s.ports
      rw [ports]
      rfl
    have reads {α : Type} (f : State → α) (hf : ∀ u v : State, f (u.supplyAs v) = f u) : f s.measurementOver.rejudge
        = f { snapped with rpu := { snapped.rpu with measureTimer := some (snapped.now + snapped.rpu.settings.measureInterval * second) } } :=
      (State.rejudge_reads f hf _).trans (congrArg f taken)
    have timer := reads (·.rpu.measureTimer) fun _ _ => rfl
    have alarms := reads (·.rpu.qAlarm) fun _ _ => rfl
    have flying := reads (·.rpu.inFlight) fun _ _ => rfl
    have scored := reads (·.rpu.score) fun _ _ => rfl
    have holds := reads (·.rpu.held) fun _ _ => rfl
    have queued := reads (·.rpu.qMeasure) fun _ _ => rfl
    have waiting := reads (·.rpu.qEvent) fun _ _ => rfl
    have counted := reads (·.rpu.nextNumber) fun _ _ => rfl
    have timed := reads (·.clock) fun _ _ => rfl
    refine ⟨_, run, timed.trans clock, timer.trans ?_, alarms.trans qAlarm, flying.trans flight, scored.trans score,
      fun x h => held x (holds ▸ h), (reads (·.mdr) fun _ _ => rfl).trans mdr, (reads (·.sqc) fun _ _ => rfl).trans sqc,
      (reads (·.au) fun _ _ => rfl).trans au, (reads (·.bcu) fun _ _ => rfl).trans bcu, (reads (·.oru) fun _ _ => rfl).trans oru,
      (reads (·.nvs) fun _ _ => rfl).trans nvs, portsAs, fun bad => ?_, fun good tier none_ few => ?_⟩
    · change some (snapped.now + snapped.rpu.settings.measureInterval * second) = _
      rw [settings]
      exact congrArg (fun c : Clock => some (c.running + s.rpu.settings.measureInterval * 1000000)) timed.symm
    · have same : snapped = at_ := State.takeSnapshots_not bad
      rw [queued, waiting, counted, same]
      exact ⟨rfl, rfl, rfl⟩
    · obtain ⟨kinds, payloads, times, events, number, -, -, -⟩ := State.takeSnapshots_good (s := at_) good tier none_ few
      have stamp : s.measurementOver.rejudge.stamp = at_.stamp := congrArg Clock.stamp (timed.trans clock)
      rw [queued, waiting, counted, stamp]
      exact ⟨kinds, payloads, times, events, number⟩
  · refine State.leads_of (f := fun s => match s.rpu.probe with
      | .running d => { s.reach d with rpu := { (s.reach d).rpu with probe := .expired } }
      | _ => s) hp (by rfl) ?_
    rw [running]
    rfl
  · let warmed : State := { s.reach d with rpu := { (s.reach d).rpu with radio := .on } }
    have run : exec .radioWarmupEnd s = .next warmed.rejudge := by
      refine (act_powered (f := fun s => match s.rpu.radio with
        | .warming e => { s.reach e with rpu := { (s.reach e).rpu with radio := .on } }
        | _ => s) hp).trans ?_
      rw [warming]
    refine ⟨_, run, (State.rejudge_on (t := warmed) rfl tier).1, ?_⟩
    rw [State.rejudge_supplyAs]
    change (s.reach d).supplyAs s = s.reach d
    rfl
  · refine State.leads_of (f := fun s => { s with rpu := s.rpu.carrierTo active s.now }) hp (by rfl) ?_
    unfold Rpu.carrierTo
    split
    · next same =>
      rw [same]
      rfl
    · rfl
  · have run : exec (.carrierDetectChange active) s = .next { s with rpu := s.rpu.carrierTo active s.now }.rejudge :=
      act_powered (f := fun s => { s with rpu := s.rpu.carrierTo active s.now }) hp
    obtain rfl : _ = t := by
      have x := run.symm.trans ht
      injection x
    rw [Rpu.carrierTo_changes on changes]
    exact State.rejudge_on (t := { s with rpu := _ }) on tier
  · refine State.leads_of (f := fun s => match s.rpu.listen with
      | .waiting t => { s.reach t with rpu := { (s.reach t).rpu with listen := .opened (t + listenLength) (t + listenPeriod) } }
      | _ => s) hp (by rfl) ?_
    rw [waiting]
    rfl
  · refine State.leads_of (f := fun s => match s.rpu.listen with
      | .opened closes next => { s.reach closes with rpu := { (s.reach closes).rpu with listen := .waiting next } }
      | _ => s) hp (by rfl) ?_
    rw [opened]
    rfl
  · refine State.leads_of (f := fun s => match s.rpu.notBeforeOf number with
      | some t => s.reach t
      | none => s) hp (by rfl) ?_
    have named : s.rpu.notBeforeOf number = some d := by simp [Rpu.notBeforeOf, only, same, time]
    rw [named]
    rfl

end Sys2Proof.Machine
end

section
/-! PROOFS. The radio's supply, its holdoff, the channel wait and the frame being received: what the commands leave of them before they are
judged anew (R143, R144, R152). -/

namespace Sys2Proof.Machine

section

variable {s₀ s t : State}

/-! ### The wires of the radio -/

/-- What the RPU judges anew after every command is as it was. -/
structure Wires (s t : State) : Prop where
  radio : t.rpu.radio = s.rpu.radio
  holdoff : t.rpu.holdoff = s.rpu.holdoff
  wait : t.rpu.channelWait = s.rpu.channelWait
  partly : t.ports.lPartial = s.ports.lPartial

theorem Wires.refl (s : State) : Wires s s := ⟨rfl, rfl, rfl, rfl⟩

theorem Wires.same (h : Wires s₀ s) (hr : (t.rpu.radio, t.rpu.holdoff, t.rpu.channelWait) = (s.rpu.radio, s.rpu.holdoff, s.rpu.channelWait))
    (hp : t.ports.lPartial = s.ports.lPartial) : Wires s₀ t := by
  simp only [Prod.mk.injEq] at hr
  obtain ⟨radio, holdoff, wait⟩ := hr
  exact ⟨radio.trans h.radio, holdoff.trans h.holdoff, wait.trans h.wait, hp.trans h.partly⟩

/-- Reports, failed attempts, occurrences and answers leave the wires. -/
theorem Wires.elsewhere (h : Wires s₀ s) (hr : t.rpu.unpooled.channel = s.rpu.unpooled.channel)
    (hp : t.ports.unflagged.unanswered = s.ports.unflagged.unanswered) : Wires s₀ t := by
  refine h.same ?_ ?_
  · have x := congrArg (fun r : Rpu => (r.radio, r.holdoff, r.channelWait)) hr
    exact x
  · have x := congrArg Ports.lPartial hp
    exact x

theorem Wires.answer (h : Wires s₀ s) (port : Port) (a : Answer) : Wires s₀ (s.answer port a) := by
  cases port <;> exact h.same rfl rfl

theorem Wires.reach (h : Wires s₀ s) (time : Nat) : Wires s₀ (s.reach time) := h.same rfl rfl

/-- A command that keeps the wires, with the judgement after it. -/
theorem Wires.act {f : State → State} (hp : s.powered = true) (hf : Wires s (f s)) (ht : Machine.act f s = .next t) :
    ∃ u : State, t = u.rejudge ∧ Wires s u := by
  rw [act_powered hp] at ht
  cases ht
  exact ⟨_, rfl, hf⟩

theorem Wires.restand (h : Wires s₀ s) : Wires s₀ s.restand := h.elsewhere (by simp) (by simp)

theorem Wires.requestClose (h : Wires s₀ s) (o : Origin) : Wires s₀ (s.requestClose o).1 := h.elsewhere (by simp) (by simp)

theorem Wires.placePanelClose (h : Wires s₀ s) : Wires s₀ s.placePanelClose := (h.requestClose .p).same rfl rfl

/-! ### Requests -/

theorem Wires.respond {kind : RequestKind} {src : Source} (ref : Byte) {owner : Port → State → Taken}
    (ho : Wires s (owner (sourcePort src) s).state) : Wires s (Machine.respond kind src ref owner s) := by
  refine respond_closed ref (Wires.refl s) ?_ (fun _ _ _ k => k.answer _ _) fun _ => ho
  cases src <;> exact (Wires.refl s).same rfl rfl

theorem exec_request_wires {c : Instr} (hc : c.request.isSome = true) (hp : s.powered = true) (h : exec c s = .next t) :
    ∃ u : State, t = u.rejudge ∧ Wires s u := by
  have k := Wires.refl s
  cases c <;> first | (cases hc; done) | refine Wires.act hp (Wires.respond _ ?_) h
  case statusRead | tagList | readAttributes | readTestHistory => exact k
  case clearAlerts =>
    dsimp only
    split <;> exact k.same (by rfl) (by rfl)
  case trip => exact k.elsewhere (by simp [Taken.code]) (by simp [Taken.code])
  case close =>
    dsimp only
    split
    · exact k
    · have started (n : Nat) : Wires s (s.withAu fun a => { a with panel := .running n }) := k.same rfl rfl
      split
      · exact ((started _).answer _ _).placePanelClose
      · exact started _
  case selectClose =>
    dsimp only
    split
    · exact k
    · exact k.same (by rfl) (by rfl)
  case operateClose =>
    dsimp only
    split
    · exact Wires.requestClose (k.same (by rfl) (by rfl)) _
    · exact k
  case cancel =>
    repeat' split
    all_goals first | exact k | exact k.same (by rfl) (by rfl)
  case tagPlace =>
    have placed (slot : Nat) (kind : TagKind) (origin : Port) (crew : Nat) (note : List Byte) :
        Wires s (s.placeTag slot kind origin crew note) := k.elsewhere (by simp [State.placeTag]) (by simp [State.placeTag])
    repeat' split
    all_goals first | exact k | exact placed _ _ _ _ _
  case tagRemove =>
    have removed (slot : Nat) : Wires s (s.removeTag slot) := k.elsewhere (by simp [State.removeTag]) (by simp [State.removeTag])
    repeat' split
    all_goals first | exact k | exact removed _
  case recloseBlock =>
    repeat' split
    all_goals first | exact k | exact k.same (by rfl) (by rfl)
  case settingsWrite =>
    dsimp only
    repeat' split
    all_goals first | exact k | exact k.elsewhere (by simp [Taken.done]) (by simp [Taken.done])
  case settingsRead =>
    repeat' split
    all_goals exact k
  case curveLoad =>
    repeat' split
    all_goals first | exact k | exact k.same (by rfl) (by rfl)
  case mechanismSettings =>
    split
    · exact k
    · exact k.same (by rfl) (by rfl)
  case mechanismFaultReset =>
    dsimp only
    repeat' split
    all_goals first | exact k | exact k.same (by rfl) (by rfl)
  case batterySettings src ref fields =>
    have set (b : BatterySettings) : Wires s (((s.withStored fun r => { r with settings := b }).place .battery).judgeVerdict) :=
      k.elsewhere (by simp) (by simp)
    dsimp only
    split
    · exact k
    · split
      · exact (set (batteryOf fields)).same rfl rfl
      · split
        · exact (set (batteryOf fields)).elsewhere (by simp [Taken.code]) (by simp [Taken.code])
        · exact set _
  case batteryTest =>
    have started (mode : TestMode) (port : Option Port) : Wires s (s.startTest mode port) := k.elsewhere (by simp) (by simp)
    have hold {u : State} (h : Wires s u) (port : Port) (ref : Byte) : Wires s (u.beginHold port ref) := by
      cases port <;> exact h.same rfl rfl
    repeat' split
    all_goals first
      | exact k
      | exact hold (started _ _) _ _
      | exact started _ _
      | unfold Taken.precondition; split <;> exact k
  case abortTest =>
    split
    · exact k.elsewhere (by simp [Taken.code]) (by simp [Taken.code])
    · exact k
  case batteryReplaced =>
    have replaced : Wires s s.replaceBattery := k.elsewhere (by simp [State.replaceBattery]) (by simp [State.replaceBattery])
    repeat' split
    all_goals first | exact k | exact replaced
  case readRecord =>
    split <;> exact k
  case readCounters =>
    have limited (n : Nat) : Wires s (s.setWearLimit n) := k.elsewhere (by simp [State.setWearLimit]) (by simp [State.setWearLimit])
    dsimp only
    repeat' split
    all_goals first | exact k | exact limited _
  case timeSet =>
    dsimp only
    split
    · exact k
    · exact k.same (by rfl) (by rfl)
  case trackerSources =>
    have listed (l : TrackerSettings) : Wires s ((s.newSources l).place .tracker) :=
      k.elsewhere (by simp [State.newSources]) (by simp [State.newSources])
    split
    · exact k
    · exact listed _
  case linkSettings =>
    have linked (l : LinkSettings) : Wires s (s.newLink l) := by
      refine Wires.restand ?_
      exact k.same (by rfl) (by rfl)
    split
    · exact k
    · exact linked _

/-! ### Events -/

/-- What keeping and taking a reading keep, a contact command keeps. -/
theorem Contact.hear_closed {α : Type} [DecidableEq α] {k : Contact α} {P : State → Prop} (h : P s)
    (reach : ∀ time t, P t → P (t.reach time)) (keep : ∀ x t, P t → P (k.keep x t)) (take : ∀ a t, P t → P (k.take a t)) (reading : α) :
    P (k.hear reading s) := by
  have settle {t : State} (ht : P t) : P (k.settle t) := by
    unfold Contact.settle
    split
    · split
      · exact take _ _ (keep _ _ ht)
      · exact ht
    · exact ht
  unfold Contact.hear
  split
  · split
    · exact settle (reach _ _ h)
    · exact keep _ _ (settle h)
  · exact keep _ _ (settle h)

theorem Wires.hear {α : Type} [DecidableEq α] {k : Contact α} (keep : ∀ x t, Wires s t → Wires s (k.keep x t))
    (take : ∀ a t, Wires s t → Wires s (k.take a t)) (reading : α) : Wires s (k.hear reading s) :=
  Contact.hear_closed (Wires.refl s) (fun time _ ht => ht.reach time) keep take reading

theorem Wires.keyReading (h : Wires s₀ s) (mode : ControlMode) : Wires s₀ (s.keyReading mode) := by
  unfold State.keyReading
  repeat' split
  all_goals exact h.elsewhere (by simp) (by simp)

theorem Wires.buttonReading (h : Wires s₀ s) (pressed : Bool) : Wires s₀ (s.buttonReading pressed) := by
  unfold State.buttonReading
  dsimp only
  split
  · exact h.elsewhere (by simp) (by simp)
  · exact h.same rfl rfl

theorem Wires.takeUpdate (h : Wires s₀ s) (r : UpdateResult) : Wires s₀ (s.takeUpdate r) := h.elsewhere (by simp) (by simp)

theorem Wires.withBcu (h : Wires s₀ s) (f : Bcu → Bcu) : Wires s₀ (s.withBcu f) := h.same rfl rfl

theorem Wires.setTier (h : Wires s₀ s) (tier : Tier) : Wires s₀ (s.setTier tier) := h.elsewhere (by simp) (by simp)

theorem Wires.measureBattery (h : Wires s₀ s) (v : Nat) (i temperature : Int) : Wires s₀ (s.measureBattery v i temperature) :=
  h.elsewhere (by simp) (by simp)

theorem Wires.measureCapacitor (h : Wires s₀ s) (vcap : Nat) : Wires s₀ (s.measureCapacitor vcap) := h.elsewhere (by simp) (by simp)

theorem Wires.lmu (h : Wires s₀ s) (l : Lmu) : Wires s₀ { s with lmu := l } := h.same rfl rfl

theorem Wires.keepLock (h : Wires s₀ s) : Wires s₀ s.keepLock := h.elsewhere (by simp) (by simp)

theorem Wires.radioDone (h : Wires s₀ s) : Wires s₀ s.radioDone := h.elsewhere (by simp) (by simp)

/-- The end of a frame (R145). -/
theorem Wires.frameOver (h : Wires s₀ s) (tx : Transmission) : Wires s₀ (s.frameOver tx) := by
  unfold State.frameOver
  dsimp only
  split
  · exact h.same rfl rfl
  · split
    · refine Wires.radioDone (Wires.same h ?_ ?_) <;> split <;> rfl
    · split <;> exact h.same rfl rfl

/-- A write that is over, where the power stays (R185). -/
theorem Wires.writeOver (h : Wires s₀ s) (content : Content) (on : (s.writeOver content).powered = true) : Wires s₀ (s.writeOver content) := by
  unfold State.writeOver at on ⊢
  dsimp only at on ⊢
  split at on
  · cases on
  · next goes =>
    rw [if_neg goes]
    exact h.elsewhere (by simp) (by simp)

theorem Wires.writeComplete (h : Wires s₀ s) (readBack : ReadBack) (on : (s.writeComplete readBack).powered = true) :
    Wires s₀ (s.writeComplete readBack) := by
  revert on
  unfold State.writeComplete
  split
  · exact fun _ => h
  · split
    · exact Wires.writeOver (h.same (by rfl) (by rfl)) _
    · split
      · exact fun _ => h.same (by rfl) (by rfl)
      · exact Wires.writeOver (h.elsewhere (by simp) (by simp)) _

/-- The commands that carry bytes, of which each frame they complete is a command of its own, and a power-on. -/
def receives : Instr → Bool
  | .badFrame _ _ | .frameGapTimeout _ _ | .uartFramingError _ _ | .lineBreak _ _ | .powerOn _ => true
  | _ => false

/-- The commands that act on the wires themselves. -/
def rewires : Instr → Bool
  | .resetInAsserted | .carrierDetectChange _ | .radioWarmupEnd | .transmitFrameStart | .channelWaitTimeout => true
  | _ => false

theorem exec_event_wires {c : Instr} (hc : c.request = none) (bytes : receives c = false) (own : rewires c = false) (hp : s.powered = true)
    (ht : t.powered = true) (h : exec c s = .next t) : ∃ u : State, t = u.rejudge ∧ Wires s u := by
  have k := Wires.refl s
  cases c <;> first | (cases hc; done) | (cases bytes; done) | (cases own; done) | dsimp only [exec] at h
  case answerRead n =>
    refine Wires.act hp ?_ h
    unfold State.readAnswer
    split <;> exact k.same rfl rfl
  case pAnswerSend =>
    refine Wires.act hp ?_ h
    unfold State.sendAnswer
    split
    · exact k.same rfl rfl
    · exact k
  case ack station number =>
    refine Wires.act hp ?_ h
    split
    · exact k.elsewhere (by simp) (by simp)
    · exact k
  case resetInReleased => exact Wires.act (f := fun s => { s with ports := { s.ports with resetIn := false } }) hp (k.same rfl rfl) h
  case measurementUpdate r =>
    refine Wires.act hp ?_ h
    have measured : Wires s ((s.reach (s.lmu.lastUpdate + s.lmu.interval)).measureLine r) := k.elsewhere (by simp) (by simp)
    exact Wires.takeUpdate (measured.same (by rfl) (by rfl)) _
  case sourceCycleComplete c length =>
    exact Wires.act (f := (·.cycleComplete c length)) hp (k.elsewhere (by simp [State.cycleComplete]) (by simp [State.cycleComplete])) h
  case noCrossingTimeout c =>
    refine Wires.act (f := (·.crossingLost c)) hp ?_ h
    dsimp only [State.crossingLost]
    split
    · exact k
    · exact Wires.keepLock (Wires.lmu (k.reach _) _)
  case sourceLockQualified =>
    refine Wires.act hp ?_ h
    unfold State.lockQualified
    repeat' split
    all_goals first | exact k | exact k.elsewhere (by simp) (by simp)
  case holdoverTimerExpiry =>
    refine Wires.act hp ?_ h
    unfold State.holdoverOver
    split
    · exact k.elsewhere (by simp) (by simp)
    · exact k
  case capacitorMeasurement v =>
    exact Wires.act hp ((k.reach _).measureCapacitor v) h
  case lowEnergyWatchExpiry =>
    refine Wires.act hp ?_ h
    split
    · exact k.elsewhere (by simp) (by simp)
    · exact k
  case poleIndicationChange c => exact Wires.act hp (k.elsewhere (by simp) (by simp)) h
  case tripPulseEnd => exact Wires.act hp (k.elsewhere (by simp) (by simp)) h
  case tripSettleExpiry => exact Wires.act hp (k.elsewhere (by simp) (by simp)) h
  case retripSettleExpiry => exact Wires.act hp (k.elsewhere (by simp) (by simp)) h
  case closePulseEnd => exact Wires.act hp (k.elsewhere (by simp) (by simp)) h
  case closeSettleExpiry => exact Wires.act hp (k.elsewhere (by simp) (by simp)) h
  case invalidWatchExpiry => exact Wires.act hp (k.elsewhere (by simp) (by simp)) h
  case mixedWatchExpiry => exact Wires.act hp (k.elsewhere (by simp) (by simp)) h
  case recloseIntervalExpiry =>
    refine Wires.act hp ?_ h
    unfold State.intervalOver
    split
    · exact k.elsewhere (by simp) (by simp)
    · exact k
  case energyWaitExpiry =>
    refine Wires.act hp ?_ h
    unfold State.energyWaitOver
    split
    · exact k.elsewhere (by simp) (by simp)
    · exact k
  case reclaimExpiry =>
    refine Wires.act hp ?_ h
    unfold State.reclaimOver
    split
    · exact k.elsewhere (by simp) (by simp)
    · exact k
  case controlKeyChange reading => exact Wires.act hp (Wires.hear (k := controlKey) (fun _ _ ht => ht.same (by rfl) (by rfl)) (fun _ _ ht => ht.keyReading _) reading) h
  case supervisorKeyChange held =>
    exact Wires.act hp (Wires.hear (k := supervisorKey) (fun _ _ ht => ht.same (by rfl) (by rfl)) (fun _ _ ht => ht.same (by rfl) (by rfl)) held) h
  case handleLockChange pulled =>
    exact Wires.act hp (Wires.hear (k := handleLock) (fun _ _ ht => ht.same (by rfl) (by rfl)) (fun _ _ ht => ht.same (by rfl) (by rfl)) pulled) h
  case tripPushbutton =>
    exact Wires.act hp (Wires.hear (k := pushbutton) (fun _ _ ht => ht.same (by rfl) (by rfl)) (fun _ _ ht => ht.buttonReading _) true) h
  case tripPushbuttonRelease =>
    exact Wires.act hp (Wires.hear (k := pushbutton) (fun _ _ ht => ht.same (by rfl) (by rfl)) (fun _ _ ht => ht.buttonReading _) false) h
  case selectionExpiry =>
    refine Wires.act hp ?_ h
    split
    · exact k.same rfl rfl
    · exact k
  case panelCloseDelayExpiry =>
    refine Wires.act hp ?_ h
    split
    · exact (k.reach _).placePanelClose
    · exact k
  case acStateChange present =>
    exact Wires.act hp (Wires.hear (k := acSense) (fun _ _ ht => ht.same (by rfl) (by rfl)) (fun _ _ ht => ht.elsewhere (by simp [acSense]) (by simp [acSense])) present) h
  case batteryMeasurement v i temperature => exact Wires.act hp ((k.reach _).measureBattery v i temperature) h
  case absorbTimeout =>
    refine Wires.act hp ?_ h
    split
    · exact (k.reach _).withBcu _
    · exact k
  case floatDropExpiry =>
    refine Wires.act hp ?_ h
    split
    · exact (k.reach _).withBcu _
    · exact k
  case disconnectTimerExpiry =>
    refine Wires.act hp ?_ h
    split
    · exact (k.reach _).setTier _
    · exact k
  case shutdownRadioTimeout =>
    refine Wires.act hp ?_ h
    unfold State.radioGivenUp
    split
    · exact Wires.radioDone (k.same (by rfl) (by rfl))
    · exact k
  case shutdownStoreTimeout =>
    refine Wires.act hp ?_ h
    split
    · exact k.elsewhere (by simp) (by simp)
    · exact k
  case dayIncrease => exact Wires.act hp (k.elsewhere (by simp) (by simp)) h
  case scheduledTestAttempt =>
    refine Wires.act hp ?_ h
    split
    · exact k.elsewhere (by simp) (by simp)
    · exact k
  case restTimerExpiry v =>
    refine Wires.act hp ?_ h
    split
    · exact k.elsewhere (by simp) (by simp)
    · exact k
  case loadTimerExpiry v i =>
    refine Wires.act hp ?_ h
    split
    · exact k.elsewhere (by simp) (by simp)
    · exact k
  case suspensionTimerExpiry =>
    refine Wires.act hp ?_ h
    split
    · exact k.elsewhere (by simp) (by simp)
    · exact k
  case floatWindowComplete =>
    refine Wires.act hp ?_ h
    split
    · exact k.elsewhere (by simp) (by simp)
    · exact k
  case hotHourComplete =>
    refine Wires.act hp ?_ h
    split
    · exact k.elsewhere (by simp) (by simp)
    · exact k
  case measurementTimerExpiry =>
    refine Wires.act hp ?_ h
    split
    · exact (k.elsewhere (t := (s.reach _).takeSnapshots) (by simp) (by simp)).same rfl rfl
    · exact k
  case frameEnd =>
    refine Wires.act hp ?_ h
    split
    · exact k.frameOver _
    · exact k
  case ackTimeout =>
    refine Wires.act hp ?_ h
    split
    · exact k.elsewhere (by simp) (by simp)
    · exact k
  case probeTimerExpiry =>
    refine Wires.act hp ?_ h
    split
    · exact k.same rfl rfl
    · exact k
  case listenWindowOpen =>
    refine Wires.act hp ?_ h
    split
    · exact k.same rfl rfl
    · exact k
  case listenWindowClose =>
    refine Wires.act hp ?_ h
    split
    · exact k.same rfl rfl
    · exact k
  case storeWriteComplete readBack =>
    cases h
    rw [if_pos hp] at ht ⊢
    dsimp only at ht ⊢
    split at ht
    · next on =>
      rw [if_pos on]
      exact ⟨_, rfl, k.writeComplete readBack on⟩
    · next off => exact absurd ht off
  case notBeforeTimeReached number =>
    refine Wires.act hp ?_ h
    split
    · exact k.reach _
    · exact k
  case powerLoss =>
    cases h
    rw [if_pos hp] at ht
    cases ht

/-- Every command ends with the judgement of the radio, and all but those that carry bytes or rewire the radio keep its wires until then. -/
theorem exec_wires {c : Instr} (bytes : receives c = false) (own : rewires c = false) (hp : s.powered = true) (ht : t.powered = true)
    (h : exec c s = .next t) : ∃ u : State, t = u.rejudge ∧ Wires s u := by
  cases hc : c.request with
  | some r => exact exec_request_wires (by rw [hc]; rfl) hp h
  | none => exact exec_event_wires hc bytes own hp ht h

theorem act_judged {f : State → State} (hp : s.powered = true) (h : act f s = .next t) : ∃ u : State, t = u.rejudge := by
  rw [act_powered hp] at h
  cases h
  exact ⟨_, rfl⟩

theorem exec_judged {c : Instr} (hp : s.powered = true) (ht : t.powered = true) (h : exec c s = .next t) : ∃ u : State, t = u.rejudge := by
  cases bytes : receives c with
  | true =>
    cases c <;> first | (cases bytes; done) | dsimp only [exec] at h
    case powerOn contacts =>
      cases h
      exact ⟨_, rfl⟩
    all_goals exact act_judged hp h
  | false =>
    cases own : rewires c with
    | true =>
      cases c <;> first | (cases own; done) | dsimp only [exec] at h
      all_goals exact act_judged hp h
    | false =>
      obtain ⟨u, e, -⟩ := exec_wires bytes own hp ht h
      exact ⟨u, e⟩

/-! ### What the judgement after a command makes of the wires -/

/-- The supply is wanted (R152), read as the judgement leaves the state. -/
theorem State.wanted_rejudge (s : State) : s.rejudge.rpu.wanted s.rejudge.now s.rejudge.bcu.tier = s.rpu.wanted s.now s.bcu.tier :=
  State.rejudge_reads (fun t => t.rpu.wanted t.now t.bcu.tier) (fun _ _ => rfl) s

theorem State.nextItem_rejudge (s : State) : s.rejudge.nextItem = s.nextItem := State.rejudge_reads (·.nextItem) (fun _ _ => rfl) s

theorem State.rejudge_now (s : State) : s.rejudge.now = s.now := rfl

theorem State.rejudge_tx (s : State) : s.rejudge.rpu.tx = s.rpu.tx := State.rejudge_reads (·.rpu.tx) (fun _ _ => rfl) s

/-- The four outcomes of R152: the supply goes on, comes on, finishes its frame, or is off. -/
theorem State.rejudge_radio (s : State) :
    (s.rpu.wanted s.now s.bcu.tier = true → s.rpu.radio ≠ .off → s.rejudge.rpu.radio = s.rpu.radio ∧ s.rejudge.rpu.holdoff = s.rpu.holdoff)
    ∧ (s.rpu.wanted s.now s.bcu.tier = true → s.rpu.radio = .off →
        s.rejudge.rpu.radio = .warming (s.now + 500000) ∧ s.rejudge.rpu.holdoff = s.rpu.holdoffFrom s.now)
    ∧ (s.rpu.wanted s.now s.bcu.tier = false → s.rpu.radio ≠ .off → s.rpu.tx ≠ none →
        s.rejudge.rpu.radio = s.rpu.radio ∧ s.rejudge.rpu.holdoff = s.rpu.holdoff)
    ∧ (s.rpu.wanted s.now s.bcu.tier = false → s.rpu.radio = .off ∨ s.rpu.tx = none → s.rejudge.rpu.radio = .off) := by
  have radio : s.rejudge.rpu.radio = (s.rpu.rejudgeRadio s.now s.bcu.tier).radio := rfl
  have holdoff : s.rejudge.rpu.holdoff = (s.rpu.rejudgeRadio s.now s.bcu.tier).holdoff := rfl
  rw [radio, holdoff]
  unfold Rpu.rejudgeRadio
  refine ⟨fun w on => ?_, fun w off => ?_, fun w on tx => ?_, fun w off => ?_⟩
  · rw [if_pos w, if_pos (by simp [Rpu.supplied, on])]
    exact ⟨rfl, rfl⟩
  · rw [if_pos w, if_neg (by simp [Rpu.supplied, off])]
    exact ⟨rfl, rfl⟩
  · rw [if_neg (by simp [w]), if_pos (by simp [Rpu.supplied, on, Option.isSome_iff_ne_none, tx])]
    exact ⟨rfl, rfl⟩
  · rw [if_neg (by simp [w]), if_neg]
    rcases off with off | off <;> simp [Rpu.supplied, off]

/-- A supply that stays on stays as it is, with its holdoff. -/
theorem State.rejudge_live (live : s.rpu.radio ≠ .off) (on : s.rejudge.rpu.radio ≠ .off) :
    s.rejudge.rpu.radio = s.rpu.radio ∧ s.rejudge.rpu.holdoff = s.rpu.holdoff := by
  obtain ⟨stays, -, finishes, ends⟩ := s.rejudge_radio
  cases w : s.rpu.wanted s.now s.bcu.tier with
  | true => exact stays w live
  | false =>
    by_cases idle : s.rpu.tx = none
    · exact absurd (ends w (.inr idle)) on
    · exact finishes w live idle

theorem State.holdoffFrom_rejudge (s : State) : s.rejudge.rpu.holdoffFrom s.rejudge.now = s.rpu.holdoffFrom s.now :=
  State.rejudge_reads (fun t => t.rpu.holdoffFrom t.now) (fun _ _ => rfl) s

/-- The channel wait runs as R144 says. -/
theorem State.rejudge_wait (s : State) : s.rejudge.rpu.channelWait
    = if s.rejudge.rpu.radio = .on ∧ s.rejudge.rpu.tx = none ∧ s.rejudge.nextItem.isSome = true then
        some (s.rpu.channelWait.getD (s.now + 10000000)) else none := by
  have judged : s.rejudge.rpu.channelWait = if (s.rejudge.rpu.radio = .on && s.rejudge.rpu.tx.isNone && s.rejudge.nextItem.isSome) = true then
      some ((s.rpu.rejudgeRadio s.now s.bcu.tier).channelWait.getD (s.now + channelWaitLimit)) else none := by
    have found : (Rpu.nextItem s.now s.bcu.tier (s.rpu.rejudgeRadio s.now s.bcu.tier)).isSome = s.rejudge.nextItem.isSome := rfl
    rw [← found]
    rfl
  have kept : (s.rpu.rejudgeRadio s.now s.bcu.tier).channelWait = s.rpu.channelWait := by
    unfold Rpu.rejudgeRadio
    repeat' split
    all_goals rfl
  rw [judged, kept]
  simp only [Bool.and_eq_true, decide_eq_true_eq, Option.isNone_iff_eq_none, and_assoc]
  rfl

/-! ### The commands that rewire the radio -/

/-- What a command that carries no bytes leaves of the wires before they are judged. -/
structure Wired (c : Instr) (s u : State) : Prop where
  partly : c ≠ .resetInAsserted → u.ports.lPartial = s.ports.lPartial
  supplied : u.rpu.radio = .off ↔ s.rpu.radio = .off
  radio : c ≠ .radioWarmupEnd → c ≠ .transmitFrameStart → u.rpu.radio = s.rpu.radio
  holdoff : (∀ active, c ≠ .carrierDetectChange active) → u.rpu.holdoff = s.rpu.holdoff
  carrier : ∀ active, c = .carrierDetectChange active → s.rpu.radio ≠ .off →
    u.rpu.holdoff = if active = s.rpu.carrier then s.rpu.holdoff else u.rpu.holdoffFrom u.now
  wait : c ≠ .channelWaitTimeout → u.rpu.tx = none → u.rpu.channelWait = s.rpu.channelWait
  over_ : c = .channelWaitTimeout → u.rpu.channelWait = none

theorem Wires.wired {c : Instr} (h : Wires s t) (own : rewires c = false) : Wired c s t where
  partly _ := h.partly
  supplied := by rw [h.radio]
  radio _ _ := h.radio
  holdoff _ := h.holdoff
  carrier active e := by rw [e] at own; cases own
  wait _ _ := h.wait
  over_ e := by rw [e] at own; cases own

/-- A frame that starts is being sent; one that does not leaves the state. -/
theorem State.startFrame_wires (item : TxItem) (s : State) : s.startFrame item = s ∨ (s.startFrame item).rpu.tx ≠ none
    ∧ (s.startFrame item).rpu.radio = s.rpu.radio ∧ (s.startFrame item).rpu.holdoff = s.rpu.holdoff
    ∧ (s.startFrame item).ports = s.ports := by
  unfold State.startFrame
  split
  · split
    · exact .inr ⟨by simp [State.transmit], rfl, rfl, rfl⟩
    · exact .inl rfl
  · split
    · exact .inr ⟨by simp [State.transmit], rfl, rfl, rfl⟩
    · exact .inl rfl

theorem State.frameMayStart_wired (s : State) : Wired .transmitFrameStart s s.frameMayStart := by
  have still : Wired .transmitFrameStart s s := ⟨fun _ => rfl, Iff.rfl, fun _ _ => rfl, fun _ => rfl, nofun, fun _ _ => rfl, nofun⟩
  unfold State.frameMayStart
  split
  · next time may =>
    have on : s.rpu.radio ≠ .off := by
      intro off
      unfold Rpu.mayStartAt at may
      rw [off] at may
      split at may <;> cases may
    dsimp only
    split
    · next item _ =>
      rcases State.startFrame_wires item { s.reach time with rpu := { (s.reach time).rpu with radio := .on } } with e | ⟨tx, radio, holdoff, ports⟩
      · have e' : State.startFrame item { s.reach time with rpu := { (s.reach time).rpu with radio := .on } } = _ := e
        rw [e']
        exact ⟨fun _ => rfl, ⟨nofun, fun off => absurd off on⟩, fun _ not_ => absurd rfl not_, fun _ => rfl, nofun, fun _ _ => rfl, nofun⟩
      · exact ⟨fun _ => congrArg Ports.lPartial ports, ⟨fun off => absurd (radio.symm.trans off) nofun, fun off => absurd off on⟩,
          fun _ not_ => absurd rfl not_, fun _ => holdoff, nofun, fun _ none_ => absurd none_ tx, nofun⟩
    · exact still
  · exact still

theorem State.channelOver_wired (s : State) : Wired .channelWaitTimeout s s.channelOver := by
  unfold State.channelOver
  split
  · next d running =>
    have cleared : Wires { s.reach d with rpu := { s.rpu with channelWait := none } } (s.reach d).channelWaitOver := by
      have k := Wires.refl { s.reach d with rpu := { s.rpu with channelWait := none } }
      have charged (x : Report) : Wires { s.reach d with rpu := { s.rpu with channelWait := none } }
          (State.charge false x { s.reach d with rpu := { s.rpu with channelWait := none } }) := k.elsewhere (by simp) (by simp)
      unfold State.channelWaitOver
      dsimp only
      split
      · exact k.same rfl rfl
      · split
        · split
          · exact (charged _).same rfl rfl
          · exact charged _
        · exact k
      · exact k
    exact ⟨fun _ => cleared.partly, by rw [cleared.radio], fun _ _ => cleared.radio, fun _ => cleared.holdoff, nofun, fun not_ => absurd rfl not_,
      fun _ => cleared.wait⟩
  · next absent =>
    exact ⟨fun _ => rfl, Iff.rfl, fun _ _ => rfl, fun _ => rfl, nofun, fun not_ => absurd rfl not_, fun _ => absent⟩

/-- What the judgement finds after a command that carries no bytes. -/
theorem exec_wired {c : Instr} (bytes : receives c = false) (hp : s.powered = true) (ht : t.powered = true) (h : exec c s = .next t) :
    ∃ u : State, t = u.rejudge ∧ Wired c s u := by
  cases own : rewires c with
  | false =>
    obtain ⟨u, e, k⟩ := exec_wires bytes own hp ht h
    exact ⟨u, e, k.wired own⟩
  | true =>
    have ran {f : State → State} (h : act f s = .next t) (k : Wired c s (f s)) : ∃ u : State, t = u.rejudge ∧ Wired c s u := by
      rw [act_powered hp] at h
      cases h
      exact ⟨_, rfl, k⟩
    cases c <;> first | (cases own; done) | dsimp only [exec] at h
    case resetInAsserted =>
      refine ran h ?_
      split <;> exact ⟨fun not_ => absurd rfl not_, Iff.rfl, fun _ _ => rfl, fun _ => rfl, nofun, fun _ _ => rfl, nofun⟩
    case transmitFrameStart => exact ran h s.frameMayStart_wired
    case channelWaitTimeout => exact ran h s.channelOver_wired
    case radioWarmupEnd =>
      refine ran h ?_
      split
      · next e warming =>
        exact ⟨fun _ => rfl, ⟨nofun, fun off => absurd (warming.symm.trans off) nofun⟩, fun not_ => absurd rfl not_, fun _ => rfl, nofun,
          fun _ _ => rfl, nofun⟩
      · exact ⟨fun _ => rfl, Iff.rfl, fun not_ => absurd rfl not_, fun _ => rfl, nofun, fun _ _ => rfl, nofun⟩
    case carrierDetectChange active =>
      refine ran (f := fun s => { s with rpu := s.rpu.carrierTo active s.now }) h ?_
      unfold Rpu.carrierTo
      dsimp only
      split
      · next same =>
        exact ⟨fun _ => rfl, Iff.rfl, fun _ _ => rfl, fun not_ => absurd rfl (not_ _), fun _ e _ => by cases e; exact (if_pos same).symm, fun _ _ => rfl, nofun⟩
      · next changes =>
        refine ⟨fun _ => rfl, Iff.rfl, fun _ _ => rfl, fun not_ => absurd rfl (not_ _), fun _ e on => ?_, fun _ _ => rfl, nofun⟩
        cases e
        rw [if_neg changes]
        exact if_pos (by simpa [Rpu.supplied] using on)

/-! ### What is wanted and what is sent, in the statement's terms -/

theorem oldest_isSome (l : List Report) : (oldest l).isSome = l.any fun _ => true := by
  cases h : oldest l with
  | none => rw [oldest_eq_none.mp h]; rfl
  | some x =>
    cases l with
    | nil => cases h
    | cons => rfl

theorem Rpu.probeReport_isSome (r : Rpu) : r.probeReport.isSome = (r.qAlarm ++ r.held).any fun x => x.kind.isAlarm := by
  rw [Rpu.probeReport, oldest_isSome, List.any_filter]
  simp

theorem isSome_orElse {α : Type} (a b : Option α) : (a.orElse fun _ => b).isSome = (a.isSome || b.isSome) := by cases a <;> rfl

/-- Steps 2 to 4 of R141 find a report. -/
theorem Rpu.nextReport_isSome (now : Nat) (tier : Tier) (r : Rpu) : (r.nextReport now tier).isSome
    = if r.standing = .silent then r.probe == .expired && (r.qAlarm ++ r.held).any fun x => x.kind.isAlarm
      else r.qAlarm.any (·.eligible now) || (tier != .critical && (r.qEvent.any (·.eligible now) || r.qMeasure.any (·.eligible now))) := by
  unfold Rpu.nextReport
  split
  · rw [← r.probeReport_isSome]
    split
    · next expired => simp [expired]
    · next running => simp [running]
  · rw [isSome_orElse, List.isSome_find?]
    split
    · next critical => simp [critical]
    · next rich =>
      have more : (tier != .critical) = true := bne_iff_ne.mpr rich
      rw [isSome_orElse, List.isSome_find?, List.isSome_find?, more, Bool.true_and]

/-- The choice of R141 finds an item. -/
theorem Rpu.nextItem_isSome (now : Nat) (tier : Tier) (r : Rpu) : (r.nextItem now tier).isSome
    = if tier = .disconnect then r.lastCall == .waiting && (r.qAlarm ++ r.held).any fun x => x.kind == .alarm .batteryDisconnect
      else !r.answers.isEmpty || (r.inFlight.isNone && (r.nextReport now tier).isSome) := by
  unfold Rpu.nextItem
  split
  · split
    · next waiting => rw [Option.isSome_map, List.isSome_find?, waiting]; rfl
    · next quiet => simp [quiet]
  · split
    · next answers => simp [answers]
    · next none_ =>
      split
      · next flying =>
        cases flight : r.inFlight with
        | none => rw [flight] at flying; cases flying
        | some x => simpa using none_
      · next idle =>
        rw [Option.isSome_map]
        cases flight : r.inFlight with
        | none => simp_all
        | some x => rw [flight] at idle; exact absurd rfl idle

/-- In CRITICAL the supply is on for a report in flight, an answer, a listen window, or something to send. -/
theorem Rpu.wanted_critical (now : Nat) (r : Rpu) : r.wanted now .critical
    = (r.inFlight.isSome || !r.answers.isEmpty || (match r.listen with | .opened _ _ => true | _ => false)
      || (r.standing != .silent && r.qAlarm.any (·.eligible now))
      || (r.standing == .silent && r.probe == .expired && (r.qAlarm ++ r.held).any fun x => x.kind.isAlarm)) := by
  have last : (if r.standing = .silent then (r.probe = .expired && r.probeReport.isSome : Bool) else r.qAlarm.any (·.eligible now))
      = ((r.standing != .silent && r.qAlarm.any (·.eligible now))
        || (r.standing == .silent && r.probe == .expired && (r.qAlarm ++ r.held).any fun x => x.kind.isAlarm)) := by
    rw [r.probeReport_isSome]
    split
    · next silent => simp [silent]; rfl
    · next loud =>
      have not_ : (r.standing != .silent) = true := bne_iff_ne.mpr loud
      have never : (r.standing == .silent) = false := beq_eq_false_iff_ne.mpr loud
      rw [not_, never, Bool.true_and, Bool.false_and, Bool.false_and, Bool.or_false]
  refine Eq.trans ?_ (Bool.or_assoc _ _ _).symm
  rw [← last]
  rfl

end

/-- Settles O44: the judgement after a command decides from what the command leaves of the wires. -/
theorem radioSupplyFollowsTheTier : Obligations.RadioSupplyFollowsTheTier := by
  intro c s t h hp ht critical wanted due reports toSend waits holdoff receiving
  have wanted_eq : wanted = t.rpu.wanted t.now t.bcu.tier := by
    have critical_eq : critical = t.rpu.wanted t.now .critical := (Rpu.wanted_critical t.now t.rpu).symm
    simp only [wanted]
    rw [critical_eq]
    generalize t.bcu.tier = tier
    cases tier <;> rfl
  have toSend_eq : toSend = t.nextItem.isSome := by
    have reports_eq : reports = (t.rpu.nextReport t.now t.bcu.tier).isSome := (Rpu.nextReport_isSome t.now t.bcu.tier t.rpu).symm
    simp only [toSend]
    rw [reports_eq, State.nextItem, Rpu.nextItem_isSome]
    generalize t.bcu.tier = tier
    cases tier <;> rfl
  have holdoff_eq : holdoff = t.rpu.holdoffFrom t.now := rfl
  have waits_iff : waits ↔ t.rpu.radio = .on ∧ t.rpu.tx = none ∧ t.nextItem.isSome = true := by rw [← toSend_eq]
  have bytes : ¬ receiving → receives c = false := by
    intro none_
    cases e : receives c with
    | false => rfl
    | true =>
      refine absurd ?_ none_
      cases c <;> first | (cases e; done) | skip
      case badFrame port bytes => exact ⟨port, .p, bytes, none, .inl rfl⟩
      case powerOn contacts => exact ⟨.c, .p, [], contacts, .inr (.inr (.inr (.inr rfl)))⟩
      case frameGapTimeout stream bytes => exact ⟨.c, stream, bytes, none, .inr (.inl rfl)⟩
      case lineBreak stream bytes => exact ⟨.c, stream, bytes, none, .inr (.inr (.inr (.inl rfl)))⟩
      case uartFramingError stream bytes => exact ⟨.c, stream, bytes, none, .inr (.inr (.inl rfl))⟩
  clear_value critical wanted reports toSend holdoff waits receiving
  have judged : ∃ v : State, t = v.rejudge := exec_judged hp ht h
  have wired (silent : ¬ receiving) : ∃ u : State, t = u.rejudge ∧ Wired c s u := exec_wired (bytes silent) hp ht h
  refine ⟨fun off => ?_, fun silent noReset on => ?_, fun w off => ?_, fun w idle => ?_, fun silent off on => ?_, fun silent was on => ?_, fun not_ => ?_,
    fun w => ?_, fun silent w => ?_, fun u off => ?_⟩
  · obtain ⟨v, rfl⟩ := judged
    refine ⟨?_, (v.rejudge_off off).1⟩
    have dead : ¬ v.rejudge.rpu.supplied = true := by
      rw [Rpu.supplied, off]
      exact nofun
    exact if_neg dead
  · obtain ⟨u, rfl, k⟩ := wired silent
    refine Eq.trans ?_ (k.partly noReset)
    have live : u.rejudge.rpu.supplied = true := bne_iff_ne.mpr on
    exact if_pos live
  · obtain ⟨v, rfl⟩ := judged
    obtain ⟨stays, starts, -, -⟩ := v.rejudge_radio
    rw [wanted_eq, v.wanted_rejudge] at w
    by_cases dead : v.rpu.radio = .off
    · exact nomatch off.symm.trans (starts w dead).1
    · exact dead ((stays w dead).1.symm.trans off)
  · obtain ⟨v, rfl⟩ := judged
    obtain ⟨-, -, -, ends⟩ := v.rejudge_radio
    rw [wanted_eq, v.wanted_rejudge] at w
    rw [v.rejudge_tx] at idle
    exact ends w (.inr idle)
  · obtain ⟨u, rfl, k⟩ := wired silent
    obtain ⟨-, starts, -, ends⟩ := u.rejudge_radio
    have dead := k.supplied.mpr off
    rw [holdoff_eq, u.holdoffFrom_rejudge]
    cases w : u.rpu.wanted u.now u.bcu.tier with
    | true =>
      rw [u.rejudge_now]
      exact starts w dead
    | false => exact absurd (ends w (.inl dead)) on
  · obtain ⟨u, rfl, k⟩ := wired silent
    have live : u.rpu.radio ≠ .off := fun off => was (k.supplied.mp off)
    obtain ⟨radio, holds⟩ := u.rejudge_live live on
    rw [holdoff_eq, u.holdoffFrom_rejudge, radio, holds]
    exact ⟨k.radio, k.holdoff, fun active e => k.carrier active e was⟩
  · obtain ⟨v, rfl⟩ := judged
    rw [v.rejudge_wait, if_neg (fun x => not_ (waits_iff.mpr x))]
  · obtain ⟨v, rfl⟩ := judged
    rw [v.rejudge_wait, if_pos (waits_iff.mp w)]
    exact nofun
  · obtain ⟨u, rfl, k⟩ := wired silent
    have idle : u.rpu.tx = none := u.rejudge_tx.symm.trans (waits_iff.mp w).2.1
    rw [u.rejudge_wait, if_pos (waits_iff.mp w)]
    refine ⟨fun d other running => ?_, fun fresh => ?_⟩
    · rw [k.wait other idle, running, Option.getD_some]
    · have absent : u.rpu.channelWait = none := by
        by_cases over_ : c = .channelWaitTimeout
        · exact k.over_ over_
        · exact (k.wait over_ idle).trans (fresh.resolve_right over_)
      rw [absent, Option.getD_none, u.rejudge_now]
  · obtain ⟨-, starts, -, ends⟩ := u.rejudge_radio
    cases w : u.rpu.wanted u.now u.bcu.tier with
    | true =>
      obtain ⟨radio, holds⟩ := starts w off
      refine .inr ⟨radio, ?_, holds⟩
      rw [u.rejudge_wait, if_neg fun x => by cases radio.symm.trans x.1]
    | false =>
      have dead := ends w (.inl off)
      exact .inl ⟨dead, u.rejudge_off dead⟩

end Sys2Proof.Machine
end

section
/-! PROOFS. What an update's decision, notices and picked-up status do to the sequence (R46, R56, R60, R42). -/

namespace Sys2Proof.Machine

section

variable {s : State} {r : UpdateResult}

/-! ### The end of an update -/

/-- The pause and the activation test that end an update (R56, R42). -/
def State.updateOver (s : State) : State := if s.pauseReclaim.sqc.sequence = .ready then s.pauseReclaim.activationTest else s.pauseReclaim

/-- The state as the results of the update reach the SQC. -/
def State.pickedUp (picked : Bool) (s : State) : State := { s with sqc := { s.sqc with picked := picked } }

theorem State.takeUpdate_decided (decided : r.decision ≠ []) : s.takeUpdate r = ((s.pickedUp r.picked).takeDecision r.decision).updateOver := by
  have full : ¬ r.decision.isEmpty = true := by simpa using decided
  unfold State.takeUpdate
  dsimp only
  rw [if_neg full]
  rfl

theorem State.takeUpdate_undecided (none_ : r.decision = []) : s.takeUpdate r = ((s.pickedUp r.picked).coordinate r.notices).updateOver := by
  unfold State.takeUpdate
  dsimp only
  rw [none_]
  rfl

/-- Outside RECLAIM nothing pauses. -/
theorem State.pauseReclaim_outside (h : ∀ timer, s.sqc.sequence ≠ .reclaim timer) : s.pauseReclaim = s := by
  unfold State.pauseReclaim
  split
  · next e => exact absurd e (h _)
  · next e => exact absurd e (h _)
  · rfl

/-- Outside READY and RECLAIM the update ends without more. -/
theorem State.updateOver_stays (reclaim : ∀ timer, s.sqc.sequence ≠ .reclaim timer) (ready : s.sqc.sequence ≠ .ready) : s.updateOver = s := by
  rw [State.updateOver, State.pauseReclaim_outside reclaim, if_neg ready]

theorem State.setSequence_same {q : Sequence} (h : s.sqc.sequence = q) : s.setSequence q = s := by
  rw [← h]
  rfl

/-- A reclaim time that runs stops with an element picked up. -/
theorem State.updateOver_running {d : Nat} (h : s.sqc.sequence = .reclaim (.running d)) :
    s.updateOver = s.setSequence (.reclaim (if s.sqc.picked then .paused (d - s.now) else .running d)) := by
  have paused : s.pauseReclaim = s.setSequence (.reclaim (if s.sqc.picked then .paused (d - s.now) else .running d)) := by
    unfold State.pauseReclaim
    rw [h]
    dsimp only
    cases s.sqc.picked with
    | true => rfl
    | false => exact (State.setSequence_same h).symm
  rw [State.updateOver, paused, if_neg nofun]

/-- A reclaim time that is stopped goes on with none picked up. -/
theorem State.updateOver_paused {rest : Nat} (h : s.sqc.sequence = .reclaim (.paused rest)) :
    s.updateOver = s.setSequence (.reclaim (if s.sqc.picked then .paused rest else .running (s.now + rest))) := by
  have paused : s.pauseReclaim = s.setSequence (.reclaim (if s.sqc.picked then .paused rest else .running (s.now + rest))) := by
    unfold State.pauseReclaim
    rw [h]
    dsimp only
    cases s.sqc.picked with
    | true => exact (State.setSequence_same h).symm
    | false => rfl
  rw [State.updateOver, paused, if_neg nofun]

/-- In READY the update ends with the activation test. -/
theorem State.updateOver_ready (h : s.sqc.sequence = .ready) : s.updateOver = s.activationTest := by
  have still : s.pauseReclaim = s := State.pauseReclaim_outside fun _ e => nomatch h.symm.trans e
  rw [State.updateOver, still, if_pos h]

theorem State.updateOver_keeps (s : State) : s.updateOver.mdr = s.mdr ∧ s.updateOver.oeb = s.oeb ∧ s.updateOver.oru = s.oru := by
  have paused : s.pauseReclaim.mdr = s.mdr ∧ s.pauseReclaim.oeb = s.oeb ∧ s.pauseReclaim.oru = s.oru := by
    unfold State.pauseReclaim
    repeat' split
    all_goals exact ⟨rfl, rfl, rfl⟩
  unfold State.updateOver
  split
  · simp
  · exact paused

/-! ### A decision -/

/-- A protection trip moves the sequence itself; its start is no notice to it (R47). -/
theorem State.tripStarted_protection (s : State) : s.tripStarted [.protection] = s := by
  unfold State.tripStarted
  exact if_pos (by simp)

theorem State.requestTripWith_protection (e : Option Element) (c : Currents) : (s.requestTripWith .protection e c).sqc = s.sqc := by
  have fired (u : State) : (u.beginTrip .protection e c).sqc = u.sqc := by
    obtain ⟨-, -, sqc, -, -, -, -⟩ := State.tripPulsed_frame .protection e c u
    rw [State.beginTrip_sqc, State.tripStarted_protection, sqc]
  rcases s.requestTripWith_cases .protection e c with ⟨-, h⟩ | ⟨op, -, -, h⟩ | ⟨op, -, kind, h⟩ <;> rw [h]
  · exact fired s
  · split <;> rfl
  · obtain ⟨-, sqc, -⟩ := State.cutClose_spec (s := s) .protection e c kind
    exact sqc.trans (fired _)

theorem State.beginTrip_protection_oeb (e : Option Element) (c : Currents) (s : State) : (s.beginTrip .protection e c).oeb = s.oeb.pulseStart := by
  obtain ⟨-, -, -, -, oeb, -, -⟩ := State.tripPulsed_frame .protection e c s
  rw [State.beginTrip_eq, (State.operationStarted_rest _).2.2.1, State.tripStarted_protection]
  exact oeb

/-- The sequence at the start of a protection trip (R46). -/
def State.tripDecided (decision : List Element) (s : State) : State :=
  (s.setShot (s.sqc.shot + 1)).setSequence (.tripping .protection (decision.any Element.isHotLine))

theorem State.takeUpdate_fires (reported : s.sqc.reported = true) (decided : r.decision ≠ [])
    (ready : s.sqc.sequence = .ready ∨ ∃ timer, s.sqc.sequence = .reclaim timer) : s.takeUpdate r
    = ((s.pickedUp r.picked).tripDecided r.decision).requestTripWith .protection r.decision.head? s.lmu.currents := by
  have taken : (s.pickedUp r.picked).takeDecision r.decision
      = ((s.pickedUp r.picked).tripDecided r.decision).requestTripWith .protection r.decision.head? s.lmu.currents := by
    unfold State.takeDecision
    dsimp only
    rw [if_neg (by simp [State.pickedUp, reported, decided])]
    rcases ready with h | ⟨timer, h⟩
    all_goals
      have h' : (s.pickedUp r.picked).sqc.sequence = _ := h
      rw [h']
      rfl
  have sequence := congrArg Sqc.sequence (State.requestTripWith_protection (s := (s.pickedUp r.picked).tripDecided r.decision)
    r.decision.head? s.lmu.currents)
  rw [State.takeUpdate_decided decided, taken]
  exact State.updateOver_stays (fun _ e => nomatch sequence.symm.trans e) fun e => nomatch sequence.symm.trans e

theorem State.takeUpdate_marks {kind : TripKind} {mark : Bool} (reported : s.sqc.reported = true) (decided : r.decision ≠ [])
    (tripping : s.sqc.sequence = .tripping kind mark) : s.takeUpdate r
    = (s.pickedUp r.picked).setSequence (.tripping kind (mark || r.decision.any Element.isHotLine)) := by
  have taken : (s.pickedUp r.picked).takeDecision r.decision
      = (s.pickedUp r.picked).setSequence (.tripping kind (mark || r.decision.any Element.isHotLine)) := by
    unfold State.takeDecision
    dsimp only
    rw [if_neg (by simp [State.pickedUp, reported, decided])]
    have h : (s.pickedUp r.picked).sqc.sequence = .tripping kind mark := tripping
    rw [h]
  rw [State.takeUpdate_decided decided, taken]
  exact State.updateOver_stays nofun nofun

/-- The states that disregard a decision (R46). -/
def disregards : Sequence → Bool
  | .opened | .closing _ | .lockout _ | .interval _ | .energyWait _ => true
  | _ => false

theorem State.takeUpdate_disregards (reported : s.sqc.reported = true) (decided : r.decision ≠ [])
    (h : disregards s.sqc.sequence = true) : s.takeUpdate r = s.pickedUp r.picked := by
  have at_ : (s.pickedUp r.picked).sqc.sequence = s.sqc.sequence := rfl
  have taken : (s.pickedUp r.picked).takeDecision r.decision = s.pickedUp r.picked := by
    unfold State.takeDecision
    dsimp only
    rw [if_neg (by simp [State.pickedUp, reported, decided]), at_]
    cases e : s.sqc.sequence <;> first | rfl | (rw [e] at h; cases h)
  rw [State.takeUpdate_decided decided, taken]
  exact State.updateOver_stays (fun _ e => by rw [← at_, e] at h; cases h) fun e => by rw [← at_, e] at h; cases h

/-! ### Coordination -/

theorem State.mayAdvance_iff : s.mayAdvance = true ↔ s.sqc.reported = true ∧ s.sqc.active.coordination = true ∧ s.au.tags = []
    ∧ (s.sqc.sequence = .ready ∨ ∃ timer, s.sqc.sequence = .reclaim timer) ∧ s.sqc.shot + 1 ≤ s.sqc.active.fast
    ∧ s.sqc.shot + 1 < s.sqc.active.trips := by
  unfold State.mayAdvance
  cases s.sqc.sequence <;> simp [and_assoc]

/-- The sequence advanced by a notice (R60), with its record and event to come. -/
def State.advanced (s : State) : State := (s.setShot (s.sqc.shot + 1)).startReclaim

theorem State.takeUpdate_advances {n : Notice} (none_ : r.decision = []) (may : (s.pickedUp r.picked).mayAdvance = true)
    (found : r.notices.find? Notice.counts = some n) :
    let made := (s.pickedUp r.picked).advanced.newRecord .seqAdvance .protection (some n.element) none none
    s.takeUpdate r = made.1.event .seqAdvance (be 2 made.2) := by
  intro made
  have coordinated : (s.pickedUp r.picked).coordinate r.notices = made.1.event .seqAdvance (be 2 made.2) := by
    unfold State.coordinate
    rw [may, found]
    rfl
  have sqc : (made.1.event .seqAdvance (be 2 made.2)).sqc = (s.pickedUp r.picked).advanced.sqc := by simp [made]
  have picked : (made.1.event .seqAdvance (be 2 made.2)).sqc.picked = r.picked := congrArg Sqc.picked sqc
  have sequence : (made.1.event .seqAdvance (be 2 made.2)).sqc.sequence = .reclaim (if r.picked then .paused (s.sqc.active.reclaim * 1000)
      else .running (s.now + s.sqc.active.reclaim * 1000)) := congrArg Sqc.sequence sqc
  rw [State.takeUpdate_undecided none_, coordinated]
  cases up : r.picked with
  | true =>
    rw [up] at picked sequence
    rw [State.updateOver_paused sequence, picked]
    exact State.setSequence_same sequence
  | false =>
    rw [up] at picked sequence
    rw [State.updateOver_running sequence, picked]
    exact State.setSequence_same sequence

theorem State.takeUpdate_else (none_ : r.decision = []) (not_ : (s.pickedUp r.picked).mayAdvance = false ∨ r.notices.find? Notice.counts = none) :
    s.takeUpdate r = (s.pickedUp r.picked).updateOver := by
  have still : (s.pickedUp r.picked).coordinate r.notices = s.pickedUp r.picked := by
    unfold State.coordinate
    rcases not_ with h | h <;> rw [h]
    split <;> simp_all
  rw [State.takeUpdate_undecided none_, still]

/-- The record of an advance, in an idle store: COUNTERS is being written and RECORD_RING waits (R161). -/
theorem State.newRecord_idle (kind : RecordKind) (o : Origin) (e : Option Element) (energy : Option Nat) (idle : s.nvs.writing = none)
    (empty : s.nvs.queue = []) : (s.newRecord kind o e none energy).1.nvs = ⟨s.nvs.store,
      [.recordRing (s.newRecord kind o e none energy).1.oru.ring], some ⟨.counters (s.newRecord kind o e none energy).1.oru.counters, false⟩⟩ := by
  simp [State.newRecord, State.record, State.takeNumber, State.place, State.content, Nvs.place, Nvs.kick, idle, empty]

end

theorem Sequence.decided_cases (q : Sequence) :
    (q = .ready ∨ ∃ timer, q = .reclaim timer) ∨ (∃ kind mark, q = .tripping kind mark) ∨ disregards q = true := by
  cases q <;> simp [disregards]

/-- Settles O38: what the results of the update find decides what the sequence does. -/
theorem decisionsTripInReadyAndReclaim : Obligations.DecisionsTripInReadyAndReclaim := by
  intro r s hp measured updated result ready advances counts reported
  let v : State := { measured with oeb := updated.1 }
  obtain ⟨-, oeb, sqc, mdr, au, -, -, oru, -, nvs, -⟩ := ((s.reach (s.lmu.lastUpdate + s.lmu.interval)).measureLine_frame r)
  have oeb : measured.oeb = s.oeb := oeb
  have sqc : measured.sqc = s.sqc := sqc
  have mdr : measured.mdr = s.mdr := mdr
  have au : measured.au = s.au := au
  have oru : measured.oru = s.oru := oru
  have nvs : measured.nvs = s.nvs := nvs
  have run : exec (.measurementUpdate r) s = .next (v.takeUpdate result).rejudge := by
    have evaluated : s.updateLine r = v.takeUpdate result := by
      change measured.evaluate s.lmu.interval = _
      have same : measured.oeb.update measured.sqc.active measured.sqc.shot s.lmu.interval measured.lmu.currents = updated := by rw [oeb, sqc]
      change State.takeUpdate (measured.oeb.update measured.sqc.active measured.sqc.shot s.lmu.interval measured.lmu.currents).2
        { measured with oeb := (measured.oeb.update measured.sqc.active measured.sqc.shot s.lmu.interval measured.lmu.currents).1 } = _
      rw [same]
    rw [← evaluated]
    exact act_powered (f := (·.updateLine r)) hp
  have lmu : (v.takeUpdate result).lmu = measured.lmu := (v.takeUpdate_frame result).2.1
  have still : v.sqc.reported = true := (congrArg Sqc.reported sqc).trans reported
  have at_ : v.sqc.sequence = s.sqc.sequence := congrArg Sqc.sequence sqc
  have advances_iff : (v.pickedUp result.picked).mayAdvance = true ↔ advances := by
    rw [State.mayAdvance_iff]
    change measured.sqc.reported = true ∧ measured.sqc.active.coordination = true ∧ measured.au.tags = []
      ∧ (measured.sqc.sequence = .ready ∨ ∃ timer, measured.sqc.sequence = .reclaim timer) ∧ measured.sqc.shot + 1 ≤ measured.sqc.active.fast
      ∧ measured.sqc.shot + 1 < measured.sqc.active.trips ↔ _
    rw [sqc, au]
    exact ⟨fun h => h.2, fun h => ⟨reported, h⟩⟩
  clear_value measured
  refine ⟨fun decided => ?_, fun n none_ may found => ?_, fun none_ not_ => ?_⟩
  · have fires (h : ready) : v.takeUpdate result
        = ((v.pickedUp result.picked).tripDecided result.decision).requestTripWith .protection result.decision.head? measured.lmu.currents :=
      State.takeUpdate_fires still decided (by rw [at_]; exact h)
    have marks (kind : TripKind) (mark : Bool) (h : s.sqc.sequence = .tripping kind mark) : v.takeUpdate result
        = (v.pickedUp result.picked).setSequence (.tripping kind (mark || result.decision.any Element.isHotLine)) :=
      State.takeUpdate_marks still decided (at_.trans h)
    have disregards (h : disregards s.sqc.sequence = true) : v.takeUpdate result = v.pickedUp result.picked :=
      State.takeUpdate_disregards still decided (by rw [at_]; exact h)
    refine ⟨_, run, lmu, ?_, fun h idle => ?_, fun kind mark tripping => ?_, fun other => ?_⟩
    · change (v.takeUpdate result).sqc.picked = result.picked
      rcases Sequence.decided_cases s.sqc.sequence with h | ⟨kind, mark, h⟩ | h
      · rw [fires h, State.requestTripWith_protection]
        rfl
      · rw [marks kind mark h]
        rfl
      · rw [disregards h]
        rfl
    · have fired : v.takeUpdate result = ((v.pickedUp result.picked).tripDecided result.decision).beginTrip .protection result.decision.head?
          measured.lmu.currents := by
        rw [fires h, State.requestTripWith, show ((v.pickedUp result.picked).tripDecided result.decision).mdr.op = none from
          (congrArg Mdr.op mdr).trans idle]
      have moved : (v.takeUpdate result).sqc = ((v.pickedUp result.picked).tripDecided result.decision).sqc := by
        rw [fires h, State.requestTripWith_protection]
      have driven := State.beginTrip_mdr .protection result.decision.head? measured.lmu.currents ((v.pickedUp result.picked).tripDecided result.decision)
      have cleared := State.beginTrip_protection_oeb result.decision.head? measured.lmu.currents
        ((v.pickedUp result.picked).tripDecided result.decision)
      rw [← fired] at driven cleared
      refine ⟨?_, congrArg Sqc.sequence moved, congrArg Mdr.tripDrive driven, cleared, ?_, ?_⟩
      · exact (congrArg Sqc.shot moved).trans (congrArg (·.shot + 1) sqc)
      · refine (congrArg Mdr.op driven).trans (congrArg some ?_)
        change (⟨.trip, [.protection], .pulse, false, measured.now, measured.mdr.estimate,
          decide (measured.mdr.estimate < measured.mdr.settings.eTrip), _, _, measured.oru.counters.next⟩ : Operation) = _
        rw [mdr, oru]
      · exact (congrArg Mdr.estimate driven).trans (congrArg (fun m : Mdr => m.estimate - m.settings.eTrip) mdr)
    · change (v.takeUpdate result).sqc = _ ∧ (v.takeUpdate result).mdr = _
      rw [marks kind mark tripping]
      exact ⟨congrArg (fun q : Sqc => { q with
        sequence := .tripping kind (mark || result.decision.any Element.isHotLine), picked := result.picked }) sqc, mdr⟩
    · change (v.takeUpdate result).sqc = _ ∧ (v.takeUpdate result).mdr = _
      have disregarded : Machine.disregards s.sqc.sequence = true := by
        rcases other with h | ⟨_, h⟩ | ⟨_, h⟩ | ⟨_, h⟩ | ⟨_, h⟩ <;> rw [h] <;> rfl
      rw [disregards disregarded]
      exact ⟨congrArg (fun q : Sqc => { q with picked := result.picked }) sqc, mdr⟩
  · have advanced := State.takeUpdate_advances none_ (advances_iff.mpr may) found
    dsimp only at advanced
    let base := (v.pickedUp result.picked).advanced
    let made := base.newRecord .seqAdvance .protection (some n.element) none none
    let entry : OpRecord := ⟨base.oru.counters.next, .seqAdvance, base.stamp, base.sqc.shot, .protection, some n.element, none, none, none, false⟩
    have moved : base.sqc = { s.sqc with
        shot := s.sqc.shot + 1, picked := result.picked
        sequence := .reclaim (if result.picked then .paused (s.sqc.active.reclaim * 1000)
          else .running (measured.now + s.sqc.active.reclaim * 1000)) } :=
      congrArg (fun q : Sqc => { q with
        shot := q.shot + 1, picked := result.picked
        sequence := .reclaim (if result.picked then .paused (q.active.reclaim * 1000) else .running (measured.now + q.active.reclaim * 1000)) }) sqc
    have ring : made.1.oru.ring.getLast? = some entry := by
      refine (congrArg List.getLast? (State.record_ring _ base.takeNumber.1)).trans (pushRing_getLast (size := 32) (by decide) entry base.oru.ring)
    have number : made.2 = s.oru.counters.next := congrArg (fun o : Oru => o.counters.next) oru
    obtain ⟨-, lmuMade, oebMade, sqcMade, mdrMade, -⟩ := State.newRecord_frame .seqAdvance .protection (some n.element) none none base
    obtain ⟨x, last, kind, payload⟩ := Rpu.event_getLast made.1.stamp .seqAdvance (be 2 made.2) made.1.rpu
    rw [advanced] at run
    refine ⟨_, entry, run, lmuMade, mdrMade.trans mdr, oebMade, sqcMade.trans moved, ring, rfl, rfl, rfl, congrArg Sqc.shot moved, number, rfl,
      fun idle empty => ?_, x, ?_, kind, payload⟩
    · have idle' : base.nvs.writing = none := (congrArg Nvs.writing nvs).trans idle
      have empty' : base.nvs.queue = [] := (congrArg Nvs.queue nvs).trans empty
      have written := State.newRecord_idle .seqAdvance .protection (some n.element) none idle' empty'
      rw [show base.nvs.store = s.nvs.store from congrArg Nvs.store nvs] at written
      exact written
    · rw [State.rejudge_qEvent]
      exact List.mem_of_getLast? last
  · have refused : (v.pickedUp result.picked).mayAdvance = false ∨ result.notices.find? Notice.counts = none :=
      not_.imp (fun h => by rw [← Bool.not_eq_true, advances_iff]; exact h) id
    have stays := State.takeUpdate_else (s := v) none_ refused
    have picked : (v.pickedUp result.picked).sqc = { s.sqc with picked := result.picked } :=
      congrArg (fun q : Sqc => { q with picked := result.picked }) sqc
    have at_ : (v.pickedUp result.picked).sqc.sequence = s.sqc.sequence := at_
    rw [stays] at run lmu
    have kept := State.updateOver_keeps (v.pickedUp result.picked)
    obtain ⟨mdrKept, oebKept, oruKept⟩ := kept
    refine ⟨_, run, lmu, mdrKept.trans mdr, oebKept, oruKept.trans oru, fun d running => ?_, fun rest paused => ?_, fun staged ready quiet copy => ?_,
      fun outside quiet => ?_⟩
    · change (v.pickedUp result.picked).updateOver.sqc = _
      rw [State.updateOver_running (at_.trans running)]
      exact congrArg (fun q : Sqc => { q with sequence := .reclaim (if q.picked then .paused (d - measured.now) else .running d) }) picked
    · change (v.pickedUp result.picked).updateOver.sqc = _
      rw [State.updateOver_paused (at_.trans paused)]
      exact congrArg (fun q : Sqc => { q with sequence := .reclaim (if q.picked then .paused rest else .running (measured.now + rest)) }) picked
    · change (v.pickedUp result.picked).updateOver.sqc = _
      rw [State.updateOver_ready (at_.trans ready), State.activationTest, congrArg Sqc.staged picked, copy]
      dsimp only
      rw [if_pos (by rw [picked]; simp [Sqc.quiet, ready, quiet]), State.activate_sqc, picked, quiet]
    · change (v.pickedUp result.picked).updateOver.sqc = _
      by_cases ready : s.sqc.sequence = .ready
      · rw [State.updateOver_ready (at_.trans ready)]
        rcases State.activationTest_cases (v.pickedUp result.picked) with h | ⟨staged, copy, calm, -⟩
        · rw [h]
          exact picked
        · rw [picked] at copy calm
          rcases quiet ready with up | none_
          · simp [Sqc.quiet, ready, up] at calm
          · exact nomatch none_.symm.trans copy
      · rw [State.updateOver_stays (fun timer e => outside timer (at_.symm.trans e)) fun e => ready (at_.symm.trans e)]
        exact picked

end Sys2Proof.Machine
end

section
/-! PROOFS. The elements: multiples, operate times, one update of an element and of the bank, and the curve between its points (R19 to R35). -/

namespace Sys2Proof.Machine

/-! ### One element -/

section

variable {s : Settings} {e : Timed} {dt m tOp : Nat}

/-- An element at or above its pickup (Table 2-5). -/
theorem Timed.update_above (h : 100 ≤ m) :
    e.update s dt m tOp = ⟨min 1000000 (e.progress + dt * 1000 / tOp), true, if e.picked then satSucc 65535 e.run else 1⟩ := if_pos h

/-- A picked-up element that stays within its hysteresis (Table 2-5). -/
theorem Timed.update_within (picked : e.picked = true) (low : m < 100) (h : 95 ≤ m) :
    e.update s dt m tOp = ⟨e.progress, true, satSucc 65535 e.run⟩ := by
  unfold Timed.update
  rw [if_neg (Nat.not_le.mpr low), if_pos (by simp [picked, h]), picked]

/-- An element that is not picked up (Table 2-5). -/
theorem Timed.update_below (low : m < 100) (h : e.picked = false ∨ m < 95) :
    e.update s dt m tOp = ⟨decay s dt e.progress, false, 0⟩ := by
  unfold Timed.update
  rw [if_neg (Nat.not_le.mpr low), if_neg]
  rcases h with h | h
  · simp [h]
  · simp only [Bool.and_eq_true, decide_eq_true_eq, not_and]
    omega

theorem Timed.decides_iff (e : Timed) : e.decides = true ↔ e.picked = true ∧ e.progress = 1000000 := by
  simp [Timed.decides, fullProgress]

end

theorem mem_named {e x : Element} {b : Bool} : x ∈ named e b ↔ x = e ∧ b = true := by
  cases b <;> simp [named]

theorem named_sublist (e : Element) (b : Bool) : (named e b).Sublist [e] := by
  cases b
  · exact List.nil_sublist _
  · exact .refl _

theorem mem_noticeOf {e : Element} {before after : Timed} {n : Notice} :
    n ∈ noticeOf e before after ↔ n = ⟨e, before.run, before.progress⟩ ∧ before.picked = true ∧ after.picked = false := by
  unfold noticeOf
  split
  · next h => simpa using fun _ => by simpa using h
  · next h => simpa using fun _ => by simpa using h

theorem noticeOf_sublist (e : Element) (before after : Timed) : ((noticeOf e before after).map Notice.element).Sublist [e] := by
  unfold noticeOf
  split
  · exact .refl _
  · exact List.nil_sublist _

/-! ### The bank -/

section

variable {o : Oeb} {s : Settings} {n : Nat}

theorem Oeb.decision_hot (h : o.hotActive = true) : (∀ e, e ∈ o.decision s n ↔ (e = .ha ∧ o.ha.picked = true ∧ o.ha.progress = 1000000)
      ∨ (e = .hb ∧ o.hb.picked = true ∧ o.hb.progress = 1000000) ∨ (e = .hc ∧ o.hc.picked = true ∧ o.hc.progress = 1000000)
      ∨ (e = .hg ∧ o.hg.picked = true ∧ o.hg.progress = 1000000))
    ∧ (o.decision s n).Sublist [.ha, .hb, .hc, .hg] := by
  rw [Oeb.decision, if_pos h]
  refine ⟨fun e => ?_, (((named_sublist _ _).append (named_sublist _ _)).append (named_sublist _ _)).append (named_sublist _ _)⟩
  simp only [List.mem_append, mem_named, Timed.decides_iff, or_assoc]

theorem Oeb.decision_normal (h : o.hotActive = false) : (∀ e, e ∈ o.decision s n ↔ (e = .pa ∧ o.pa.picked = true ∧ o.pa.progress = 1000000)
      ∨ (e = .pb ∧ o.pb.picked = true ∧ o.pb.progress = 1000000) ∨ (e = .pc ∧ o.pc.picked = true ∧ o.pc.progress = 1000000)
      ∨ (e = .pg ∧ o.pg.picked = true ∧ o.pg.progress = 1000000)
      ∨ (e = .ip ∧ o.ip.decides s.ip n = true) ∨ (e = .igi ∧ o.igi.decides s.igi n = true))
    ∧ (o.decision s n).Sublist [.pa, .pb, .pc, .pg, .ip, .igi] := by
  rw [Oeb.decision, if_neg (by simp [h])]
  refine ⟨fun e => ?_, (((((named_sublist _ _).append (named_sublist _ _)).append (named_sublist _ _)).append (named_sublist _ _)).append
    (named_sublist _ _)).append (named_sublist _ _)⟩
  simp only [List.mem_append, mem_named, Timed.decides_iff, or_assoc]

theorem Oeb.picked_hot (h : o.hotActive = true) :
    o.picked = true ↔ o.ha.picked = true ∨ o.hb.picked = true ∨ o.hc.picked = true ∨ o.hg.picked = true := by
  rw [Oeb.picked, if_pos h]
  simp only [Bool.or_eq_true, or_assoc]

theorem Oeb.picked_normal (h : o.hotActive = false) : o.picked = true ↔ o.pa.picked = true ∨ o.pb.picked = true ∨ o.pc.picked = true
    ∨ o.pg.picked = true ∨ o.ip.picked = true ∨ o.igi.picked = true := by
  rw [Oeb.picked, if_neg (by simp [h])]
  simp only [Bool.or_eq_true, or_assoc]

end

/-- The notices of the normal set (R35). -/
def Oeb.dropouts (before after : Oeb) : List Notice :=
  noticeOf .pa before.pa after.pa ++ noticeOf .pb before.pb after.pb ++ noticeOf .pc before.pc after.pc ++ noticeOf .pg before.pg after.pg

theorem Oeb.dropouts_spec (o o' : Oeb) : (∀ n, n ∈ o.dropouts o' ↔
      (n = ⟨.pa, o.pa.run, o.pa.progress⟩ ∧ o.pa.picked = true ∧ o'.pa.picked = false)
      ∨ (n = ⟨.pb, o.pb.run, o.pb.progress⟩ ∧ o.pb.picked = true ∧ o'.pb.picked = false)
      ∨ (n = ⟨.pc, o.pc.run, o.pc.progress⟩ ∧ o.pc.picked = true ∧ o'.pc.picked = false)
      ∨ (n = ⟨.pg, o.pg.run, o.pg.progress⟩ ∧ o.pg.picked = true ∧ o'.pg.picked = false))
    ∧ ((o.dropouts o').map Notice.element).Sublist [.pa, .pb, .pc, .pg] := by
  unfold Oeb.dropouts
  constructor
  · intro n
    simp only [List.mem_append, mem_noticeOf, or_assoc]
  · simp only [List.map_append]
    exact (((noticeOf_sublist _ _ _).append (noticeOf_sublist _ _ _)).append (noticeOf_sublist _ _ _)).append (noticeOf_sublist _ _ _)

/-! ### The curve (R23) -/

/-- The multiples of a curve rise and its times do not. -/
def rising (points : CurveTable) : Prop :=
  ∀ k, k + 1 < points.length → (points.getD k (0, 0)).1 < (points.getD (k + 1) (0, 0)).1
    ∧ (points.getD (k + 1) (0, 0)).2 ≤ (points.getD k (0, 0)).2

theorem rising.tail {p : Nat × Nat} {rest : CurveTable} (h : rising (p :: rest)) : rising rest := fun k hk => h (k + 1) (by simpa using hk)

theorem rising.first_le {points : CurveTable} (h : rising points) : ∀ {k : Nat}, k < points.length →
    (points.getD 0 (0, 0)).1 ≤ (points.getD k (0, 0)).1
  | 0, _ => Nat.le_refl _
  | k + 1, long => (h.first_le (Nat.lt_of_succ_lt long)).trans (h k long).1.le

theorem curveTime_first {points : CurveTable} {m : Nat} (some_ : points ≠ []) (h : m ≤ (points.getD 0 (0, 0)).1) :
    curveTime points m = (points.getD 0 (0, 0)).2 := by
  match points with
  | [] => exact absurd rfl some_
  | [_] => rfl
  | (_, _) :: _ :: _ => exact if_pos h

/-- The point that begins a stretch: there the interpolated time is the point's own. -/
theorem curveTime_at (m₁ t₁ m₂ t₂ : Nat) : t₁ - (t₁ - t₂) * (m₁ - m₁) / (m₂ - m₁) = t₁ := by simp

theorem curveTime_between : ∀ {points : CurveTable} {m k : Nat}, rising points → k + 1 < points.length → (points.getD k (0, 0)).1 ≤ m →
    m < (points.getD (k + 1) (0, 0)).1 → curveTime points m = (points.getD k (0, 0)).2
      - ((points.getD k (0, 0)).2 - (points.getD (k + 1) (0, 0)).2) * (m - (points.getD k (0, 0)).1)
        / ((points.getD (k + 1) (0, 0)).1 - (points.getD k (0, 0)).1)
  | [], _, _, _, long, _, _ => absurd long (by simp)
  | [_], _, _, _, long, _, _ => absurd long (by simp)
  | (m₁, t₁) :: (m₂, t₂) :: rest, m, 0, _, _, low, high => by
    have low : m₁ ≤ m := low
    have high : m < m₂ := high
    by_cases at_ : m ≤ m₁
    · obtain rfl : m = m₁ := Nat.le_antisymm at_ low
      exact (if_pos at_).trans (curveTime_at m t₁ m₂ t₂).symm
    · exact (if_neg at_).trans (if_pos high)
  | (m₁, t₁) :: (m₂, t₂) :: rest, m, k + 1, up, long, low, high => by
    have beyond : m₂ ≤ m := (up.tail.first_le (by simpa using Nat.lt_of_succ_lt long)).trans low
    have first : m₁ < m₂ := (up 0 (by simp)).1
    rw [curveTime, if_neg (by omega), if_neg (by omega)]
    exact curveTime_between up.tail (by simpa using long) low high

theorem curveTime_last : ∀ {points : CurveTable} {m : Nat}, rising points → points ≠ [] → (points.getD (points.length - 1) (0, 0)).1 ≤ m →
    curveTime points m = (points.getD (points.length - 1) (0, 0)).2
  | [], _, _, some_, _ => absurd rfl some_
  | [_], _, _, _, _ => rfl
  | (m₁, t₁) :: (m₂, t₂) :: rest, m, up, _, h => by
    have beyond : m₂ ≤ m := (up.tail.first_le (k := rest.length) (by simp)).trans h
    have first : m₁ < m₂ := (up 0 (by simp)).1
    have last := curveTime_last (points := (m₂, t₂) :: rest) (m := m) up.tail (List.cons_ne_nil _ _) h
    rw [curveTime, if_neg (by omega), if_neg (by omega)]
    exact last

/-- An interpolated time lies between the times of its two points. -/
theorem interpolated_between {m₁ t₁ m₂ t₂ m : Nat} (times : t₂ ≤ t₁) (low : m₁ ≤ m) (high : m < m₂) :
    t₂ ≤ t₁ - (t₁ - t₂) * (m - m₁) / (m₂ - m₁) ∧ t₁ - (t₁ - t₂) * (m - m₁) / (m₂ - m₁) ≤ t₁ := by
  have fall : (t₁ - t₂) * (m - m₁) / (m₂ - m₁) ≤ t₁ - t₂ :=
    Nat.div_le_of_le_mul (by rw [Nat.mul_comm]; exact Nat.mul_le_mul_right _ (by omega))
  generalize (t₁ - t₂) * (m - m₁) / (m₂ - m₁) = f at fall ⊢
  omega

/-- Settles O39: the elements by the cases of their tables, the bank by its active set, the curve by the stretch the multiple falls in. -/
theorem timedElementsFollowTheirCurves : Obligations.TimedElementsFollowTheirCurves := by
  refine ⟨⟨fun amps pickup _ => ?_, fun t dial adder => ?_, fun s => ?_, fun s dt m tOp e _ _ => ?_⟩, fun s amps nextTrip i => ?_,
    fun s shot dt c o => ?_, fun points m eight up => ?_⟩
  · unfold multiple
    split <;> omega
  · unfold operateTime
    exact ⟨by omega, by omega, fun _ _ => by omega⟩
  · unfold Settings.hotOperateTime
    split <;> omega
  · intro off grown
    refine ⟨fun off h => ?_, fun off h => ?_, fun on h => ?_, fun on low h => ?_, fun on h => ?_⟩
    · rw [Timed.update_above h, off]
      rfl
    · exact Timed.update_below h (.inl off)
    · rw [Timed.update_above h, on]
      rfl
    · exact Timed.update_within on h low
    · exact Timed.update_below (by omega) (.inr h)
  · refine ⟨fun low => ?_, fun on h => ?_, ?_, fun trips => ?_⟩
    · unfold Instant.update
      split
      · rfl
      · next on => exact if_neg (Nat.not_le.mpr (low.resolve_left on))
    · exact (if_neg on).trans (if_pos h)
    · simp [Instant.decides]
    · simp [Instant.decides, and_assoc, and_left_comm]
  · intro r hot timed full
    refine ⟨fun active => ?_, fun active => ?_⟩
    · have bank : r.1 = o.updateHot s dt c := if_pos active
      have still : r.1.hotActive = true := (congrArg Oeb.hotActive bank).trans active
      obtain ⟨members, order⟩ := Oeb.decision_hot (s := s) (n := shot + 1) still
      exact ⟨bank, members, order, Oeb.picked_hot still, if_pos active⟩
    · have inactive : ¬ o.hotActive = true := by simp [active]
      have bank : r.1 = o.updateNormal s (shot + 1) dt c := if_neg inactive
      have still : r.1.hotActive = false := (congrArg Oeb.hotActive bank).trans active
      obtain ⟨members, order⟩ := Oeb.decision_normal (s := s) (n := shot + 1) still
      obtain ⟨told, elements⟩ := o.dropouts_spec r.1
      have notices : r.2.notices = o.dropouts r.1 := if_neg inactive
      rw [← notices] at told elements
      exact ⟨bank, members, order, told, elements, Oeb.picked_normal still⟩
  · intro mAt tAt
    have rises : rising points := fun k hk => up k (eight ▸ hk)
    have some_ : points ≠ [] := fun empty => by rw [empty] at eight; cases eight
    refine ⟨curveTime_first some_, fun h => ?_, fun k hk low high => ?_⟩
    · have last := curveTime_last (m := m) rises some_
      rw [eight] at last
      exact last h
    · have between := curveTime_between rises (eight ▸ hk) low high
      obtain ⟨least, most⟩ := interpolated_between (up k hk).2 low high
      exact ⟨between, between ▸ least, between ▸ most⟩

end Sys2Proof.Machine
end

section
/-! PROOFS. What a measurement update reads: windows, magnitudes, presence; and what the elements' results leave of the report of R12. -/

namespace Sys2Proof.Machine

/-! ### Magnitudes (R2 to R4) -/

/-- A power beyond the range of the search gives its end. -/
theorem rootFrom_beyond (unit p : Nat) : ∀ bits r : Nat, (r + 2 ^ bits) ^ 2 * unit ≤ p → rootFrom unit p bits r = r + 2 ^ bits - 1
  | 0, r, _ => rfl
  | bits + 1, r, h => by
    have double : r + 2 ^ bits + 2 ^ bits = r + 2 ^ (bits + 1) := by rw [Nat.add_assoc, ← Nat.two_mul, ← Nat.pow_succ']
    have half : (r + 2 ^ bits) ^ 2 * unit ≤ p :=
      (Nat.mul_le_mul_right _ (Nat.pow_le_pow_left (double ▸ Nat.le_add_right _ _) 2)).trans h
    rw [rootFrom, if_pos half, rootFrom_beyond unit p bits (r + 2 ^ bits) (by rw [double]; exact h), double]

/-- A square is below another exactly when its root is. -/
theorem square_lt {a b unit : Nat} (pos : 0 < unit) : a ^ 2 * unit < b ^ 2 * unit ↔ a < b := by
  rw [Nat.mul_lt_mul_right pos, Nat.pow_lt_pow_iff_left (by decide)]

theorem square_le {a b unit : Nat} (pos : 0 < unit) : a ^ 2 * unit ≤ b ^ 2 * unit ↔ a ≤ b := by
  rw [Nat.mul_le_mul_right_iff pos, Nat.pow_le_pow_iff_left (by decide)]

/-- The value is the window's magnitude, clamped: exact where the magnitude is whole, and otherwise one of its two neighbours. -/
def measuredAs (limit value : Nat) (window : List Sample) : Prop :=
  value ≤ limit ∧ (∀ m, m ≤ limit → power window = m ^ 2 * powerUnit → value = m)
    ∧ (value < limit → power window < (value + 1) ^ 2 * powerUnit) ∧ (0 < value → (value - 1) ^ 2 * powerUnit < power window)

theorem powerUnit_pos : 0 < powerUnit := by decide

theorem clamped_measures {limit : Nat} (window : List Sample) (small : limit < 32767) :
    measuredAs limit (min limit (magnitude window)) window := by
  have pos := powerUnit_pos
  have found : magnitude window = rootFrom powerUnit (power window) 15 0
      ∨ magnitude window = rootFrom powerUnit (power window) 15 0 + 1 ∧ (rootFrom powerUnit (power window) 15 0) ^ 2 * powerUnit ≠ power window := by
    unfold magnitude
    dsimp only
    split
    · exact .inl rfl
    · split
      · next inexact _ => exact .inr ⟨rfl, inexact⟩
      · exact .inl rfl
  have within := rootFrom_spec powerUnit (power window) 15 0 (by simp)
  have beyond := rootFrom_beyond powerUnit (power window) 15 0
  generalize rootFrom powerUnit (power window) 15 0 = root at found within beyond
  generalize magnitude window = value at found ⊢
  unfold measuredAs
  generalize power window = p at *
  by_cases range : p < (0 + 2 ^ 15) ^ 2 * powerUnit
  · obtain ⟨low, high⟩ := within range
    refine ⟨Nat.min_le_left _ _, fun m le exact_ => ?_, fun below => ?_, fun positive => ?_⟩
    · rw [exact_, square_le pos] at low
      rw [exact_, square_lt pos] at high
      obtain rfl : root = m := by omega
      rcases found with h | ⟨-, inexact⟩
      · omega
      · exact absurd exact_.symm inexact
    · refine high.trans_le ((square_le pos).mpr ?_)
      omega
    · rcases found with h | ⟨h, inexact⟩
      · exact ((square_lt pos).mpr (by omega)).trans_le low
      · exact ((square_le pos).mpr (by omega)).trans_lt (low.lt_of_ne inexact)
  · have large : (0 + 2 ^ 15) ^ 2 * powerUnit ≤ p := Nat.le_of_not_lt range
    have most : root = 32767 := beyond large
    have clamp : min limit value = limit := by omega
    rw [clamp]
    refine ⟨Nat.le_refl _, fun m le exact_ => ?_, fun below => absurd below (Nat.lt_irrefl _), fun _ => ?_⟩
    · rw [exact_, square_le pos] at large
      omega
    · exact ((square_lt pos).mpr (by omega)).trans_le large

/-! ### Channels -/

theorem CurrentChannel.take_spec (x : Samples) (c : CurrentChannel) : (c.take x).window = slide x c.window
    ∧ ((c.take x).saturated = true ↔ ∃ y ∈ (c.take x).window, y.clipped = true)
    ∧ ((∃ y ∈ (c.take x).window, y.clipped = true) → (c.take x).value = 20000)
    ∧ (¬ (∃ y ∈ (c.take x).window, y.clipped = true) → measuredAs 20000 (c.take x).value (c.take x).window) := by
  have clip : anyClipped (c.take x).window = true ↔ ∃ y ∈ (c.take x).window, y.clipped = true := by simp [anyClipped]
  refine ⟨rfl, clip, fun h => if_pos (clip.mpr h), fun h => ?_⟩
  have value : (c.take x).value = min 20000 (magnitude (c.take x).window) := if_neg fun y => h (clip.mp y)
  rw [value]
  exact clamped_measures _ (by decide)

theorem VoltageChannel.take_spec (x : Samples) (v : VoltageChannel) : (v.take x).window = slide x v.window
    ∧ ((∃ y ∈ (v.take x).window, y.clipped = true) → (v.take x).value = 25000)
    ∧ (¬ (∃ y ∈ (v.take x).window, y.clipped = true) → measuredAs 25000 (v.take x).value (v.take x).window)
    ∧ (v.take x).live = v.live ∧ (v.take x).qualifiedFrom = v.qualifiedFrom := by
  have clip : anyClipped (v.take x).window = true ↔ ∃ y ∈ (v.take x).window, y.clipped = true := by simp [anyClipped]
  refine ⟨rfl, fun h => if_pos (clip.mpr h), fun h => ?_, rfl, rfl⟩
  have value : (v.take x).value = min 25000 (magnitude (v.take x).window) := if_neg fun y => h (clip.mp y)
  rw [value]
  exact clamped_measures _ (by decide)

/-! ### Presence (R5, R6) -/

section

variable {v : VoltageChannel} {threshold now : Nat}

theorem VoltageChannel.judge_dead (low : v.value < threshold) :
    v.judge threshold now = { v with live := false, qualifiedFrom := none, cycles := if v.live then [] else v.cycles } := if_pos low

theorem VoltageChannel.judge_live (high : threshold ≤ v.value) (live : v.live = true) : v.judge threshold now = v := by
  unfold VoltageChannel.judge
  rw [if_neg (Nat.not_lt.mpr high), if_pos live]

theorem VoltageChannel.judge_begins (high : threshold ≤ v.value) (dead : v.live = false) (none_ : v.qualifiedFrom = none) :
    v.judge threshold now = { v with qualifiedFrom := some now } := by
  unfold VoltageChannel.judge
  rw [if_neg (Nat.not_lt.mpr high), if_neg (by simp [dead]), none_]

theorem VoltageChannel.judge_waits {start : Nat} (high : threshold ≤ v.value) (dead : v.live = false) (began : v.qualifiedFrom = some start) :
    v.judge threshold now = if start + 500000 ≤ now then { v with live := true, qualifiedFrom := none } else v := by
  unfold VoltageChannel.judge
  rw [if_neg (Nat.not_lt.mpr high), if_neg (by simp [dead]), began]
  rfl

theorem VoltageChannel.judge_keeps (threshold now : Nat) (v : VoltageChannel) :
    (v.judge threshold now).window = v.window ∧ (v.judge threshold now).value = v.value := by
  unfold VoltageChannel.judge
  repeat' split
  all_goals exact ⟨rfl, rfl⟩

end

/-- A voltage channel after an update: its window, its value, and its presence. -/
theorem VoltageChannel.updated_spec (x : Samples) (threshold now : Nat) (before : VoltageChannel) :
    let after := ((before.take x).judge threshold now).refresh now
    after.window = slide x before.window
      ∧ ((∃ y ∈ after.window, y.clipped = true) → after.value = 25000)
      ∧ (¬ (∃ y ∈ after.window, y.clipped = true) → measuredAs 25000 after.value after.window)
      ∧ (after.value < threshold → after.live = false ∧ after.qualifiedFrom = none)
      ∧ (threshold ≤ after.value → before.live = true → after.live = true)
      ∧ (threshold ≤ after.value → before.live = false → before.qualifiedFrom = none → after.live = false ∧ after.qualifiedFrom = some now)
      ∧ (∀ start, threshold ≤ after.value → before.live = false → before.qualifiedFrom = some start →
          (after.live = true ↔ start + 500000 ≤ now)) := by
  intro after
  obtain ⟨windows, clipped, measured, live, qualified⟩ := VoltageChannel.take_spec x before
  obtain ⟨window, value⟩ := (before.take x).judge_keeps threshold now
  have window : after.window = (before.take x).window := window
  have value : after.value = (before.take x).value := value
  have shows : after.live = ((before.take x).judge threshold now).live
    ∧ after.qualifiedFrom = ((before.take x).judge threshold now).qualifiedFrom := ⟨rfl, rfl⟩
  obtain ⟨lives, qualifies⟩ := shows
  clear_value after
  rw [window, value, lives, qualifies]
  refine ⟨windows, clipped, measured, fun low => ?_, fun high on => ?_, fun high dead none_ => ?_, fun start high dead began => ?_⟩
  · rw [VoltageChannel.judge_dead low]
    exact ⟨rfl, rfl⟩
  · rw [VoltageChannel.judge_live high (live.trans on)]
    exact live.trans on
  · rw [VoltageChannel.judge_begins high (live.trans dead) (qualified.trans none_)]
    exact ⟨live.trans dead, rfl⟩
  · rw [VoltageChannel.judge_waits high (live.trans dead) (qualified.trans began)]
    split
    · next over_ => exact ⟨fun _ => over_, fun _ => rfl⟩
    · next waiting => exact ⟨fun on => (nomatch on.symm.trans (live.trans dead)), fun over_ => absurd over_ waiting⟩

/-! ### The residual current (R3) -/

theorem sumWindows_at {ia ib ic : List Sample} {k : Nat} {a b c : Sample} (ha : ia[k]? = some a) (hb : ib[k]? = some b) (hc : ic[k]? = some c) :
    ∃ clip, (sumWindows ia ib ic)[k]? = some ⟨a.value + b.value + c.value, clip⟩ := by
  refine ⟨a.clipped || b.clipped || c.clipped, ?_⟩
  simp [sumWindows, List.getElem?_zip_eq_some, ha, hb, hc]

theorem sumWindows_length (ia ib ic : List Sample) : (sumWindows ia ib ic).length = min ia.length (min ib.length ic.length) := by
  simp [sumWindows]

/-! ### The report of a change of source, while the update goes on (R12, R137) -/

/-- From `r` to `r'` at most `k` reports are created, each an event: with none, or with room for them, every event queued stays. -/
def Rpu.files (k : Nat) (r r' : Rpu) : Prop :=
  ∃ j, j ≤ k ∧ r'.nextNumber = (if j = 0 then r.nextNumber else (r.nextNumber + j) % 65536)
    ∧ r'.eventOrMeasureCount ≤ r.eventOrMeasureCount + j
    ∧ (j = 0 ∨ r.eventOrMeasureCount + j ≤ 24 → ∀ x ∈ r.qEvent, x ∈ r'.qEvent)

theorem Rpu.files.refl (r : Rpu) : r.files 0 r := ⟨0, Nat.le_refl _, rfl, Nat.le_refl _, fun _ _ h => h⟩

theorem Rpu.files.trans {r r' r'' : Rpu} {k k' : Nat} (h : r.files k r') (h' : r'.files k' r'') : r.files (k + k') r'' := by
  obtain ⟨j, le, number, count, stays⟩ := h
  obtain ⟨j', le', number', count', stays'⟩ := h'
  refine ⟨j + j', Nat.add_le_add le le', ?_, by omega, fun room x hx => stays' (by omega) x (stays (by omega) x hx)⟩
  rw [number', number]
  repeat' split
  all_goals omega

theorem Rpu.event_files (now : Stamp) (kind : EventKind) (payload : List Byte) (r : Rpu) : r.files 1 (r.event now kind payload) := by
  obtain ⟨number, -⟩ := r.evict_counters
  refine ⟨1, Nat.le_refl _, ?_, ?_, fun room x hx => ?_⟩
  · rw [if_neg (by decide), ← number]
    rfl
  · obtain ⟨a, e, m, flight, held⟩ := r.evict_sublists
    have fewer : r.evict.eventOrMeasureCount ≤ r.eventOrMeasureCount :=
      List.Sublist.countP_le ((((a.append e).append m).append (flight ▸ .refl _)).append held)
    refine le_trans (le_of_eq ?_) (Nat.add_le_add_right fewer 1)
    simp [Rpu.event, Rpu.eventOrMeasureCount, Rpu.used, Rpu.count, Rpu.fresh, ReportKind.isAlarm]
    omega
  · have few : r.eventOrMeasureCount < 24 := by omega
    rw [Rpu.event, Rpu.evict_few few]
    exact List.mem_append_left _ hx

/-- From `s` to `t` at most `k` reports are created, each an event, no occurrence is cleared, and the battery settings stay. -/
structure State.tells (k : Nat) (s t : State) : Prop where
  lights : s.lights t
  settings : t.bcu.stored.settings = s.bcu.stored.settings
  files : s.rpu.files k t.rpu

section

variable {s t u : State} {k : Nat}

theorem State.tells.refl (s : State) : s.tells 0 s := ⟨State.lights.refl s, rfl, Rpu.files.refl _⟩

theorem State.tells.same (h : s.tells k t) (hr : u.rpu = t.rpu := by rfl) (hb : u.bcu.stored.settings = t.bcu.stored.settings := by rfl)
    (hc : u.ports.cAlerts = t.ports.cAlerts := by rfl) (hp : u.ports.pAlerts = t.ports.pAlerts := by rfl) : s.tells k u :=
  ⟨h.lights.same hc hp, hb.trans h.settings, hr ▸ h.files⟩

theorem State.tells.weaken {n : Nat} (h : s.tells k t) (le : k ≤ n) : s.tells n t := by
  obtain ⟨j, few, rest⟩ := h.files
  exact ⟨h.lights, h.settings, j, few.trans le, rest⟩

theorem State.tells.raise (h : s.tells k t) (f : Flag) : s.tells k (t.raise f) := ⟨h.lights.raise f, h.settings, h.files⟩

theorem State.tells.event (h : s.tells k t) (kind : EventKind) (payload : List Byte) : s.tells (k + 1) (t.event kind payload) :=
  ⟨h.lights.same rfl rfl, h.settings, h.files.trans (Rpu.event_files _ _ _ _)⟩

theorem State.tells.place (h : s.tells k t) (id : RecordId) : s.tells k (t.place id) := h.same

/-! ### Tests, trips, records and settings (R124, R66, R161, R43) -/

theorem State.tells.abortTest (h : s.tells k t) (cause : TestCause) : s.tells (k + 1) (t.abortTest cause) := by
  cases hr : t.bcu.test with
  | none =>
    have same : t.abortTest cause = t := by unfold State.abortTest; rw [hr]
    rw [same]
    exact h.weaken (Nat.le_succ k)
  | some r =>
    obtain ⟨bcu, rpu, -, -, c, p⟩ := State.releaseHold_rest r.port (r.abortedEntry cause r.vRest t.stamp).result
      (t.testAborted (r.abortedEntry cause r.vRest t.stamp))
    rw [State.abortTest_eq hr]
    refine State.tells.same ?_ rpu (by rw [bcu]) c p
    exact ((State.tells.place (h.same) .battery).event .batteryTestResult (r.abortedEntry cause r.vRest t.stamp).enc).raise .testDone

/-- A record without currents wears no pole and asks for no alarm. -/
theorem State.record_quiet {r : OpRecord} (quiet : r.currents = none) (s : State) :
    (s.record r).rpu = s.rpu ∧ (s.record r).bcu = s.bcu ∧ (s.record r).ports = s.ports := by
  simp [State.record, quiet]

theorem State.tells.suspendTest (h : s.tells k t) : s.tells (k + 1) t.suspendTest := by
  have more := h.weaken (Nat.le_succ k)
  unfold State.suspendTest
  split
  · split
    · exact more
    · dsimp only
      split
      · exact State.tells.abortTest (h.same) _
      · exact more.same rfl (by rw [State.withBcu, Bcu.toBulk_stored]; rfl)
  · exact more

theorem State.tells.beginTrip_protection (h : s.tells k t) (e : Option Element) (c : Currents) :
    s.tells (k + 1) (t.beginTrip .protection e c) := by
  rw [State.beginTrip_eq, State.tripStarted_protection]
  refine State.tells.suspendTest ?_
  have pulsed : s.tells k (t.tripPulsed .protection e c) := by
    unfold State.tripPulsed
    dsimp only
    split
    · exact (State.tells.raise (h.same) .energyLow).same
    · exact h.same
  exact pulsed.same

theorem State.tells.requestTripWith_protection (h : s.tells k t) (e : Option Element) (c : Currents) :
    s.tells (k + 2) (t.requestTripWith .protection e c) := by
  rcases t.requestTripWith_cases .protection e c with ⟨-, eq⟩ | ⟨op, -, -, eq⟩ | ⟨op, -, kind, eq⟩ <;> rw [eq]
  · exact (h.beginTrip_protection e c).weaken (by omega)
  · have more : s.tells (k + 2) t := h.weaken (by omega)
    split
    · exact more
    · exact more.same
  · unfold State.cutClose
    rw [State.handOff_cut kind]
    have begun := State.tells.beginTrip_protection (t := t.withMdr fun m => { m with closeDrive := false }) (h.same) e c
    refine State.tells.raise (State.tells.event ?_ _ _) _
    have quiet : (op.toRecord .cut).currents = none := by simp [Operation.toRecord, kind]
    obtain ⟨rpu, bcu, ports⟩ := State.record_quiet quiet _
    exact begun.same rpu (by rw [bcu]) (by rw [ports]) (by rw [ports])

theorem State.tells.activationTest (h : s.tells k t) : s.tells (k + 1) t.activationTest := by
  rcases t.activationTest_cases with e | ⟨staged, -, -, e⟩ <;> rw [e]
  · exact h.weaken (Nat.le_succ k)
  · exact State.tells.event (State.tells.raise (h.same) .settingsActive) _ _

theorem State.tells.updateOver (h : s.tells k t) : s.tells (k + 1) t.updateOver := by
  have paused : s.tells k t.pauseReclaim := by
    unfold State.pauseReclaim
    repeat' split
    all_goals exact h.same
  unfold State.updateOver
  split
  · exact paused.activationTest
  · exact paused.weaken (Nat.le_succ k)

/-- The results of an update create at most three events (R33, R42, R60, R66). -/
theorem State.takeUpdate_tells (r : UpdateResult) (s : State) : s.tells 3 (s.takeUpdate r) := by
  have picked : s.tells 0 (s.pickedUp r.picked) := (State.tells.refl s).same
  by_cases decided : r.decision = []
  · rw [State.takeUpdate_undecided decided]
    refine State.tells.updateOver (k := 2) ?_
    unfold State.coordinate
    split
    · next n _ _ =>
      obtain ⟨rpu, bcu, ports⟩ := State.record_quiet (r := ⟨(s.pickedUp r.picked).advanced.oru.counters.next, .seqAdvance,
        (s.pickedUp r.picked).advanced.stamp, 0, .protection, some n.element, none, none, none, false⟩) rfl
        (s.pickedUp r.picked).advanced.takeNumber.1
      have made : s.tells 0 ((s.pickedUp r.picked).advanced.newRecord .seqAdvance .protection (some n.element) none none).1 :=
        picked.same rpu (congrArg (fun b : Bcu => b.stored.settings) bcu) (congrArg Ports.cAlerts ports) (congrArg Ports.pAlerts ports)
      exact (made.event _ _).weaken (by omega)
    · exact picked.weaken (by omega)
  · rw [State.takeUpdate_decided decided]
    refine State.tells.updateOver (k := 2) ?_
    unfold State.takeDecision
    dsimp only
    split
    · exact picked.weaken (by omega)
    · split
      · exact State.tells.requestTripWith_protection (picked.same) _ _
      · exact State.tells.requestTripWith_protection (picked.same) _ _
      · exact State.tells.weaken (picked.same) (by omega)
      · exact picked.weaken (by omega)

end

end Sys2Proof.Machine
end

section
/-! PROOFS. A measurement update as a whole (R1 to R12). -/

namespace Sys2Proof.Machine

section

variable {s : State} {r : Readings} {d e : Channel}

/-- The line as an update reads it, before the tracker is judged. -/
def State.readLine (r : Readings) (s : State) : State :=
  { s with lmu := ((s.lmu.measure r).nextInterval s.now).mapChannels fun v =>
      (v.judge ((s.lmu.measure r).nextInterval s.now).settings.threshold s.now).refresh s.now }

theorem State.measureLine_eq (r : Readings) (s : State) :
    s.measureLine r = { (s.readLine r).keepLock with lmu := (s.readLine r).keepLock.lmu.keepMeasured } := rfl

/-- The tracker's part of an update: all else of the line is as it was read. -/
theorem State.measureLine_lmu (r : Readings) (s : State) : ∃ tracker period, (s.measureLine r).lmu
    = { (s.readLine r).lmu with tracker := tracker, period := period, measuredPeriod := period, measuredTracker := tracker } := by
  obtain ⟨tracker, period, h⟩ := (s.readLine r).keepLock_lmu
  refine ⟨tracker, period, ?_⟩
  rw [State.measureLine_eq]
  exact congrArg Lmu.keepMeasured h

theorem State.measureLine_channel (r : Readings) (s : State) (d : Channel) : (s.measureLine r).lmu.channel d = (s.readLine r).lmu.channel d := by
  obtain ⟨tracker, period, h⟩ := s.measureLine_lmu r
  rw [h]
  cases d <;> rfl

/-- A locked source that is left, with what R12 tells of it. -/
theorem State.keepLock_leaves (locked : s.lmu.tracker = .locked d) (bad : (s.lmu.channel d).good = false) :
    let next := s.lmu.settings.sources.find? fun e => (s.lmu.channel e).good
    let period := match next with
      | some e => ((s.lmu.channel e).period).getD s.lmu.period
      | none => s.lmu.period
    let payload : List Byte := (match next with
      | some e => [1, 1, channelCode e]
      | none => [2, 0]) ++ be 2 (roundDiv 100000000 period)
    s.keepLock.lmu.tracker = (match next with
        | some e => .locked e
        | none => .holdover (s.now + 10000000))
      ∧ s.keepLock.lmu.period = period
      ∧ s.keepLock.rpu = s.rpu.event s.stamp .frequencyState payload
      ∧ s.keepLock.ports = s.ports.raise .freqState := by
  cases next : s.lmu.settings.sources.find? fun e => (s.lmu.channel e).good with
  | some e =>
    rw [State.keepLock_moves locked (.inr bad) next]
    exact ⟨rfl, rfl, rfl, rfl⟩
  | none =>
    rw [State.keepLock_loses locked next]
    exact ⟨rfl, rfl, rfl, rfl⟩

/-- A locked source left for the next one (R8, R12). -/
theorem State.measureLine_leaves (locked : s.lmu.tracker = .locked d) (bad : ((s.measureLine r).lmu.channel d).good = false) :
    let next := s.lmu.settings.sources.find? fun e => ((s.measureLine r).lmu.channel e).good
    let period := match next with
      | some e => (((s.measureLine r).lmu.channel e).period).getD s.lmu.period
      | none => s.lmu.period
    let payload : List Byte := (match next with
      | some e => [1, 1, channelCode e]
      | none => [2, 0]) ++ be 2 (roundDiv 100000000 period)
    (s.measureLine r).lmu.tracker = (match next with
        | some e => .locked e
        | none => .holdover (s.now + 10000000))
      ∧ (s.measureLine r).lmu.period = period
      ∧ (s.measureLine r).rpu = s.rpu.event s.stamp .frequencyState payload
      ∧ (s.measureLine r).ports = s.ports.raise .freqState := by
  have channel (d : Channel) : (s.measureLine r).lmu.channel d = (s.readLine r).lmu.channel d := s.measureLine_channel r d
  simp only [channel] at bad ⊢
  exact State.keepLock_leaves (s := s.readLine r) locked bad

/-- Without a change of source nothing is told. -/
theorem State.measureLine_stays (kept : (s.readLine r).keepLock = s.readLine r) : (s.measureLine r).lmu.tracker = s.lmu.tracker
    ∧ (s.measureLine r).lmu.period = s.lmu.period ∧ (s.measureLine r).rpu = s.rpu ∧ (s.measureLine r).ports = s.ports := by
  rw [State.measureLine_eq, kept]
  exact ⟨rfl, rfl, rfl, rfl⟩

theorem residual_saturated (a b c : CurrentChannel) :
    (residual a b c).saturated = true ↔ a.saturated = true ∨ b.saturated = true ∨ c.saturated = true := by
  simp [residual, or_assoc]

/-- A report told with room for three more, or after which none was created, is still queued. -/
theorem Rpu.files_told {q q' : Rpu} {now : Stamp} {kind : EventKind} {payload : List Byte} (h : (q.event now kind payload).files 3 q')
    (room : q.eventOrMeasureCount < 20 ∨ q'.nextNumber = (q.nextNumber + 1) % 65536) :
    ∃ x ∈ q'.qEvent, x.kind = .event kind ∧ x.number = q.nextNumber ∧ x.created = now ∧ x.payload = payload := by
  obtain ⟨number, -⟩ := q.evict_counters
  have told : q.evict.fresh now (.event kind) payload q.evict.lost ∈ (q.event now kind payload).qEvent :=
    List.mem_append_right _ (List.mem_singleton.mpr rfl)
  obtain ⟨j, few, next, -, stays⟩ := h
  obtain ⟨one, le, counted, grown, -⟩ := Rpu.event_files now kind payload q
  refine ⟨_, stays ?_ _ told, rfl, number, rfl, rfl⟩
  have after : (q.event now kind payload).nextNumber = (q.nextNumber + 1) % 65536 := by
    rw [← number]
    rfl
  rcases room with room | none_
  · exact .inr (by omega)
  · refine .inl ?_
    rw [none_, after] at next
    split at next
    · assumption
    · omega

theorem State.measureLine_holds (locked : s.lmu.tracker = .locked d) (good : ((s.measureLine r).lmu.channel d).good = true)
    (listed : d ∈ s.lmu.settings.sources) : (s.measureLine r).lmu.tracker = s.lmu.tracker ∧ (s.measureLine r).lmu.period = s.lmu.period
      ∧ (s.measureLine r).rpu = s.rpu ∧ (s.measureLine r).ports = s.ports := by
  rw [s.measureLine_channel r d] at good
  exact State.measureLine_stays (State.keepLock_stays (s := s.readLine r) locked listed good)

theorem State.measureLine_free (h : ∀ d, s.lmu.tracker ≠ .locked d) : (s.measureLine r).lmu.tracker = s.lmu.tracker
    ∧ (s.measureLine r).lmu.period = s.lmu.period ∧ (s.measureLine r).rpu = s.rpu ∧ (s.measureLine r).ports = s.ports :=
  State.measureLine_stays (State.keepLock_free (s := s.readLine r) h)

/-- What an update reads of every channel, and its next interval. -/
structure Lmu.readFrom (r : Readings) (now : Nat) (l l' : Lmu) : Prop where
  ia : l'.ia = l.ia.take r.ia
  ib : l'.ib = l.ib.take r.ib
  ic : l'.ic = l.ic.take r.ic
  ig : l'.ig = residual l'.ia l'.ib l'.ic
  vaS : l'.vaS = ((l.vaS.take r.vaS).judge l.settings.threshold now).refresh now
  vbS : l'.vbS = ((l.vbS.take r.vbS).judge l.settings.threshold now).refresh now
  vcS : l'.vcS = ((l.vcS.take r.vcS).judge l.settings.threshold now).refresh now
  vaL : l'.vaL = ((l.vaL.take r.vaL).judge l.settings.threshold now).refresh now
  vbL : l'.vbL = ((l.vbL.take r.vbL).judge l.settings.threshold now).refresh now
  vcL : l'.vcL = ((l.vcL.take r.vcL).judge l.settings.threshold now).refresh now
  lastUpdate : l'.lastUpdate = now
  interval : l'.interval = roundDiv l.period 8
  settings : l'.settings = l.settings
  measuredPeriod : l'.measuredPeriod = l'.period
  measuredTracker : l'.measuredTracker = l'.tracker

theorem State.measureLine_reads (r : Readings) (s : State) : s.lmu.readFrom r s.now (s.measureLine r).lmu := by
  obtain ⟨tracker, period, read⟩ := s.measureLine_lmu r
  rw [read]
  exact ⟨rfl, rfl, rfl, rfl, rfl, rfl, rfl, rfl, rfl, rfl, rfl, rfl, rfl, rfl, rfl⟩

end

/-- Settles O37: the channels as they are read, the tracker as it is judged, and the report of a change of source through the rest of the
update. -/
theorem measurementUpdateReadsTheLine : Obligations.MeasurementUpdateReadsTheLine := by
  intro r s hp at_ threshold last clipped squared unit measures phase volts
  have currents (x : Samples) (before : CurrentChannel) : phase x before (before.take x) := CurrentChannel.take_spec x before
  have voltages (x : Samples) (before : VoltageChannel) : volts x before (((before.take x).judge threshold at_.now).refresh at_.now) :=
    VoltageChannel.updated_spec x threshold at_.now before
  let line := at_.measureLine r
  have reads : s.lmu.readFrom r at_.now line.lmu := at_.measureLine_reads r
  have holds (d : Channel) (locked : s.lmu.tracker = .locked d) := State.measureLine_holds (s := at_) (r := r) (d := d) locked
  have free (h : ∀ d, s.lmu.tracker ≠ .locked d) := State.measureLine_free (s := at_) (r := r) h
  have leaves (d : Channel) (locked : s.lmu.tracker = .locked d) := State.measureLine_leaves (s := at_) (r := r) (d := d) locked
  obtain ⟨clock, -, -, -, -, bcu, -, -, -, -, powered, -, pending⟩ := at_.measureLine_frame r
  have run : ∃ result, exec (.measurementUpdate r) s = .next (State.takeUpdate result { line with oeb := (line.oeb.update line.sqc.active
      line.sqc.shot s.lmu.interval line.lmu.currents).1 }).rejudge :=
    ⟨_, act_powered (f := (·.updateLine r)) hp⟩
  obtain ⟨result, run⟩ := run
  generalize (line.oeb.update line.sqc.active line.sqc.shot s.lmu.interval line.lmu.currents).1 = oeb at run
  let v : State := { line with oeb := oeb }
  have tells : v.tells 3 (v.takeUpdate result) := v.takeUpdate_tells result
  obtain ⟨clockKept, lmuKept, -, -, poweredKept, -, pendingKept⟩ := v.takeUpdate_frame result
  have lmu : (v.takeUpdate result).rejudge.lmu = line.lmu := lmuKept
  refine ⟨_, run, ?_⟩
  rw [lmu, reads.ig, reads.ia, reads.ib, reads.ic, reads.vaS, reads.vbS, reads.vcS, reads.vaL, reads.vbL, reads.vcL]
  refine ⟨currents _ _, currents _ _, currents _ _, fun k a b c ha hb hc => ?_, ?_, ?_, ?_, voltages _ _, voltages _ _, voltages _ _, voltages _ _,
    voltages _ _, voltages _ _, fun d locked good listed => ?_, fun d locked bad => ?_, fun h => ?_, ?_, reads.lastUpdate, reads.interval,
    reads.measuredPeriod, reads.measuredTracker, reads.settings, ?_, ?_, ?_⟩
  · exact sumWindows_at ha hb hc
  · exact sumWindows_length _ _ _
  · exact clamped_measures _ (by decide)
  · exact residual_saturated _ _ _
  · obtain ⟨tracker, period, rpu, ports⟩ := holds d locked good listed
    exact ⟨tracker.trans locked, period, rpu, ports⟩
  · intro next period payload
    obtain ⟨tracker, moved, rpu, ports⟩ := leaves d locked bad
    have lit : (v.takeUpdate result).ports.cAlerts.lit .freqState ∧ (v.takeUpdate result).ports.pAlerts.lit .freqState :=
      ⟨(tells.lights _).1 (by rw [show v.ports = _ from ports]; simp), (tells.lights _).2 (by rw [show v.ports = _ from ports]; simp)⟩
    refine ⟨tracker, moved, lit.1, lit.2, rpu, fun room => ?_⟩
    have files := tells.files
    rw [show v.rpu = _ from rpu] at files
    rw [State.rejudge_qEvent]
    exact Rpu.files_told files (room.imp id fun h => (State.rejudge_reads (·.rpu.nextNumber) (fun _ _ => rfl) _).symm.trans h)
  · exact free h
  · exact clockKept.trans clock
  · exact tells.settings.trans (congrArg (fun b : Bcu => b.stored.settings) bcu)
  · exact poweredKept.trans (powered.trans hp)
  · exact pendingKept.trans pending

end Sys2Proof.Machine
end

section
/-! PROOFS. The port engines: what the checks of a frame find, and what a complete frame, an incomplete one and a break lead to
(R155, R170 to R172, R191, R192, R194). -/

namespace Sys2Proof.Machine

/-! ### The checks of a request (R172) -/

/-- The bytes from the kind on carry the command as a request (R191). -/
def CarriesRequest (src : Source) (fields : List Byte) (c : Instr) : Prop :=
  ∃ (k : RequestKind) (ref : Byte) (body : List Byte), fields = k.code :: ref :: body ∧ k.lengthOk body.length = true
    ∧ k.decode src ref body = some c

theorem RequestKind.find_code (k : RequestKind) : RequestKind.all.find? (fun x => x.code == k.code) = some k := by
  cases k <;> rfl

theorem RequestKind.find_unknown {kind : Byte} (h : ∀ k : RequestKind, k.code ≠ kind) :
    RequestKind.all.find? (fun x => x.code == kind) = none := by
  rw [List.find?_eq_none]
  intro k _
  simpa using h k

section

variable {src : Source} {ref : Byte} {body : List Byte}

theorem checkRequest_unknown {kind : Byte} (h : ∀ k : RequestKind, k.code ≠ kind) :
    checkRequest src (kind :: ref :: body) = .unknown kind ref := by
  simp [checkRequest, RequestKind.find_unknown h]

theorem checkRequest_known (k : RequestKind) : checkRequest src (k.code :: ref :: body) =
    if k.lengthOk body.length then ((k.decode src ref body).map Checked.good).getD (.badLength k.code ref) else .badLength k.code ref := by
  simp [checkRequest, RequestKind.find_code]

theorem checkRequest_badLength {k : RequestKind} (h : k.lengthOk body.length = false ∨ k.decode src ref body = none) :
    checkRequest src (k.code :: ref :: body) = .badLength k.code ref := by
  rw [checkRequest_known]
  obtain h | h := h <;> simp [h]

theorem checkRequest_good {fields : List Byte} {c : Instr} : checkRequest src fields = .good c ↔ CarriesRequest src fields c := by
  constructor
  · intro h
    match fields, h with
    | kind :: ref :: body, h =>
      by_cases known : ∃ k : RequestKind, k.code = kind
      · obtain ⟨k, rfl⟩ := known
        rw [checkRequest_known] at h
        split at h
        · next fits =>
          refine ⟨k, ref, body, rfl, fits, ?_⟩
          cases hd : k.decode src ref body with
          | none => simp [hd] at h
          | some d => simpa [hd] using h
        · cases h
      · rw [checkRequest_unknown (by simpa using known)] at h
        cases h
  · rintro ⟨k, ref, body, rfl, fits, decodes⟩
    simp [checkRequest_known, fits, decodes]

end

theorem CarriesRequest.request {src : Source} {fields : List Byte} {c : Instr} (h : CarriesRequest src fields c) : c.request.isSome = true := by
  obtain ⟨k, ref, body, -, -, decodes⟩ := h
  simp [RequestKind.decode_request decodes]

/-! ### The checks of an L-port frame (R155, R194) -/

theorem ofBytes_be {n : Nat} (h : n < 65536) : ofBytes (be 2 n) = n := by
  simp [ofBytes, be]
  omega

theorem ofBytes_station (station : Word16) : BitVec.ofNat 16 (ofBytes (be 2 station.toNat)) = station := by
  rw [ofBytes_be station.isLt]
  simp

section

variable {l : LinkSettings} {bytes : List Byte}

/-- A frame's bytes from its type on start with its fields. -/
theorem fields_first {fields : List Byte} (h : (bytes.drop 3).take (bytes.length - 5) = fields) :
    bytes.drop 3 = fields ++ (bytes.drop 3).drop (bytes.length - 5) := by
  rw [← h, List.take_append_drop]

/-- What a REQUEST's address leaves of what its checks found (R155). -/
def Addressed.lets : Addressed → Checked → Checked
  | .exact, found => found
  | .group, .good c => .good c
  | _, _ => .dropped

theorem checkRadioFrame_type1 {hi lo : Byte} {rest : List Byte} (h : bytes.drop 3 = 0x01 :: hi :: lo :: rest) :
    checkRadioFrame l bytes = if frameOk (within 5 300) bytes then
      (l.judge (BitVec.ofNat 16 (ofBytes [hi, lo]))).lets
        (checkRequest (.l (BitVec.ofNat 16 (ofBytes [hi, lo]))) ((bytes.drop 6).take (bytes.length - 8)))
      else .dropped := by
  unfold checkRadioFrame
  rw [h] <;> rfl

theorem checkRadioFrame_type4 {hi lo : Byte} {rest : List Byte} (h : bytes.drop 3 = 0x04 :: hi :: lo :: rest) :
    checkRadioFrame l bytes = if frameOk (· == 5) bytes then
      .good (.ack (BitVec.ofNat 16 (ofBytes [hi, lo])) (ofBytes (rest.take 2))) else .dropped := by
  unfold checkRadioFrame
  rw [h] <;> rfl

/-- What the checks make of a REQUEST for a station that passes its length and CRC. -/
theorem checkRadioFrame_request {station : Word16} {rest : List Byte} (passes : frameOk (within 5 300) bytes = true)
    (h : (bytes.drop 3).take (bytes.length - 5) = 0x01 :: be 2 station.toNat ++ rest) :
    checkRadioFrame l bytes = (l.judge station).lets (checkRequest (.l station) rest) := by
  have from_kind : (bytes.drop 6).take (bytes.length - 8) = rest := by
    have e := congrArg (List.drop 3) h
    rw [List.drop_take, List.drop_drop] at e
    exact e
  have e := checkRadioFrame_type1 (l := l) (fields_first h)
  rw [if_pos passes, from_kind] at e
  exact e.trans (congrArg (fun x => (l.judge x).lets (checkRequest (.l x) rest)) (ofBytes_station station))

theorem checkRadioFrame_ack {station : Word16} {number : Nat} (passes : frameOk (· == 5) bytes = true) (small : number < 65536)
    (h : (bytes.drop 3).take (bytes.length - 5) = 0x04 :: be 2 station.toNat ++ be 2 number) :
    checkRadioFrame l bytes = .good (.ack station number) := by
  have e := checkRadioFrame_type4 (l := l) (fields_first h)
  rw [if_pos passes] at e
  exact e.trans (congrArg₂ (fun x n => Checked.good (.ack x n)) (ofBytes_station station) (ofBytes_be small))

/-- A REQUEST or an ACK that fails its length or its CRC is dropped, and so is a frame of a type the part sends. -/
theorem checkRadioFrame_request_fails (fails : frameOk (within 5 300) bytes = false) (h : (bytes.drop 3).head? = some 0x01) :
    checkRadioFrame l bytes = .dropped := by
  unfold checkRadioFrame
  split
  · simp [fails]
  · next e => rw [e] at h; cases h
  · rfl

theorem checkRadioFrame_ack_fails (fails : frameOk (· == 5) bytes = false) (h : (bytes.drop 3).head? = some 0x04) :
    checkRadioFrame l bytes = .dropped := by
  unfold checkRadioFrame
  split
  · next e => rw [e] at h; cases h
  · simp [fails]
  · rfl

theorem checkRadioFrame_sent (h : (bytes.drop 3).head? = some 0x02 ∨ (bytes.drop 3).head? = some 0x03) :
    checkRadioFrame l bytes = .dropped := by
  unfold checkRadioFrame
  split
  · next e => rw [e] at h; simp at h
  · next e => rw [e] at h; simp at h
  · rfl

theorem LinkSettings.judge_own : l.judge l.address = .exact := by simp [LinkSettings.judge]

theorem LinkSettings.judge_group {station : Word16} (ne : station ≠ l.address)
    (h : station = 0xFFFF ∨ (station ^^^ l.address) &&& l.mask = 0) : l.judge station = .group := by
  unfold LinkSettings.judge
  rw [if_neg ne, if_pos (by simpa using h)]

theorem LinkSettings.judge_other {station : Word16} (ne : station ≠ l.address)
    (h : ¬ (station = 0xFFFF ∨ (station ^^^ l.address) &&& l.mask = 0)) : l.judge station = .other := by
  unfold LinkSettings.judge
  rw [if_neg ne, if_neg (by simpa using h)]

end

/-! ### What a command on a port leads to -/

/-- The port is answered, the other ports' lists stay, and the rest is as `u` (R172). -/
def State.failsWith (c : Instr) (port : Port) (a : Answer) (s u : State) : Prop :=
  ∃ t, exec c s = .next t ∧ t.answersAs s = u ∧ t.answersAt port = pushAnswer a (s.answersAt port)
    ∧ ∀ q, q ≠ port → t.answersAt q = s.answersAt q

/-- Nothing is answered, no radio frame stays partial, and the rest is as `u`. -/
def State.silent (c : Instr) (s u : State) : Prop :=
  ∃ t, exec c s = .next t ∧ t.ports.lPartial = [] ∧ t.supplyAs s = u

section

variable {s v u : State} {f : State → State} {c : Instr} {port : Port}

theorem State.failsWith_of {a : Answer} (hp : s.powered = true) (he : exec c s = act f s) (hf : f s = v.answer port a)
    (hv : v.answersAs s = u) (hl : ∀ q, v.answersAt q = s.answersAt q) : s.failsWith c port a u := by
  refine ⟨_, he.trans (act_powered hp), ?_, ?_, fun q ne => ?_⟩
  · rw [State.rejudge_answersAs, hf, State.answer_answersAs, hv]
  · rw [State.rejudge_answersAt, hf, State.answer_answersAt, if_pos rfl, hl]
  · rw [State.rejudge_answersAt, hf, State.answer_answersAt, if_neg ne, hl]

theorem State.rejudge_received (h : s.ports.lPartial = []) : s.rejudge.ports.lPartial = [] := by
  unfold State.rejudge
  dsimp only [Ports.keepReceived]
  split <;> simp [h]

theorem State.silent_of (hp : s.powered = true) (he : exec c s = act f s) (hl : (f s).ports.lPartial = [])
    (hu : (f s).supplyAs s = u) : s.silent c u :=
  ⟨_, he.trans (act_powered hp), State.rejudge_received hl, by rw [State.rejudge_supplyAs, hu]⟩

/-- A good frame acts as the request it carries (R191). -/
theorem State.exec_carried {d : Instr} (hp : s.powered = true) (he : exec c s = act f s) (hf : f s = v.found port (.good d))
    (vp : v.powered = true) (hd : d.request.isSome = true) : exec c s = exec d v := by
  rw [he, act_powered hp, hf, State.takeCommand_exec hd vp]
  rfl

theorem State.exec_acked {station : Word16} {number : Nat} (hp : s.powered = true) (he : exec c s = act f s)
    (hf : f s = v.found port (.good (.ack station number))) (vp : v.powered = true) : exec c s = exec (.ack station number) v := by
  rw [he, act_powered hp, hf]
  exact (settle_act vp).symm

end

/-! ### A complete frame on the C-port or the P-port -/

/-- What R172 makes of the bytes of one transaction or one whole frame; `u` is the state the checks start from. -/
def State.judgesFrame (port : Port) (src : Source) (bytes : List Byte) (s u : State) : Prop :=
  (frameOk (within 2 300) bytes = false → s.failsWith (.badFrame port bytes) port .frameError u)
  ∧ (∀ kind ref body, frameOk (within 2 300) bytes = true → (bytes.drop 3).take (bytes.length - 5) = kind :: ref :: body →
    ((∀ k : RequestKind, k.code ≠ kind) → s.failsWith (.badFrame port bytes) port ⟨kind, ref, .unknown, []⟩ u)
    ∧ (∀ k : RequestKind, k.code = kind → k.lengthOk body.length = false ∨ k.decode src ref body = none →
        s.failsWith (.badFrame port bytes) port ⟨kind, ref, .invalid, [0]⟩ u))
  ∧ (∀ c, frameOk (within 2 300) bytes = true → CarriesRequest src ((bytes.drop 3).take (bytes.length - 5)) c →
      exec (.badFrame port bytes) s = exec c u)

theorem State.judgesFrame_of {port : Port} {src : Source} {bytes : List Byte} {s u : State} {f : State → State}
    (hp : s.powered = true) (he : exec (.badFrame port bytes) s = act f s) (hf : f s = u.found port (checkPortFrame src bytes))
    (wired : port ≠ .l) (up : u.powered = true) (hu : u.answersAs s = u) (hl : ∀ q, u.answersAt q = s.answersAt q) :
    s.judgesFrame port src bytes u := by
  have checked (ok : frameOk (within 2 300) bytes = true) :
      f s = u.found port (checkRequest src ((bytes.drop 3).take (bytes.length - 5))) := by
    rw [hf, checkPortFrame, if_pos ok]
  refine ⟨fun bad => ?_, fun kind ref body ok fields => ⟨fun unknown => ?_, ?_⟩, fun c ok carried => ?_⟩
  · refine failsWith_of hp he (hf.trans ?_) hu hl
    rw [checkPortFrame, if_neg (by simp [bad])]
    exact if_neg wired
  · refine failsWith_of hp he ((checked ok).trans ?_) hu hl
    rw [fields, checkRequest_unknown unknown]
    rfl
  · rintro k rfl bad
    refine failsWith_of hp he ((checked ok).trans ?_) hu hl
    rw [fields, checkRequest_badLength bad]
    rfl
  · exact exec_carried hp he ((checked ok).trans (by rw [checkRequest_good.mpr carried])) up carried.request

/-! ### The bytes of a stream (R171) -/

/-- The bytes begin a frame and do not complete it. -/
def Incomplete (l : List Byte) : Prop :=
  l.head? = some 0xA5 ∧ (l.length < 3 ∨ l.length < ofBytes ((l.drop 1).take 2) + 5)

/-- The bytes are one complete frame. -/
def Whole (bytes : List Byte) : Prop :=
  bytes.head? = some 0xA5 ∧ 3 ≤ bytes.length ∧ ofBytes ((bytes.drop 1).take 2) + 5 = bytes.length

section

variable {s : State} {port : UartPort} {bytes : List Byte}

theorem ne_nil_of_start (h : bytes.head? = some 0xA5) : bytes ≠ [] := by
  rintro rfl
  cases h

theorem State.receive_nothing : s.receive port [] = s := by simp [State.receive]

theorem State.receive_deaf (h : s.deaf port = true) : s.receive port bytes = s := by simp [State.receive, h]

theorem State.gapPassed_empty (h : s.ports.partialOf port = []) : s.gapPassed port = false := by simp [State.gapPassed, h]

theorem State.gapPassed_soon (h : s.now ≤ s.ports.lastByte port + 20000) : s.gapPassed port = false := by
  have late : ¬ s.ports.lastByte port + frameGap ≤ s.now := by
    change ¬ _ + 20001 ≤ _
    omega
  simp [State.gapPassed, late]

/-- Bytes that arrive in time reach the parser behind the partial frame. -/
theorem State.receive_heard (hears : s.deaf port = false) (some_ : bytes ≠ []) (gap : s.gapPassed port = false) :
    s.receive port bytes = (parse (s.ports.partialOf port ++ bytes)).1.foldl (fun s f => s.takeFrame port f)
      (s.setParser port (parse (s.ports.partialOf port ++ bytes)).2 s.now) := by
  have full : bytes.isEmpty = false := by simpa using some_
  simp [State.receive, hears, full, gap]

theorem State.receive_whole (hears : s.deaf port = false) (start : s.ports.partialOf port = []) (whole : Whole bytes) :
    s.receive port bytes = (s.setParser port [] s.now).takeFrame port bytes := by
  obtain ⟨first, long, exact_⟩ := whole
  rw [State.receive_heard hears (ne_nil_of_start first) (gapPassed_empty start), start, List.nil_append, parse_whole first long exact_]
  rfl

theorem State.receive_part (hears : s.deaf port = false) (some_ : bytes ≠ []) (gap : s.gapPassed port = false)
    (part : Incomplete (s.ports.partialOf port ++ bytes)) :
    s.receive port bytes = s.setParser port (s.ports.partialOf port ++ bytes) s.now := by
  rw [State.receive_heard hears some_ gap, parse_incomplete part.1 part.2]
  rfl

theorem State.failPartial_none (h : s.ports.partialOf port = []) : s.failPartial port = s := by simp [State.failPartial, h]

theorem State.failPartial_p (h : s.ports.pPartial ≠ []) : s.failPartial .p = (s.discardPartial .p).answer .p .frameError := by
  simp [State.failPartial, Ports.partialOf, h]

theorem State.failPartial_l (h : s.ports.lPartial ≠ []) : s.failPartial .l = s.discardPartial .l := by
  simp [State.failPartial, Ports.partialOf, h]

theorem frameGap_eq : frameGap = 20001 := rfl

/-- The gap after the bytes fails what they leave partial. -/
theorem State.gapOver_of {t : State} {last : Nat} (h : s.receive port bytes = t) (part : t.ports.partialOf port ≠ [])
    (hlast : t.ports.lastByte port = last) : s.gapOver port bytes = (t.reach (last + 20001)).failPartial port := by
  have full : (t.ports.partialOf port).isEmpty = false := by simpa using part
  rw [← frameGap_eq, ← hlast]
  simp [State.gapOver, h, full]

end

end Sys2Proof.Machine
end

section
/-! PROOFS. Received bytes on each port (R155, R170 to R172, R181, R192, R194). -/

namespace Sys2Proof.Machine

section

variable {s : State} {bytes : List Byte} {c : Instr}

/-! ### The C-port -/

theorem State.transactOnC_cons (active : s.ports.resetIn = false) (first : bytes ≠ []) (request : bytes.head? ≠ some 0x5A) :
    s.transactOnC bytes = s.found .c (checkPortFrame .c bytes) := by
  cases bytes with
  | nil => exact absurd rfl first
  | cons b rest =>
    have other : b ≠ 0x5A := fun e => request (congrArg some e)
    exact (if_neg (by simp [active])).trans (if_neg other)

theorem State.transactOnC_under_reset (held : s.ports.resetIn = true) (first : bytes ≠ []) :
    s.transactOnC bytes = s.turnedAway .c := by
  cases bytes with
  | nil => exact absurd rfl first
  | cons b rest => simp [State.transactOnC, held]

theorem State.transactOnC_read {rest : List Byte} (active : s.ports.resetIn = false) :
    s.transactOnC (0x5A :: rest) = s.readAnswer rest.length := by
  simp [State.transactOnC, active]

/-! ### The P-port -/

/-- `u` with the P-port's parser as given. -/
def State.onP (kept : List Byte) (last : Nat) (s u : State) : State :=
  { u with ports := { s.ports with pPartial := kept, pLast := last } }

theorem State.badFrame_p (hp : s.powered = true) (active : s.ports.resetIn = false) (start : s.ports.pPartial = []) (whole : Whole bytes) :
    s.judgesFrame .p .p bytes (s.onP [] s.now s) := by
  refine judgesFrame_of hp (f := State.receive .p bytes) rfl ?_ nofun hp rfl fun q => by cases q <;> rfl
  exact State.receive_whole (port := .p) active start whole

/-- A gap that fails the partial frame is answered FRAME_ERROR. -/
theorem State.failsWith_gap {last moment : Nat} (hp : s.powered = true)
    (h : s.gapOver .p bytes = (s.onP [] last (s.reach moment)).answer .p .frameError) :
    s.failsWith (.frameGapTimeout .p bytes) .p .frameError (s.onP [] last (s.reach moment)) :=
  failsWith_of hp (f := State.gapOver .p bytes) rfl h rfl fun q => by cases q <;> rfl

theorem State.reach_failPartial_p {kept : List Byte} {last moment : Nat} (full : kept ≠ []) :
    ((s.onP kept last s).reach moment).failPartial .p = (s.onP [] last (s.reach moment)).answer .p .frameError := by
  rw [failPartial_p (s := (s.onP kept last s).reach moment) full]
  rfl

theorem State.p_incomplete (hp : s.powered = true) (active : s.ports.resetIn = false) (some_ : bytes ≠ [])
    (part : Incomplete (s.ports.pPartial ++ bytes)) (inTime : s.ports.pPartial = [] ∨ s.now ≤ s.ports.pLast + 20000) :
    s.leads (.badFrame .p bytes) (s.onP (s.ports.pPartial ++ bytes) s.now s)
    ∧ s.failsWith (.frameGapTimeout .p bytes) .p .frameError (s.onP [] s.now (s.reach (s.now + 20001)))
    ∧ s.failsWith (.uartFramingError .p bytes) .p .frameError (s.onP [] s.now s)
    ∧ s.leads (.lineBreak .p bytes) (s.onP [] s.now s) := by
  have gap : s.gapPassed .p = false := inTime.elim (gapPassed_empty (port := .p)) (gapPassed_soon (port := .p))
  have received : s.receive .p bytes = s.onP (s.ports.pPartial ++ bytes) s.now s := receive_part (port := .p) active some_ gap part
  have full : s.ports.pPartial ++ bytes ≠ [] := ne_nil_of_start part.1
  refine ⟨State.leads_of (f := State.receive .p bytes) hp rfl (by rw [received]; rfl), ?_, ?_, ?_⟩
  · exact failsWith_gap hp ((gapOver_of received full rfl).trans (reach_failPartial_p full))
  · refine failsWith_of hp (f := fun s => (s.receive .p bytes).failPartial .p) (v := s.onP [] s.now s) rfl ?_ rfl fun q => by cases q <;> rfl
    rw [received, failPartial_p full]
    rfl
  · exact State.leads_of (f := fun s => (s.receive .p bytes).discardPartial .p) hp rfl
      ((congrArg (fun u : State => (u.discardPartial .p).supplyAs s) received).trans rfl)

theorem State.p_kept (hp : s.powered = true) (part : s.ports.pPartial ≠ []) :
    s.failsWith (.frameGapTimeout .p []) .p .frameError (s.onP [] s.ports.pLast (s.reach (s.ports.pLast + 20001)))
    ∧ s.failsWith (.uartFramingError .p []) .p .frameError (s.onP [] s.ports.pLast s)
    ∧ s.leads (.lineBreak .p []) (s.onP [] s.ports.pLast s) := by
  refine ⟨?_, ?_, ?_⟩
  · exact failsWith_gap hp ((gapOver_of (port := .p) receive_nothing part rfl).trans (reach_failPartial_p part))
  · refine failsWith_of hp (f := fun s => (s.receive .p []).failPartial .p) (v := s.onP [] s.ports.pLast s) rfl ?_ rfl fun q => by cases q <;> rfl
    rw [receive_nothing, failPartial_p part]
    rfl
  · exact State.leads_of (f := fun s => (s.receive .p []).discardPartial .p) hp rfl
      ((congrArg (fun u : State => (u.discardPartial .p).supplyAs s) receive_nothing).trans rfl)

/-! ### The L-port -/

/-- `u` with the moment of the L-port's last byte as given. -/
def State.onL (last : Nat) (s u : State) : State := { u with ports := { s.ports with lLast := last } }

theorem State.setParser_l (empty : s.ports.lPartial = []) (last : Nat) : s.setParser .l [] last = s.onL last s := by
  change ({ s with ports := { s.ports with lPartial := [], lLast := last } } : State) = _
  rw [← empty]
  rfl

theorem State.receive_l (hears : s.rpu.hears = true) (empty : s.ports.lPartial = []) (whole : Whole bytes) :
    s.receive .l bytes = (s.onL s.now s).found .l (checkRadioFrame s.rpu.settings bytes) := by
  have hearing : s.deaf .l = false := by simp [State.deaf, hears]
  rw [State.receive_whole (port := .l) hearing empty whole, setParser_l empty]
  exact if_pos hears

/-- A frame that the L-port's checks drop leaves nothing. -/
theorem State.l_dropped (hp : s.powered = true) (hears : s.rpu.hears = true) (empty : s.ports.lPartial = []) (whole : Whole bytes)
    (dropped : checkRadioFrame s.rpu.settings bytes = .dropped) : s.silent (.badFrame .l bytes) (s.onL s.now s) := by
  have heard := receive_l hears empty whole
  rw [dropped] at heard
  exact silent_of hp (f := State.receive .l bytes) rfl (by rw [heard]; exact empty) (by rw [heard]; rfl)

theorem State.l_answered {a : Answer} (hp : s.powered = true) (hears : s.rpu.hears = true) (empty : s.ports.lPartial = [])
    (whole : Whole bytes) (h : (s.onL s.now s).found .l (checkRadioFrame s.rpu.settings bytes) = (s.onL s.now s).answer .l a) :
    s.failsWith (.badFrame .l bytes) .l a (s.onL s.now s) :=
  failsWith_of hp (f := State.receive .l bytes) rfl ((receive_l hears empty whole).trans h) rfl fun q => by cases q <;> rfl

theorem State.l_carried {d : Instr} (hp : s.powered = true) (hears : s.rpu.hears = true) (empty : s.ports.lPartial = []) (whole : Whole bytes)
    (h : checkRadioFrame s.rpu.settings bytes = .good d) (hd : d.request.isSome = true) :
    exec (.badFrame .l bytes) s = exec d (s.onL s.now s) :=
  exec_carried hp (f := State.receive .l bytes) rfl ((receive_l hears empty whole).trans (by rw [h])) hp hd

/-- A gap that ends the partial frame leaves nothing. -/
theorem State.silent_gap {kept : List Byte} {last moment : Nat} (hp : s.powered = true)
    (h : s.gapOver .l bytes = ((s.setParser .l kept last).reach moment).discardPartial .l) :
    s.silent (.frameGapTimeout .l bytes) (s.onL last (s.reach moment)) :=
  silent_of hp (f := State.gapOver .l bytes) rfl (by rw [h]; rfl) (by rw [h]; rfl)

/-- A partial frame of the L-port ends unanswered, however it ends. -/
theorem State.l_incomplete (hp : s.powered = true) (hears : s.rpu.hears = true) (empty : s.ports.lPartial = []) (part : Incomplete bytes) :
    s.silent (.frameGapTimeout .l bytes) (s.onL s.now (s.reach (s.now + 20001)))
    ∧ s.silent (.uartFramingError .l bytes) (s.onL s.now s) ∧ s.silent (.lineBreak .l bytes) (s.onL s.now s) := by
  have hearing : s.deaf .l = false := by simp [State.deaf, hears]
  have full : bytes ≠ [] := ne_nil_of_start part.1
  have received : s.receive .l bytes = s.setParser .l bytes s.now := by
    have e := receive_part (port := .l) (bytes := bytes) hearing full (gapPassed_empty empty)
    rw [show s.ports.partialOf .l = [] from empty, List.nil_append] at e
    exact e part
  have framing : (s.receive .l bytes).failPartial .l = (s.setParser .l bytes s.now).discardPartial .l := by
    rw [received, failPartial_l full]
  have broken : (s.receive .l bytes).discardPartial .l = (s.setParser .l bytes s.now).discardPartial .l := by rw [received]
  exact ⟨silent_gap hp ((gapOver_of received full rfl).trans (failPartial_l full)),
    silent_of hp (f := fun s => (s.receive .l bytes).failPartial .l) rfl ((congrArg (·.ports.lPartial) framing).trans rfl)
      ((congrArg (·.supplyAs s) framing).trans rfl),
    silent_of hp (f := fun s => (s.receive .l bytes).discardPartial .l) rfl ((congrArg (·.ports.lPartial) broken).trans rfl)
      ((congrArg (·.supplyAs s) broken).trans rfl)⟩

theorem State.silent_gap_kept {moment : Nat} (hp : s.powered = true) (part : s.ports.lPartial ≠ [])
    (h : s.gapOver .l [] = (s.reach moment).failPartial .l) : s.silent (.frameGapTimeout .l []) (s.reach moment) :=
  silent_gap (kept := s.ports.lPartial) (last := s.ports.lLast) hp (h.trans (failPartial_l (s := s.reach _) part))

theorem State.l_gap (hp : s.powered = true) (part : s.ports.lPartial ≠ []) :
    s.silent (.frameGapTimeout .l []) (s.reach (s.ports.lLast + 20001)) :=
  silent_gap_kept hp part (gapOver_of (port := .l) receive_nothing part rfl)

/-- What a framing error leaves of a partial frame. -/
theorem State.failPartial_l_eq : (s.failPartial .l).ports.lPartial = [] ∧ (s.failPartial .l).supplyAs s = s := by
  by_cases empty : s.ports.lPartial = []
  · rw [failPartial_none (port := .l) empty]
    exact ⟨empty, rfl⟩
  · rw [failPartial_l empty]
    exact ⟨rfl, rfl⟩

theorem State.l_kept (hp : s.powered = true) : s.silent (.uartFramingError .l []) s ∧ s.silent (.lineBreak .l []) s := by
  have nothing : s.receive .l [] = s := receive_nothing
  have framing : (s.receive .l []).failPartial .l = s.failPartial .l := by rw [nothing]
  have broken : (s.receive .l []).discardPartial .l = s.discardPartial .l := by rw [nothing]
  obtain ⟨empty, same⟩ := s.failPartial_l_eq
  exact ⟨silent_of hp (f := fun s => (s.receive .l []).failPartial .l) rfl ((congrArg (·.ports.lPartial) framing).trans empty)
      ((congrArg (·.supplyAs s) framing).trans same),
    silent_of hp (f := fun s => (s.receive .l []).discardPartial .l) rfl ((congrArg (·.ports.lPartial) broken).trans rfl)
      ((congrArg (·.supplyAs s) broken).trans rfl)⟩

/-! ### The obligation -/

theorem State.badFrame_c (hp : s.powered = true) (active : s.ports.resetIn = false) (some_ : bytes ≠ []) (request : bytes.head? ≠ some 0x5A) :
    s.judgesFrame .c .c bytes s :=
  judgesFrame_of hp (f := State.transactOnC bytes) rfl (transactOnC_cons active some_ request) nofun hp rfl fun _ => rfl

end

/-- What a whole frame on the L-port leads to, by its type and its address (R155, R194). -/
def State.judgesRadioFrame (bytes : List Byte) (s u : State) : Prop :=
  (frameOk (within 5 300) bytes = false → (bytes.drop 3).head? = some 0x01 → s.silent (.badFrame .l bytes) u)
  ∧ ((bytes.drop 3).head? = some 0x02 ∨ (bytes.drop 3).head? = some 0x03 → s.silent (.badFrame .l bytes) u)
  ∧ (∀ c rest, frameOk (within 5 300) bytes = true →
      (bytes.drop 3).take (bytes.length - 5) = 0x01 :: be 2 s.rpu.settings.address.toNat ++ rest →
      CarriesRequest (.l s.rpu.settings.address) rest c → exec (.badFrame .l bytes) s = exec c u)
  ∧ (∀ kind ref body, frameOk (within 5 300) bytes = true →
      (bytes.drop 3).take (bytes.length - 5) = 0x01 :: be 2 s.rpu.settings.address.toNat ++ kind :: ref :: body →
      ((∀ k : RequestKind, k.code ≠ kind) → s.failsWith (.badFrame .l bytes) .l ⟨kind, ref, .unknown, []⟩ u)
      ∧ (∀ k : RequestKind, k.code = kind →
          k.lengthOk body.length = false ∨ k.decode (.l s.rpu.settings.address) ref body = none →
          s.failsWith (.badFrame .l bytes) .l ⟨kind, ref, .invalid, [0]⟩ u))
  ∧ (∀ (station : Word16) rest, frameOk (within 5 300) bytes = true →
      (bytes.drop 3).take (bytes.length - 5) = 0x01 :: be 2 station.toNat ++ rest → station ≠ s.rpu.settings.address →
      let accepted : Prop := station = 0xFFFF ∨ (station ^^^ s.rpu.settings.address) &&& s.rpu.settings.mask = 0
      (∀ c, accepted → CarriesRequest (.l station) rest c → exec (.badFrame .l bytes) s = exec c u)
      ∧ (¬ accepted ∨ (∀ c, ¬ CarriesRequest (.l station) rest c) → s.silent (.badFrame .l bytes) u))
  ∧ (frameOk (· == 5) bytes = false → (bytes.drop 3).head? = some 0x04 → s.silent (.badFrame .l bytes) u)
  ∧ (∀ (station : Word16) (number : Nat), frameOk (· == 5) bytes = true → number < 65536 →
      (bytes.drop 3).take (bytes.length - 5) = 0x04 :: be 2 station.toNat ++ be 2 number →
      exec (.badFrame .l bytes) s = exec (.ack station number) u)

theorem Addressed.lets_dropped {a : Addressed} {found : Checked} (h : a = .other ∨ a = .group ∧ ∀ c, found ≠ .good c) :
    a.lets found = .dropped := by
  obtain rfl | ⟨rfl, bad⟩ := h
  · rfl
  · cases found with
    | good c => exact absurd rfl (bad c)
    | lengthOrCrc => rfl
    | dropped => rfl
    | unknown _ _ => rfl
    | badLength _ _ => rfl

theorem State.badFrame_l {s : State} {bytes : List Byte} (hp : s.powered = true) (hears : s.rpu.hears = true)
    (empty : s.ports.lPartial = []) (whole : Whole bytes) : s.judgesRadioFrame bytes (s.onL s.now s) := by
  have own {rest : List Byte} (ok : frameOk (within 5 300) bytes = true)
      (fields : (bytes.drop 3).take (bytes.length - 5) = 0x01 :: be 2 s.rpu.settings.address.toNat ++ rest) :
      checkRadioFrame s.rpu.settings bytes = checkRequest (.l s.rpu.settings.address) rest := by
    rw [checkRadioFrame_request ok fields, LinkSettings.judge_own]
    rfl
  refine ⟨fun bad type => ?_, fun type => ?_, fun c rest ok fields carried => ?_, fun kind ref body ok fields => ⟨fun unknown => ?_, ?_⟩,
    fun station rest ok fields ne => ?_, fun bad type => ?_, fun station number ok small fields => ?_⟩
  · exact l_dropped hp hears empty whole (checkRadioFrame_request_fails bad type)
  · exact l_dropped hp hears empty whole (checkRadioFrame_sent type)
  · exact l_carried hp hears empty whole ((own ok fields).trans (checkRequest_good.mpr carried)) carried.request
  · exact l_answered hp hears empty whole (by rw [own ok fields, checkRequest_unknown unknown]; rfl)
  · rintro k rfl bad
    exact l_answered hp hears empty whole (by rw [own ok fields, checkRequest_badLength bad]; rfl)
  · intro accepted
    refine ⟨fun c group carried => ?_, fun unaccepted => ?_⟩
    · refine l_carried hp hears empty whole ?_ carried.request
      rw [checkRadioFrame_request ok fields, LinkSettings.judge_group ne group, checkRequest_good.mpr carried]
      rfl
    · refine l_dropped hp hears empty whole ?_
      rw [checkRadioFrame_request ok fields]
      refine Addressed.lets_dropped ?_
      by_cases group : accepted
      · have uncarried := unaccepted.resolve_left (not_not_intro group)
        exact .inr ⟨LinkSettings.judge_group ne group, fun c good => uncarried c (checkRequest_good.mp good)⟩
      · exact .inl (LinkSettings.judge_other ne group)
  · exact l_dropped hp hears empty whole (checkRadioFrame_ack_fails bad type)
  · exact exec_acked hp (f := State.receive .l bytes) rfl
      ((receive_l hears empty whole).trans (by rw [checkRadioFrame_ack ok small fields])) hp

/-- Settles O30: each clause is what the port's engine makes of the bytes, through the parser's laws and the checks of R172. -/
theorem badFramesAreAnsweredByPort : Obligations.BadFramesAreAnsweredByPort := by
  intro bytes s hp
  refine ⟨State.leads_of (f := State.transactOnC []) hp rfl rfl, fun held some_ => ⟨?_, ?_⟩, fun rest start active => ?_,
    fun active some_ request => State.badFrame_c hp active some_ request,
    fun active start whole => State.badFrame_p hp active start whole,
    fun active some_ part inTime => State.p_incomplete hp active some_ part inTime,
    fun part => State.p_kept hp part, fun hears empty whole => State.badFrame_l hp hears empty whole, fun unheard => ?_,
    fun hears empty part => State.l_incomplete hp hears empty part, fun part => State.l_gap hp part, State.l_kept hp⟩
  · exact State.leads_of (f := State.receive .p bytes) hp rfl (by rw [State.receive_deaf (port := .p) held]; rfl)
  · exact State.leads_of (f := State.transactOnC bytes) hp rfl (by rw [State.transactOnC_under_reset held some_]; rfl)
  · subst start
    have read : s.transactOnC (0x5A :: rest) = s.readAnswer rest.length := State.transactOnC_read active
    exact (act_powered (f := State.transactOnC (0x5A :: rest)) hp).trans (by rw [read]; exact (act_powered hp).symm)
  · have deaf : s.deaf .l = true := by simp [State.deaf, unheard]
    exact State.leads_of (f := State.receive .l bytes) hp rfl (by rw [State.receive_deaf deaf]; rfl)

end Sys2Proof.Machine
end

section
/-! PROOFS. What power-on finds in the store: the records that fail, the tag table and the next record number (R91, R169, R183, R186). -/

namespace Sys2Proof.Machine

/-! ### The records that fail (R186) -/

section

variable {st : Store}

/-- A record that is read is the one asked for (R183). -/
theorem Store.read_id (keyed : st.keyed = true) {id : RecordId} {c : Content} (h : st.read id = some c) : c.id = id := by
  simp only [Store.keyed, Bool.and_eq_true, List.all_eq_true, beq_iff_eq] at keyed
  unfold Store.read at h
  cases found : st.records.find? fun r => r.id == id with
  | none => rw [found] at h; cases h
  | some r =>
    rw [found, Option.bind_some] at h
    have key := List.find?_some found
    split at h
    · cases h
      exact (keyed.1 r (List.mem_of_find?_eq_some found)).trans (beq_iff_eq.mp key)
    · cases h

/-- Whether the owner finds nothing under the record's id. -/
def Store.lacks (st : Store) : RecordId → Bool
  | .activeSettings => st.activeSettings.isNone
  | .userCurve1 => st.userCurve1.isNone
  | .userCurve2 => st.userCurve2.isNone
  | .tagSlot n => (st.slot n).isNone
  | .authority => st.authority.isNone
  | .mechanism => st.mechanism.isNone
  | .counters => st.counters.isNone
  | .recordRing => st.recordRing.isNone
  | .battery => st.battery.isNone
  | .link => st.link.isNone
  | .tracker => st.tracker.isNone
  | .shutdownMark => st.shutdownMark.isNone

/-- An owner finds nothing exactly where the record fails its check. -/
theorem Store.lacks_eq (keyed : st.keyed = true) (id : RecordId) : st.lacks id = (st.read id).isNone := by
  have own {c : Content} (h : st.read id = some c) := Store.read_id keyed h
  cases id <;> dsimp only [Store.lacks, Store.activeSettings, Store.userCurve1, Store.userCurve2, Store.slot, Store.authority,
    Store.mechanism, Store.counters, Store.recordRing, Store.battery, Store.link, Store.tracker, Store.shutdownMark] at own ⊢
  all_goals
    split
    · next h => rw [h]; rfl
    · next h =>
      revert own h
      generalize st.read _ = found
      intro own h
      cases found with
      | none => rfl
      | some c =>
        have id := own rfl
        cases c <;> simp_all [Content.id]

/-! ### The tag table (R91) -/

/-- The entry of the slot, as its record holds it. -/
def Store.entry (st : Store) (n : Nat) : Option Tag := ((st.slot n).getD none).map fun x => { x with slot := n }

/-- One crew number and one kind. -/
def Tag.same (x y : Tag) : Prop := x.crew = y.crew ∧ x.kind = y.kind

theorem Store.entry_slot {n : Nat} {x : Tag} (h : st.entry n = some x) : x.slot = n := by
  obtain ⟨y, -, rfl⟩ := Option.map_eq_some_iff.mp h
  rfl

theorem Store.entry_of_failing {n : Nat} (h : st.slot n = none) : st.entry n = none := by simp [Store.entry, h]

theorem Store.mem_entries_entry {n : Nat} {x : Tag} : (n, x) ∈ st.entries ↔ n < 8 ∧ st.entry n = some x := by
  rw [Store.mem_entries]
  refine and_congr_right fun _ => ?_
  unfold Store.entry
  rcases st.slot n with _ | _ | t <;> simp [eq_comm]

/-- The entries stand in the order of their slots. -/
theorem Store.entries_ordered : st.entries.Pairwise fun x y => x.1 < y.1 := by
  unfold Store.entries
  refine List.Pairwise.filterMap _ ?_ (List.pairwise_lt_range (n := 8))
  intro a b less x hx y hy
  split at hx <;> cases hx
  split at hy <;> cases hy
  exact less

/-- What is kept: an entry with no earlier one of its crew number and kind. -/
theorem mem_keepFirst {e : Nat × Tag} : ∀ {l : List (Nat × Tag)}, l.Pairwise (fun x y => x.1 < y.1) →
    (e ∈ keepFirst l ↔ e ∈ l ∧ ∀ y ∈ l, y.1 < e.1 → ¬ y.2.same e.2)
  | [], _ => by simp [keepFirst]
  | x :: rest, ordered => by
    obtain ⟨first, later⟩ := List.pairwise_cons.mp ordered
    rw [keepFirst, List.mem_cons, List.mem_filter, mem_keepFirst later]
    simp only [List.mem_cons, forall_eq_or_imp]
    have differs : (!(e.2.crew == x.2.crew && e.2.kind == x.2.kind)) = true ↔ ¬ x.2.same e.2 := by
      rw [Bool.not_eq_true', ← Bool.not_eq_true, Bool.and_eq_true, beq_iff_eq, beq_iff_eq]
      exact not_congr (and_congr eq_comm eq_comm)
    rw [differs]
    constructor
    · rintro (rfl | ⟨⟨mem, alone⟩, other⟩)
      · exact ⟨.inl rfl, fun less => absurd less (lt_irrefl _), fun y hy less => absurd (first y hy) (by omega)⟩
      · exact ⟨.inr mem, fun _ => other, alone⟩
    · rintro ⟨rfl | mem, other, alone⟩
      · exact .inl rfl
      · exact .inr ⟨⟨mem, alone⟩, other (first e mem)⟩

theorem Store.mem_kept {n : Nat} {x : Tag} (small : n < 8) (h : st.entry n = some x) :
    (n, x) ∈ keepFirst st.entries ↔ ∀ m y, m < n → st.entry m = some y → ¬ y.same x := by
  rw [mem_keepFirst Store.entries_ordered]
  constructor
  · rintro ⟨-, alone⟩ m y less found
    exact alone (m, y) (Store.mem_entries_entry.mpr ⟨less.trans small, found⟩) less
  · refine fun alone => ⟨Store.mem_entries_entry.mpr ⟨small, h⟩, fun y hy less => ?_⟩
    exact alone y.1 y.2 less (Store.mem_entries_entry.mp hy).2

theorem Store.mem_tags {x : Tag} : x ∈ st.tags ↔ (x.slot, x) ∈ keepFirst st.entries ∨ st.failSafeSlot = some x.slot ∧ x = .failSafe x.slot := by
  rw [st.tags_perm.mem_iff, Store.keptTags, List.mem_append]
  refine or_congr ⟨fun h => ?_, fun h => List.mem_map.mpr ⟨_, h, rfl⟩⟩ ⟨fun h => ?_, fun h => ?_⟩
  · obtain ⟨e, he, rfl⟩ := List.mem_map.mp h
    have slot := Store.entry_slot (Store.mem_entries_entry.mp ((keepFirst_sublist _).subset he)).2
    rwa [show (e.2.slot, e.2) = e from Prod.ext slot rfl]
  · obtain ⟨n, hn, rfl⟩ : ∃ n, st.failSafeSlot = some n ∧ Tag.failSafe n = x := by simpa using h
    exact ⟨hn, rfl⟩
  · obtain ⟨slot, eq⟩ := h
    rw [slot, eq]
    simp [Tag.failSafe]

/-- An entry stands in the table exactly when no lower slot has its crew number and kind. -/
theorem Store.entry_in_tags {n : Nat} {x : Tag} (small : n < 8) (h : st.entry n = some x) :
    x ∈ st.tags ↔ ∀ m y, m < n → st.entry m = some y → ¬ (y.crew = x.crew ∧ y.kind = x.kind) := by
  have slot := Store.entry_slot h
  have noSafe : ¬ (st.failSafeSlot = some x.slot ∧ x = .failSafe x.slot) := by
    rintro ⟨safe, -⟩
    have failing := (Store.failSafeSlot_spec safe).2.1
    rw [slot] at failing
    rw [Store.entry_of_failing failing] at h
    cases h
  rw [Store.mem_tags, or_iff_left noSafe, slot]
  exact Store.mem_kept small h

theorem Store.failSafeSlot_eq_some {n : Nat} : st.failSafeSlot = some n ↔
    (n < 8 ∧ st.slot n = none ∧ ∀ m, m < n → st.slot m ≠ none)
      ∧ ∀ m y, m < 8 → st.entry m = some y → ¬ (y.kind = .hotLine ∧ y.crew = 0) := by
  have none_ : (st.entries.any fun e => e.2.kind == .hotLine && e.2.crew == 0) = true ↔
      ¬ ∀ m y, m < 8 → st.entry m = some y → ¬ (y.kind = .hotLine ∧ y.crew = 0) := by
    simp only [List.any_eq_true, Bool.and_eq_true, beq_iff_eq]
    push Not
    constructor
    · rintro ⟨e, he, found⟩
      obtain ⟨small, entry⟩ := Store.mem_entries_entry.mp he
      exact ⟨e.1, e.2, small, entry, found⟩
    · rintro ⟨m, y, small, entry, found⟩
      exact ⟨(m, y), Store.mem_entries_entry.mpr ⟨small, entry⟩, found⟩
  have lowest : st.failingSlots.head? = some n ↔ n < 8 ∧ st.slot n = none ∧ ∀ m, m < n → st.slot m ≠ none := by
    rw [Store.failingSlots, List.head?_filter, List.find?_range_eq_some]
    simp only [Option.isNone_iff_eq_none, List.mem_range, Bool.not_eq_true', Option.isNone_eq_false_iff, Option.isSome_iff_ne_none]
    exact and_left_comm
  unfold Store.failSafeSlot
  split
  · next found => exact ⟨nofun, fun h => absurd h.2 (none_.mp found)⟩
  · next free => exact lowest.trans (and_iff_left (not_not.mp fun h => free (none_.mpr h))).symm

/-- The fail-safe entry stands in the lowest failing slot when no HOT_LINE entry of crew 0 passes. -/
theorem Store.failSafe_in_tags {n : Nat} (small : n < 8) (failing : st.slot n = none) : Tag.failSafe n ∈ st.tags ↔
    (∀ m, m < n → st.slot m ≠ none) ∧ ∀ m y, m < 8 → st.entry m = some y → ¬ (y.kind = .hotLine ∧ y.crew = 0) := by
  have noEntry : ¬ (n, Tag.failSafe n) ∈ keepFirst st.entries := fun h => by
    have found := (Store.mem_entries_entry.mp ((keepFirst_sublist _).subset h)).2
    rw [Store.entry_of_failing failing] at found
    cases found
  rw [Store.mem_tags]
  change (n, Tag.failSafe n) ∈ _ ∨ st.failSafeSlot = some n ∧ Tag.failSafe n = .failSafe n ↔ _
  rw [or_iff_right noEntry, and_iff_left rfl, Store.failSafeSlot_eq_some]
  exact and_congr_left fun _ => ⟨fun ⟨_, _, first⟩ => first, fun first => ⟨small, failing, first⟩⟩

theorem Store.tags_from {x : Tag} (h : x ∈ st.tags) :
    x.slot < 8 ∧ (st.entry x.slot = some x ∨ st.slot x.slot = none ∧ x = .failSafe x.slot) := by
  obtain kept | ⟨safe, eq⟩ := Store.mem_tags.mp h
  · obtain ⟨small, found⟩ := Store.mem_entries_entry.mp ((keepFirst_sublist _).subset kept)
    exact ⟨small, .inl found⟩
  · obtain ⟨small, failing, -⟩ := Store.failSafeSlot_spec safe
    exact ⟨small, .inr ⟨failing, eq⟩⟩

/-! ### The order of the table -/

/-- By placement number, and then by slot. -/
def Tag.before (x y : Tag) : Prop := x.number < y.number ∨ (x.number = y.number ∧ x.slot ≤ y.slot)

theorem placedBefore_iff {x y : Tag} : placedBefore x y = true ↔ x.before y := by simp [placedBefore, Tag.before]

theorem Tag.before_of_not {x y : Tag} (h : ¬ x.before y) : y.before x := by
  unfold Tag.before at *
  omega

theorem Tag.before.trans {x y z : Tag} (h : x.before y) (h' : y.before z) : x.before z := by
  unfold Tag.before at *
  omega

theorem insertTag_ordered (x : Tag) : ∀ {l : List Tag}, l.Pairwise Tag.before → (insertTag x l).Pairwise Tag.before
  | [], _ => by simp [insertTag]
  | y :: rest, ordered => by
    obtain ⟨first, later⟩ := List.pairwise_cons.mp ordered
    rw [insertTag]
    split
    · next le =>
      have le := placedBefore_iff.mp le
      refine List.pairwise_cons.mpr ⟨fun z hz => ?_, ordered⟩
      obtain rfl | hz := List.mem_cons.mp hz
      · exact le
      · exact le.trans (first z hz)
    · next gt =>
      have ge := Tag.before_of_not (mt placedBefore_iff.mpr gt)
      refine List.pairwise_cons.mpr ⟨fun z hz => ?_, insertTag_ordered x later⟩
      obtain rfl | hz := List.mem_cons.mp ((insertTag_perm x rest).mem_iff.mp hz)
      · exact ge
      · exact first z hz

theorem Store.tags_ordered : st.tags.Pairwise fun x y => x.number < y.number ∨ (x.number = y.number ∧ x.slot < y.slot) := by
  have weak : st.tags.Pairwise Tag.before := by
    unfold Store.tags
    dsimp only
    generalize (keepFirst st.entries).map (fun e => e.2) ++ _ = l
    induction l with
    | nil => exact .nil
    | cons x rest ih => exact insertTag_ordered x ih
  have slots : (st.tags.map Tag.slot).Nodup := (st.tags_perm.map _).nodup_iff.mpr Store.keptTags_slots
  refine (weak.and (List.pairwise_map.mp slots)).imp fun {x y} ⟨before, ne⟩ => ?_
  unfold Tag.before at before
  omega

/-! ### The placement counter -/

theorem foldl_max_spec (l : List Nat) : ∀ m : Nat, (∀ n ∈ l, n ≤ l.foldl max m) ∧ m ≤ l.foldl max m ∧ (l.foldl max m ∈ l ∨ l.foldl max m = m) := by
  induction l with
  | nil => exact fun m => ⟨nofun, le_refl _, .inr rfl⟩
  | cons a l ih =>
    intro m
    obtain ⟨all, start, found⟩ := ih (max m a)
    refine ⟨List.forall_mem_cons.mpr ⟨(le_max_right m a).trans start, all⟩, (le_max_left m a).trans start, ?_⟩
    rw [List.foldl_cons]
    obtain found | found := found
    · exact .inl (List.mem_cons_of_mem _ found)
    · rw [found]
      rcases max_choice m a with h | h <;> simp [h]

theorem placementsAfter_spec {tags : List Tag} (full : tags ≠ []) :
    ∃ x ∈ tags, (∀ y ∈ tags, y.number ≤ x.number) ∧ placementsAfter tags = min 4294967295 (x.number + 1) := by
  obtain ⟨all, -, found⟩ := foldl_max_spec (tags.map fun t => t.number) 0
  have attained : ∃ x ∈ tags, x.number = (tags.map fun t => t.number).foldl max 0 := by
    obtain found | zero := found
    · exact List.mem_map.mp found
    · obtain ⟨x, hx⟩ := List.exists_mem_of_ne_nil tags full
      exact ⟨x, hx, by have := all _ (List.mem_map_of_mem hx); omega⟩
  obtain ⟨x, hx, eq⟩ := attained
  refine ⟨x, hx, fun y hy => eq ▸ all _ (List.mem_map_of_mem hy), ?_⟩
  rw [placementsAfter, if_neg (by simpa using full), ← eq]
  rfl

/-! ### The HOT_LINE entries (R18) -/

theorem Store.any_crewZero : ((List.range 8).any fun n => (st.entry n).any fun x => x.kind == .hotLine && x.crew == 0)
    = st.entries.any fun e => e.2.kind == .hotLine && e.2.crew == 0 := by
  rw [Bool.eq_iff_iff]
  simp only [List.any_eq_true, List.mem_range, Option.any_eq_true]
  constructor
  · rintro ⟨n, small, x, found, holds⟩
    exact ⟨(n, x), Store.mem_entries_entry.mpr ⟨small, found⟩, holds⟩
  · rintro ⟨e, he, holds⟩
    obtain ⟨small, found⟩ := Store.mem_entries_entry.mp he
    exact ⟨e.1, small, e.2, found, holds⟩

/-- Every entry has one of its crew number and kind in the table. -/
theorem Store.kept_same {n : Nat} : ∀ {x : Tag}, n < 8 → st.entry n = some x → ∃ y ∈ st.tags, y.same x := by
  induction n using Nat.strong_induction_on with
  | h n ih =>
    intro x small found
    by_cases alone : x ∈ st.tags
    · exact ⟨x, alone, rfl, rfl⟩
    · rw [Store.entry_in_tags small found] at alone
      push Not at alone
      obtain ⟨m, y, less, earlier, crew, kind⟩ := alone
      obtain ⟨z, hz, crew', kind'⟩ := ih m less (less.trans small) earlier
      exact ⟨z, hz, crew'.trans crew, kind'.trans kind⟩

theorem Store.hot_tags : st.tags.any (fun x => x.kind == .hotLine) = true ↔
    (∃ n x, n < 8 ∧ st.entry n = some x ∧ x.kind = .hotLine) ∨ ∃ n, st.failSafeSlot = some n := by
  simp only [List.any_eq_true, beq_iff_eq]
  constructor
  · rintro ⟨x, hx, hot⟩
    obtain kept | ⟨safe, -⟩ := Store.mem_tags.mp hx
    · obtain ⟨small, found⟩ := Store.mem_entries_entry.mp ((keepFirst_sublist _).subset kept)
      exact .inl ⟨_, x, small, found, hot⟩
    · exact .inr ⟨_, safe⟩
  · rintro (⟨n, x, small, found, hot⟩ | ⟨n, safe⟩)
    · obtain ⟨y, hy, -, kind⟩ := Store.kept_same small found
      exact ⟨y, hy, kind.trans hot⟩
    · exact ⟨.failSafe n, Store.mem_tags.mpr (.inr ⟨safe, rfl⟩), rfl⟩

theorem Store.failSafeSlot_isSome : (∃ n, st.failSafeSlot = some n) ↔
    (st.entries.any fun e => e.2.kind == .hotLine && e.2.crew == 0) = false ∧ ∃ n, n < 8 ∧ st.slot n = none := by
  unfold Store.failSafeSlot
  split
  · next found => simp [found]
  · next free =>
    rw [Bool.not_eq_true] at free
    rw [free, and_iff_right rfl, ← Option.isSome_iff_exists, List.isSome_head?]
    simp [Store.failingSlots]

/-! ### The list of failed records (R186) -/

/-- The entry of the slot is a later one of its crew number and kind. -/
def Store.freed (st : Store) (n : Nat) : Bool := (st.entry n).any fun x => (List.range n).any fun m =>
  (st.entry m).any fun y => y.crew == x.crew && y.kind == x.kind

theorem Store.freed_iff {n : Nat} (small : n < 8) :
    st.freed n = true ↔ (∃ x, (n, x) ∈ st.entries) ∧ ∀ x, (n, x) ∉ keepFirst st.entries := by
  unfold Store.freed
  cases found : st.entry n with
  | none =>
    refine ⟨nofun, fun ⟨⟨x, hx⟩, _⟩ => ?_⟩
    rw [(Store.mem_entries_entry.mp hx).2] at found
    cases found
  | some x =>
    have only (y : Tag) : (n, y) ∈ st.entries ↔ y = x := by
      rw [Store.mem_entries_entry, and_iff_right small, found, Option.some.injEq, eq_comm]
    have kept : (∀ y, (n, y) ∉ keepFirst st.entries) ↔ (n, x) ∉ keepFirst st.entries :=
      ⟨fun h => h x, fun h y hy => by rw [(only y).mp ((keepFirst_sublist _).subset hy)] at hy; exact h hy⟩
    rw [kept, Store.mem_kept small found, and_iff_right ⟨x, (only x).mpr rfl⟩]
    simp only [Option.any_some, List.any_eq_true, List.mem_range, Option.any_eq_true, Bool.and_eq_true, beq_iff_eq]
    push Not
    exact ⟨fun ⟨m, less, y, hy, same⟩ => ⟨m, y, less, hy, same⟩, fun ⟨m, y, less, hy, same⟩ => ⟨m, less, y, hy, same⟩⟩

theorem Store.lostSlots_eq : st.lostSlots = (List.range 8).filter fun n => (st.slot n).isNone || st.freed n := by
  unfold Store.lostSlots
  refine List.filter_congr fun n hn => ?_
  have small := List.mem_range.mp hn
  congr 1
  · rw [Bool.eq_iff_iff]
    simp [Store.failingSlots, small]
  · rw [Bool.eq_iff_iff, Store.freed_iff small]
    simp [List.contains_eq_mem]

/-- Whether the record is reported: it fails, or its slot is freed as a duplicate. -/
def Store.reports (st : Store) (id : RecordId) : Bool :=
  match id with
  | .tagSlot n => (st.slot n).isNone || st.freed n
  | id => (st.read id).isNone

/-- The records in the order of Table 10-1. -/
def recordOrder : List RecordId :=
  [.activeSettings, .userCurve1, .userCurve2] ++ (List.range 8).map .tagSlot
    ++ [.authority, .mechanism, .counters, .recordRing, .battery, .link, .tracker, .shutdownMark]

theorem filter_one {α : Type} (p : α → Bool) (x : α) (rest : List α) : (x :: rest).filter p = (if p x then [x] else []) ++ rest.filter p := by
  by_cases h : p x <;> simp [h]

theorem Store.failed_eq (keyed : st.keyed = true) : st.failed = recordOrder.filter st.reports := by
  have lacks (id : RecordId) (other : ∀ n, id ≠ .tagSlot n) : idWhen id (st.lacks id) = if st.reports id then [id] else [] := by
    rw [Store.lacks_eq keyed]
    cases id with
    | tagSlot n => exact absurd rfl (other n)
    | _ => rfl
  have slots : st.lostSlots.map RecordId.tagSlot = ((List.range 8).map RecordId.tagSlot).filter st.reports := by
    rw [Store.lostSlots_eq, List.filter_map]
    rfl
  unfold Store.failed recordOrder
  simp only [List.filter_append, filter_one, List.filter_nil, List.append_nil, ← slots]
  rw [← lacks .activeSettings nofun, ← lacks .userCurve1 nofun, ← lacks .userCurve2 nofun, ← lacks .authority nofun,
    ← lacks .mechanism nofun, ← lacks .counters nofun, ← lacks .recordRing nofun, ← lacks .battery nofun, ← lacks .link nofun,
    ← lacks .tracker nofun, ← lacks .shutdownMark nofun]
  simp only [Store.lacks, List.append_assoc]

theorem recordOrder_nodup : recordOrder.Nodup := by decide

theorem Store.failed_nodup (keyed : st.keyed = true) : st.failed.Nodup := by
  rw [Store.failed_eq keyed]
  exact recordOrder_nodup.filter _

end

end Sys2Proof.Machine
end

section
/-! PROOFS. What a start announces, raises and writes (R88, R133, R158, R177, R184, R186 to R189). -/

namespace Sys2Proof.Machine

/-! ### The reports of a start -/

/-- A pool with nothing but alarms queued and events queued. -/
def Rpu.opened (base : Rpu) (alarms events : List Report) (number order : Nat) : Rpu :=
  { base with qAlarm := alarms, qEvent := events, lost := 0, nextNumber := number, nextOrder := order }

section

variable {base : Rpu} {alarms events : List Report} {number order : Nat} (now : Stamp) (payload : List Byte)

theorem Rpu.opened_alarm (held : base.held = []) (id : AlarmId) (new : ∀ x ∈ alarms, x.kind ≠ .alarm id) :
    ∃ x, x.kind = .alarm id ∧ x.number = number ∧ x.classCount = 1 ∧ x.payload = payload
      ∧ (base.opened alarms events number order).alarm now id payload
        = base.opened (alarms ++ [x]) events ((number + 1) % 65536) (order + 1) := by
  refine ⟨(base.opened alarms events number order).fresh now (.alarm id) payload 1, rfl, rfl, rfl, rfl, ?_⟩
  have notQueued : ¬ (base.opened alarms events number order).qAlarm.any (fun x => x.kind == .alarm id) = true := by
    simpa [Rpu.opened] using new
  have notHeld : ¬ (base.opened alarms events number order).held.any (fun x => x.kind == .alarm id) = true := by
    simp [Rpu.opened, held]
  unfold Rpu.alarm
  rw [if_neg notQueued, if_neg notHeld]
  rfl

theorem Rpu.opened_event (held : base.held = []) (measure : base.qMeasure = []) (flight : base.inFlight = none)
    (few : alarms.length + events.length < 24) (kind : EventKind) :
    ∃ x, x.kind = .event kind ∧ x.number = number ∧ x.payload = payload
      ∧ (base.opened alarms events number order).event now kind payload
        = base.opened alarms (events ++ [x]) ((number + 1) % 65536) (order + 1) := by
  refine ⟨(base.opened alarms events number order).fresh now (.event kind) payload 0, rfl, rfl, rfl, ?_⟩
  have room : (base.opened alarms events number order).eventOrMeasureCount < 24 := by
    refine List.countP_le_length.trans_lt ?_
    simpa [Rpu.used, Rpu.opened, held, measure, flight] using few
  unfold Rpu.event
  rw [Rpu.evict_few room]
  rfl

end

/-! ### The writes of a start -/

/-- The entries on their way into the store, in order. -/
def Nvs.writes (n : Nvs) : List Content := (n.writing.map Writing.content).toList ++ n.queue

/-- The store with first writes of the contents under way. -/
structure Nvs.Writes (store : Store) (l : List Content) (n : Nvs) : Prop where
  store_eq : n.store = store
  first : ∀ w, n.writing = some w → w.second = false
  writes_eq : n.writes = l
  busy : n.writing = none → n.queue = []

theorem Nvs.Writes.empty (store : Store) : Nvs.Writes store [] ⟨store, [], none⟩ :=
  ⟨rfl, fun _ h => (Option.some_ne_none _ h.symm).elim, rfl, fun _ => rfl⟩

theorem Nvs.Writes.place {store : Store} {l : List Content} {n : Nvs} (h : n.Writes store l) {c : Content}
    (new : ∀ e ∈ l, e.id ≠ c.id) : (n.place c).Writes store (l ++ [c]) := by
  obtain ⟨rfl, first, rfl, busy⟩ := h
  have fresh : ¬ n.queue.any (fun e => e.id == c.id) = true := by
    simpa using fun e he => new e (List.mem_append_right _ he)
  unfold Nvs.place
  rw [if_neg fresh]
  obtain ⟨store, queue, writing⟩ := n
  cases writing with
  | none =>
    obtain rfl : queue = [] := busy rfl
    exact ⟨rfl, fun w hw => by cases hw; rfl, rfl, nofun⟩
  | some w => exact ⟨rfl, first, rfl, nofun⟩

theorem Nvs.Writes.places {store : Store} {content : RecordId → Content} (own : ∀ id, (content id).id = id) (ids : List RecordId) :
    ∀ {l : List Content} {n : Nvs}, n.Writes store l → (∀ e ∈ l, e.id ∉ ids) → ids.Nodup →
      (ids.foldl (fun n id => n.place (content id)) n).Writes store (l ++ ids.map content) := by
  induction ids with
  | nil => exact fun h _ _ => by simpa using h
  | cons id ids ih =>
    intro l n h new nodup
    obtain ⟨alone, nodup⟩ := List.nodup_cons.mp nodup
    have placed := h.place (c := content id) fun e he eq => new e he (by rw [eq, own]; exact List.mem_cons_self)
    have all := ih placed (fun e he mem => ?_) nodup
    · simpa using all
    · obtain old | new_ := List.mem_append.mp he
      · exact new e old (List.mem_cons_of_mem _ mem)
      · rw [List.mem_singleton.mp new_, own] at mem
        exact alone mem

/-! ### The steps of a start -/

theorem State.content_id (s : State) (id : RecordId) : (s.content id).id = id := by cases id <;> rfl

/-- What a record holds is read from its owner's state. -/
theorem State.content_of {u v : State} (sqc : v.sqc = u.sqc) (oeb : v.oeb = u.oeb) (au : v.au = u.au) (mdr : v.mdr = u.mdr)
    (oru : v.oru = u.oru) (stored : v.bcu.stored = u.bcu.stored) (link : v.rpu.settings = u.rpu.settings) (lmu : v.lmu = u.lmu) (id : RecordId) :
    v.content id = u.content id := by
  cases id <;> simp only [State.content, sqc, oeb, au, mdr, oru, stored, link, lmu]

theorem State.foldl_place (ids : List RecordId) : ∀ u : State,
    ids.foldl (fun s id => s.place id) u = { u with nvs := ids.foldl (fun n id => n.place (u.content id)) u.nvs } := by
  induction ids with
  | nil => exact fun _ => rfl
  | cons id ids ih =>
    intro u
    rw [List.foldl_cons, ih, List.foldl_cons]
    have same (other : RecordId) : (u.place id).content other = u.content other := State.content_of rfl rfl rfl rfl rfl rfl rfl rfl other
    simp only [same]
    rfl

/-- What a start makes of the restored blocks. -/
def State.announces (st : Store) (u : State) : State :=
  let s := (u.event .start [st.cause.code]).announceFailed st
  let s := if st.shutdownMark = some true then s.place .shutdownMark else s
  s.announceLatch.announceLostTest

theorem State.start_announces (s : State) : s.start = s.restored.announces s.nvs.store := rfl

/-- The test cut off by the loss of power (R133). -/
def State.cutTest (u : State) : TestEntry :=
  ⟨u.stamp, Config.lostTestMode u.freeIndex, .aborted, some .powerLoss, none, none, none, none⟩

/-- The battery's record with the test cut off entered (R133). -/
def State.cutStored (u : State) : BatteryRecord :=
  { u.bcu.stored with pending := false, history := pushRing 8 u.cutTest u.bcu.stored.history }

theorem State.announceFailed_some {st : Store} (h : st.failed ≠ []) (u : State) : u.announceFailed st =
    { u with
      rpu := u.rpu.alarm u.stamp .storeFault st.faultPayload, ports := u.ports.raise .storeFault
      nvs := st.failed.foldl (fun n id => n.place (u.content id)) u.nvs } := by
  unfold State.announceFailed
  rw [if_neg (by simpa using h), State.foldl_place]
  have link : (u.rpu.alarm u.stamp .storeFault st.faultPayload).settings = u.rpu.settings := by
    have e := congrArg Rpu.settings (Rpu.alarm_unpooled u.stamp .storeFault st.faultPayload u.rpu)
    exact e
  have same (id : RecordId) : ((u.alarm .storeFault st.faultPayload).raise .storeFault).content id = u.content id :=
    State.content_of (u := u) (v := (u.alarm .storeFault st.faultPayload).raise .storeFault) rfl rfl rfl rfl rfl rfl link rfl id
  simp only [same]
  rfl

theorem State.announceFailed_none {st : Store} (h : st.failed = []) (u : State) : u.announceFailed st = u := if_pos (by simp [h])

theorem State.announceLatch_set {u : State} (h : u.mdr.latch = true) : u.announceLatch =
    { u with
      ports := u.ports.raise .mechFault
      rpu := u.rpu.alarm u.stamp .mechanismFault (MechCause.powerOn.code :: u.mdr.poles.enc ++ encOpt (be 2) none) } := by
  unfold State.announceLatch
  rw [if_pos h]
  rfl

theorem State.announceLatch_clear {u : State} (h : u.mdr.latch = false) : u.announceLatch = u := if_neg (by simp [h])

/-- What the announcement of a test that nothing withholds does (R127). -/
theorem State.announce_unheld (e : TestEntry) (u : State) : u.announce e none id =
    { u with
      nvs := u.nvs.place (.battery { u.bcu.stored with history := pushRing 8 e u.bcu.stored.history })
      rpu := u.rpu.event u.stamp .batteryTestResult e.enc
      ports := u.ports.raise .testDone
      bcu := { u.bcu with stored := { u.bcu.stored with history := pushRing 8 e u.bcu.stored.history } } } := rfl

theorem State.announceLostTest_pending {u : State} (h : u.bcu.stored.pending = true) : u.announceLostTest =
    { u with
      freeIndex := u.freeIndex + 1
      nvs := u.nvs.place (.battery u.cutStored)
      rpu := u.rpu.event u.stamp .batteryTestResult u.cutTest.enc
      ports := u.ports.raise .testDone
      bcu := { u.bcu with stored := u.cutStored, nextAttempt := some ⟨u.now + powerLossRetry, true⟩ } } := by
  unfold State.announceLostTest
  rw [if_pos h]
  dsimp only
  rw [State.announce_unheld]
  rfl

theorem State.announceLostTest_idle {u : State} (h : u.bcu.stored.pending = false) : u.announceLostTest = u := if_neg (by simp [h])

end Sys2Proof.Machine
end

section
/-! PROOFS. The start put together: its reports, its flags, its writes and what it leaves of the blocks (R133, R158, R186 to R189). -/

namespace Sys2Proof.Machine

/-- The blocks and the parts of the state that a start leaves as they were restored. -/
def State.blocks (s : State) : Clock × Lmu × Oeb × Sqc × Mdr × Au × Oru × Bool × List Instr :=
  (s.clock, s.lmu, s.oeb, s.sqc, s.mdr, s.au, s.oru, s.powered, s.pending)

/-- The ports with both alert sets as given and open to every flag. -/
def Ports.flagged (sticky : Word16) (p : Ports) : Ports := { p with cAlerts := ⟨sticky, 0xFFFF⟩, pAlerts := ⟨sticky, 0xFFFF⟩ }

/-- `v` is the restored part `u` with these flags, reports and writes. -/
structure State.Starting (u : State) (st : Store) (sticky : Word16) (alarms events : List Report) (number : Nat) (l : List Content) (v : State) :
    Prop where
  blocks : v.blocks = u.blocks
  bcu : v.bcu = u.bcu
  free : v.freeIndex = u.freeIndex
  ports : v.ports = u.ports.flagged sticky
  rpu : ∃ order, v.rpu = u.rpu.opened alarms events number order
  writes : v.nvs.Writes st l

/-- A restored part before anything is announced. -/
structure State.Silent (u : State) (st : Store) : Prop where
  rpu : u.rpu = u.rpu.opened [] [] 0 u.rpu.nextOrder
  qMeasure : u.rpu.qMeasure = []
  flight : u.rpu.inFlight = none
  held : u.rpu.held = []
  ports : u.ports = u.ports.flagged Flag.resetSeen.bit
  nvs : u.nvs = ⟨st, [], none⟩

namespace State.Starting

variable {u v : State} {st : Store} {sticky : Word16} {alarms events : List Report} {number : Nat} {l : List Content}

theorem of_silent (h : u.Silent st) : State.Starting u st Flag.resetSeen.bit [] [] 0 [] u :=
  ⟨rfl, rfl, rfl, h.ports, ⟨_, h.rpu⟩, by rw [h.nvs]; exact Nvs.Writes.empty st⟩

theorem content (h : State.Starting u st sticky alarms events number l v) (id : RecordId) : v.content id = u.content id := by
  obtain ⟨order, rpu⟩ := h.rpu
  have link : v.rpu.settings = u.rpu.settings := by rw [rpu]; rfl
  exact State.content_of (congrArg (·.2.2.2.1) h.blocks) (congrArg (·.2.2.1) h.blocks) (congrArg (·.2.2.2.2.2.1) h.blocks)
    (congrArg (·.2.2.2.2.1) h.blocks) (congrArg (·.2.2.2.2.2.2.1) h.blocks) (congrArg Bcu.stored h.bcu) link (congrArg (·.2.1) h.blocks) id

theorem event (h : State.Starting u st sticky alarms events number l v) (silent : u.Silent st) (few : alarms.length + events.length < 24)
    (kind : EventKind) (payload : List Byte) : ∃ x, x.kind = .event kind ∧ x.number = number ∧ x.payload = payload
      ∧ State.Starting u st sticky alarms (events ++ [x]) ((number + 1) % 65536) l (v.event kind payload) := by
  obtain ⟨order, rpu⟩ := h.rpu
  obtain ⟨x, hk, hn, hp, opened⟩ := Rpu.opened_event (base := u.rpu) (alarms := alarms) (events := events) (number := number) (order := order)
    v.stamp payload silent.held silent.qMeasure silent.flight few kind
  exact ⟨x, hk, hn, hp, h.blocks, h.bcu, h.free, h.ports, ⟨order + 1, (congrArg (Rpu.event v.stamp kind payload) rpu).trans opened⟩, h.writes⟩

theorem alarmed (h : State.Starting u st sticky alarms events number l v) (silent : u.Silent st) (id : AlarmId) (payload : List Byte)
    (new : ∀ x ∈ alarms, x.kind ≠ .alarm id) (stamp : Stamp) :
    ∃ x, x.kind = .alarm id ∧ x.number = number ∧ x.classCount = 1 ∧ x.payload = payload
      ∧ ∃ order, v.rpu.alarm stamp id payload = u.rpu.opened (alarms ++ [x]) events ((number + 1) % 65536) order := by
  obtain ⟨order, rpu⟩ := h.rpu
  obtain ⟨x, hk, hn, hc, hp, opened⟩ := Rpu.opened_alarm (base := u.rpu) (alarms := alarms) (events := events) (number := number)
    (order := order) stamp payload silent.held id new
  exact ⟨x, hk, hn, hc, hp, _, (congrArg (Rpu.alarm stamp id payload) rpu).trans opened⟩

theorem raised (h : State.Starting u st sticky alarms events number l v) (f : Flag) : v.ports.raise f = u.ports.flagged (sticky ||| f.bit) := by
  rw [h.ports]
  rfl

theorem failed (h : State.Starting u st sticky alarms events number [] v) (silent : u.Silent st) (keyed : st.keyed = true)
    (some_ : st.failed ≠ []) (new : ∀ x ∈ alarms, x.kind ≠ .alarm .storeFault) :
    ∃ x, x.kind = .alarm .storeFault ∧ x.number = number ∧ x.classCount = 1 ∧ x.payload = st.faultPayload
      ∧ State.Starting u st (sticky ||| Flag.storeFault.bit) (alarms ++ [x]) events ((number + 1) % 65536) (st.failed.map u.content)
          (v.announceFailed st) := by
  obtain ⟨x, hk, hn, hc, hp, rpu⟩ := h.alarmed silent .storeFault st.faultPayload new v.stamp
  have writes := h.writes.places (content := u.content) u.content_id st.failed (by simp) (Store.failed_nodup keyed)
  refine ⟨x, hk, hn, hc, hp, ?_⟩
  rw [State.announceFailed_some some_]
  refine ⟨h.blocks, h.bcu, h.free, h.raised _, rpu, ?_⟩
  simpa only [h.content, List.nil_append] using writes

theorem marked (h : State.Starting u st sticky alarms events number l v) (new : ∀ e ∈ l, e.id ≠ .shutdownMark) :
    State.Starting u st sticky alarms events number (l ++ [.shutdownMark false]) (v.place .shutdownMark) :=
  ⟨h.blocks, h.bcu, h.free, h.ports, h.rpu, h.writes.place new⟩

theorem latched (h : State.Starting u st sticky alarms events number l v) (silent : u.Silent st) (latch : u.mdr.latch = true)
    (new : ∀ x ∈ alarms, x.kind ≠ .alarm .mechanismFault) :
    ∃ x, x.kind = .alarm .mechanismFault
      ∧ State.Starting u st (sticky ||| Flag.mechFault.bit) (alarms ++ [x]) events ((number + 1) % 65536) l v.announceLatch := by
  have mdr : v.mdr = u.mdr := congrArg (·.2.2.2.2.1) h.blocks
  obtain ⟨x, hk, -, -, -, rpu⟩ := h.alarmed silent .mechanismFault (MechCause.powerOn.code :: v.mdr.poles.enc ++ encOpt (be 2) none) new v.stamp
  refine ⟨x, hk, ?_⟩
  rw [State.announceLatch_set (by rw [mdr, latch])]
  exact ⟨h.blocks, h.bcu, h.free, h.raised _, rpu, h.writes⟩

end State.Starting

/-! ### The whole start -/

theorem no_flag (w : Word16) : w ||| 0 = w := BitVec.or_zero

/-- What a start leaves of the restored part `u`: its flags, its reports and its writes. -/
structure State.Started (u : State) (st : Store) (started : Report) (faults latched results : List Report) (v : State) : Prop where
  blocks : v.blocks = u.blocks
  ports : v.ports = u.ports.flagged (Flag.resetSeen.bit ||| (if st.failed = [] then 0 else Flag.storeFault.bit)
    ||| (if u.mdr.latch then Flag.mechFault.bit else 0) ||| (if u.bcu.stored.pending then Flag.testDone.bit else 0))
  rpu : ∃ number order, v.rpu = u.rpu.opened (faults ++ latched) (started :: results) number order
  writes : v.nvs.Writes st (st.failed.map u.content ++ (if st.shutdownMark = some true then [.shutdownMark false] else [])
    ++ (if u.bcu.stored.pending then [.battery u.cutStored] else []))
  start : started.kind = .event .start ∧ started.number = 0 ∧ started.payload = [st.cause.code]
  unfailed : st.failed = [] → faults = []
  failed : st.failed ≠ [] → ∃ x, faults = [x] ∧ x.kind = .alarm .storeFault ∧ x.number = 1 ∧ x.classCount = 1 ∧ x.payload = st.faultPayload
  unlatched : u.mdr.latch = false → latched = []
  latch : u.mdr.latch = true → ∃ x, latched = [x] ∧ x.kind = .alarm .mechanismFault
  idle : u.bcu.stored.pending = false → results = [] ∧ v.bcu = u.bcu ∧ v.freeIndex = u.freeIndex
  cut : u.bcu.stored.pending = true → v.freeIndex = u.freeIndex + 1
    ∧ v.bcu = { u.bcu with stored := u.cutStored, nextAttempt := some ⟨u.now + powerLossRetry, true⟩ }
    ∧ ∃ x, results = [x] ∧ x.kind = .event .batteryTestResult ∧ x.payload = u.cutTest.enc

section

variable {u : State} {st : Store}

theorem State.Starting.reported (silent : u.Silent st) (keyed : st.keyed = true) : ∃ started faults latched number,
    State.Starting u st (Flag.resetSeen.bit ||| (if st.failed = [] then 0 else Flag.storeFault.bit)
        ||| (if u.mdr.latch then Flag.mechFault.bit else 0)) (faults ++ latched) [started] number
      (st.failed.map u.content ++ (if st.shutdownMark = some true then [.shutdownMark false] else []))
      (State.announceLatch (if st.shutdownMark = some true then
        State.place .shutdownMark ((u.event .start [st.cause.code]).announceFailed st) else (u.event .start [st.cause.code]).announceFailed st))
    ∧ (started.kind = .event .start ∧ started.number = 0 ∧ started.payload = [st.cause.code])
    ∧ (st.failed = [] → faults = [])
    ∧ (st.failed ≠ [] → ∃ x, faults = [x] ∧ x.kind = .alarm .storeFault ∧ x.number = 1 ∧ x.classCount = 1 ∧ x.payload = st.faultPayload)
    ∧ (u.mdr.latch = false → latched = []) ∧ (u.mdr.latch = true → ∃ x, latched = [x] ∧ x.kind = .alarm .mechanismFault) := by
  obtain ⟨started, kind, number, payload, first⟩ := (State.Starting.of_silent silent).event silent (by decide) .start [st.cause.code]
  have faulted : ∃ faults number, State.Starting u st (Flag.resetSeen.bit ||| (if st.failed = [] then 0 else Flag.storeFault.bit)) faults [started]
        number (st.failed.map u.content) ((u.event .start [st.cause.code]).announceFailed st)
      ∧ (st.failed = [] → faults = [])
      ∧ (st.failed ≠ [] → ∃ x, faults = [x] ∧ x.kind = .alarm .storeFault ∧ x.number = 1 ∧ x.classCount = 1 ∧ x.payload = st.faultPayload) := by
    by_cases failed : st.failed = []
    · rw [State.announceFailed_none failed, if_pos failed, failed, no_flag]
      exact ⟨[], _, first, fun _ => rfl, fun h => absurd rfl h⟩
    · obtain ⟨x, hk, hn, hc, hp, next⟩ := first.failed silent keyed failed nofun
      rw [if_neg failed]
      exact ⟨[x], _, next, fun h => absurd h failed, fun _ => ⟨x, rfl, hk, hn, hc, hp⟩⟩
  obtain ⟨faults, count, faulted, unfailed, failed⟩ := faulted
  have marked : State.Starting u st (Flag.resetSeen.bit ||| (if st.failed = [] then 0 else Flag.storeFault.bit)) faults [started] count
      (st.failed.map u.content ++ (if st.shutdownMark = some true then [.shutdownMark false] else []))
      (if st.shutdownMark = some true then
        State.place .shutdownMark ((u.event .start [st.cause.code]).announceFailed st) else (u.event .start [st.cause.code]).announceFailed st) := by
    by_cases mark : st.shutdownMark = some true
    · rw [if_pos mark, if_pos mark]
      refine faulted.marked fun e he => ?_
      obtain ⟨id, hid, rfl⟩ := List.mem_map.mp he
      rw [State.content_id]
      rintro rfl
      rw [Store.failed_eq keyed, List.mem_filter] at hid
      have missing : (st.read .shutdownMark).isNone = true := hid.2
      rw [← Store.lacks_eq keyed, Store.lacks, mark] at missing
      cases missing
    · rw [if_neg mark, if_neg mark, List.append_nil]
      exact faulted
  by_cases latch : u.mdr.latch = true
  · have new : ∀ x ∈ faults, x.kind ≠ .alarm .mechanismFault := by
      intro x hx
      by_cases none_ : st.failed = []
      · rw [unfailed none_] at hx; cases hx
      · obtain ⟨y, rfl, kind, -⟩ := failed none_
        rw [List.mem_singleton.mp hx, kind]
        nofun
    obtain ⟨x, hk, next⟩ := marked.latched silent latch new
    refine ⟨started, faults, [x], (count + 1) % 65536, ?_, ⟨kind, number, payload⟩, unfailed, failed, fun h => absurd (h.symm.trans latch) nofun,
      fun _ => ⟨x, rfl, hk⟩⟩
    rw [if_pos latch]
    exact next
  · have clear : u.mdr.latch = false := by simpa using latch
    refine ⟨started, faults, [], count, ?_, ⟨kind, number, payload⟩, unfailed, failed, fun _ => rfl, fun h => absurd h latch⟩
    rw [if_neg latch, no_flag, List.append_nil, State.announceLatch_clear]
    · exact marked
    · have mdr := congrArg (·.2.2.2.2.1) marked.blocks
      exact (congrArg Mdr.latch mdr).trans clear

/-- A start, given that the record of a test under way was read. -/
theorem State.announces_started (silent : u.Silent st) (keyed : st.keyed = true)
    (read : u.bcu.stored.pending = true → RecordId.battery ∉ st.failed) :
    ∃ started faults latched results, State.Started u st started faults latched results (u.announces st) := by
  obtain ⟨started, faults, latched, count, at_, start, unfailed, failed, unlatched, latch⟩ := State.Starting.reported silent keyed
  have ends : u.announces st = (State.announceLatch (if st.shutdownMark = some true then
      State.place .shutdownMark ((u.event .start [st.cause.code]).announceFailed st)
        else (u.event .start [st.cause.code]).announceFailed st)).announceLostTest := rfl
  rw [ends]
  revert at_
  generalize State.announceLatch _ = v
  intro at_
  by_cases pending : u.bcu.stored.pending = true
  · have stored : v.bcu.stored.pending = true := by rw [at_.bcu, pending]
    have few : (faults ++ latched).length + [started].length < 24 := by
      have faults_ : faults.length ≤ 1 := by
        by_cases none_ : st.failed = []
        · simp [unfailed none_]
        · obtain ⟨x, rfl, -⟩ := failed none_
          simp
      have latched_ : latched.length ≤ 1 := by
        cases set : u.mdr.latch with
        | false => simp [unlatched set]
        | true =>
          obtain ⟨x, rfl, -⟩ := latch set
          simp
      simp only [List.length_append, List.length_singleton]
      omega
    have clock : v.clock = u.clock := congrArg (·.1) at_.blocks
    have entry : v.cutTest = u.cutTest := by simp only [State.cutTest, State.stamp, clock, at_.free]
    have record : v.cutStored = u.cutStored := by simp only [State.cutStored, entry, at_.bcu]
    obtain ⟨x, hk, -, hp, next⟩ := at_.event silent few .batteryTestResult u.cutTest.enc
    have new : ∀ e ∈ st.failed.map u.content ++ (if st.shutdownMark = some true then [.shutdownMark false] else []), e.id ≠ .battery := by
      intro e he
      obtain he | he := List.mem_append.mp he
      · obtain ⟨id, hid, rfl⟩ := List.mem_map.mp he
        rw [State.content_id]
        rintro rfl
        exact read pending hid
      · split at he
        · rw [List.mem_singleton.mp he]; nofun
        · cases he
    refine ⟨started, faults, latched, [x], ?_⟩
    rw [State.announceLostTest_pending stored, entry, record]
    refine ⟨at_.blocks, ?_, ?_, ?_, start, unfailed, failed, unlatched, latch, fun idle => absurd (idle.symm.trans pending) nofun,
      fun _ => ⟨by rw [at_.free], ?_, x, rfl, hk, hp⟩⟩
    · rw [if_pos pending]
      exact at_.raised .testDone
    · obtain ⟨order, rpu⟩ := next.rpu
      exact ⟨_, order, rpu⟩
    · rw [if_pos pending]
      exact at_.writes.place (c := .battery u.cutStored) new
    · simp only [State.now, clock, at_.bcu]
  · have idle : u.bcu.stored.pending = false := by simpa using pending
    refine ⟨started, faults, latched, [], ?_⟩
    rw [State.announceLostTest_idle (by rw [at_.bcu, idle])]
    refine ⟨at_.blocks, ?_, ?_, ?_, start, unfailed, failed, unlatched, latch, fun _ => ⟨rfl, at_.bcu, at_.free⟩, fun h => absurd h pending⟩
    · rw [if_neg pending, no_flag]
      exact at_.ports
    · obtain ⟨order, rpu⟩ := at_.rpu
      exact ⟨_, order, rpu⟩
    · rw [if_neg pending, List.append_nil]
      exact at_.writes

end

end Sys2Proof.Machine
end

section
/-! PROOFS. The restored part, and the start seen from the store (R63, R88, R91, R111, R133, R158, R169, R182, R186 to R189). -/

namespace Sys2Proof.Machine

/-! ### The restored part -/

theorem State.restored_silent (s : State) : s.restored.Silent s.nvs.store := ⟨rfl, rfl, rfl, rfl, rfl, rfl⟩

/-- A test under way comes from a record that was read. -/
theorem Store.pending_read {st : Store} (keyed : st.keyed = true) (pending : (st.battery.getD .default).pending = true) :
    RecordId.battery ∉ st.failed := by
  intro mem
  rw [Store.failed_eq keyed, List.mem_filter] at mem
  have missing : (st.read .battery).isNone = true := mem.2
  rw [← Store.lacks_eq keyed, Store.lacks, Option.isNone_iff_eq_none] at missing
  rw [missing] at pending
  cases pending

/-- With the supply warming up in tier NORMAL, the judgement of the radio leaves everything (R152, R144). -/
theorem State.rejudge_warming {t : State} {d : Nat} (radio : t.rpu.radio = .warming d) (tier : t.bcu.tier = .normal)
    (wait : t.rpu.channelWait = none) : t.rejudge = t := by
  have supplied : t.rpu.supplied = true := by simp [Rpu.supplied, radio]
  have judged : t.rpu.rejudgeRadio t.now t.bcu.tier = t.rpu := by simp [Rpu.rejudgeRadio, Rpu.wanted, tier, supplied]
  have waits : t.rpu.rejudgeWait t.now t.bcu.tier = t.rpu := by
    unfold Rpu.rejudgeWait
    rw [if_neg (by simp [radio]), ← wait]
  unfold State.rejudge
  dsimp only
  rw [judged, waits, supplied]
  rfl

/-- The start, put together from the restored blocks (R186). -/
theorem State.start_started (s : State) (keyed : s.nvs.store.keyed = true) :
    ∃ started faults latched results, State.Started s.restored s.nvs.store started faults latched results s.start := by
  rw [s.start_announces]
  exact State.announces_started s.restored_silent keyed (Store.pending_read keyed)

/-! ### The flags of a start -/

/-- The sticky bits that a start sets. -/
def startFlags (faulted latched cut : Bool) : Word16 :=
  Flag.resetSeen.bit ||| (if faulted then Flag.storeFault.bit else 0) ||| (if latched then Flag.mechFault.bit else 0)
    ||| (if cut then Flag.testDone.bit else 0)

theorem startFlags_storeFault : ∀ faulted latched cut, startFlags faulted latched cut &&& Flag.storeFault.bit ≠ 0 ↔ faulted = true := by decide

theorem startFlags_mechFault : ∀ faulted latched cut, startFlags faulted latched cut &&& Flag.mechFault.bit ≠ 0 ↔ latched = true := by decide

theorem startFlags_testDone : ∀ faulted latched cut, startFlags faulted latched cut &&& Flag.testDone.bit ≠ 0 ↔ cut = true := by decide

theorem startFlags_attn : ∀ faulted latched cut, AlertSet.attn ⟨startFlags faulted latched cut, 0xFFFF⟩ = true := by decide

theorem startFlags_eq (l : List RecordId) (latched cut : Bool) :
    Flag.resetSeen.bit ||| (if l = [] then 0 else Flag.storeFault.bit) ||| (if latched then Flag.mechFault.bit else 0)
      ||| (if cut then Flag.testDone.bit else 0) = startFlags (!l.isEmpty) latched cut := by
  cases l <;> rfl

section

variable {st : Store}

/-! ### The STORE_FAULT payload (R187) -/

/-- No passing HOT_LINE entry is of crew 0. -/
def Store.crewZero (st : Store) : Bool := (List.range 8).any fun n => (st.entry n).any fun x => x.kind == .hotLine && x.crew == 0

/-- The record receives the fail-safe entry. -/
def Store.marks (st : Store) (id : RecordId) : Bool :=
  !st.crewZero && (((List.range 8).find? fun n => (st.slot n).isNone).map RecordId.tagSlot == some id)

theorem Store.failSafeSlot_eq : st.failSafeSlot = if st.crewZero then none else (List.range 8).find? fun n => (st.slot n).isNone := by
  rw [Store.failSafeSlot, Store.crewZero, Store.any_crewZero, Store.failingSlots, List.head?_filter]

theorem Store.marks_slot (n : Nat) : st.marks (.tagSlot n) = (st.failSafeSlot == some n) := by
  rw [Store.failSafeSlot_eq, Store.marks]
  cases st.crewZero with
  | true => rfl
  | false =>
    rw [if_neg Bool.false_ne_true, Bool.not_false, Bool.true_and, Bool.eq_iff_iff, beq_iff_eq, beq_iff_eq]
    cases (List.range 8).find? fun n => (st.slot n).isNone <;> simp

theorem Store.marks_other {id : RecordId} (other : ∀ n, id ≠ .tagSlot n) : st.marks id = false := by
  rw [Store.marks]
  cases (List.range 8).find? fun n => (st.slot n).isNone with
  | none => simp
  | some n => simpa using fun _ h => other n h.symm

theorem Store.faultPayload_eq : st.faultPayload =
    0x01 :: BitVec.ofNat 8 st.failed.length :: st.failed.flatMap fun id => [id.code, if st.marks id then 1 else 0] := by
  unfold Store.faultPayload encList
  congr 3
  funext id
  by_cases slot : ∃ n, id = .tagSlot n
  · obtain ⟨n, rfl⟩ := slot
    rw [Store.marks_slot] <;> rfl
  · rw [Store.marks_other fun n e => slot ⟨n, e⟩]
    cases id with
    | tagSlot n => exact absurd ⟨n, rfl⟩ slot
    | _ => rfl

/-! ### The numbers of a start (R169) -/

theorem numberAfter_eq (ring : List OpRecord) : numberAfter ring = match ring.getLast? with
    | some r => (r.number + 1) % 65536
    | none => 0 := by
  unfold numberAfter
  cases ring.getLast? <;> rfl

theorem Store.restoredCounters_some {k : Counters} (h : st.counters = some k) : st.restoredCounters =
    { k with next := if wouldReuse k.next (st.recordRing.getD []) then numberAfter (st.recordRing.getD []) else k.next } := by
  unfold Store.restoredCounters
  rw [h]
  dsimp only
  split <;> rfl

theorem Store.restoredCounters_none (h : st.counters = none) : st.restoredCounters =
    { Counters.zero with next := numberAfter (st.recordRing.getD []) } := by
  unfold Store.restoredCounters
  rw [h]

/-! ### The elements' set (R18) -/

theorem Store.hot_eq : st.tags.any (fun x => x.kind == .hotLine) =
    ((List.range 8).any (fun n => (st.entry n).any fun x => x.kind == .hotLine) || !st.crewZero && (List.range 8).any fun n => (st.slot n).isNone) := by
  rw [Bool.eq_iff_iff, Store.hot_tags, Store.failSafeSlot_isSome, Store.crewZero, Store.any_crewZero]
  simp only [Bool.or_eq_true, Bool.and_eq_true, Bool.not_eq_true', List.any_eq_true, List.mem_range, Option.any_eq_true, beq_iff_eq,
    Option.isNone_iff_eq_none]
  refine or_congr ⟨fun ⟨n, x, small, found, hot⟩ => ⟨n, small, x, found, hot⟩, fun ⟨n, small, x, found, hot⟩ => ⟨n, x, small, found, hot⟩⟩
    (and_congr_left fun _ => ?_)
  rw [← Bool.not_eq_true]

theorem Store.cause_afterDisconnect : st.cause = .afterDisconnect ↔ st.shutdownMark = some true := by
  unfold Store.cause
  split
  · next h => simp [h]
  · next h => simp [h]

theorem Store.cause_powerOn : st.cause = .powerOn ↔ st.shutdownMark ≠ some true := by
  unfold Store.cause
  split
  · next h => simp [h]
  · next h => simp [h]

end

/-! ### The content of a write -/

/-- The entry carries what the owner of its record has. -/
def State.carries (t : State) (w : Content) : Prop := t.content w.id = w

theorem State.Started.carries {u v : State} {st : Store} {started : Report} {faults latched results : List Report}
    (h : State.Started u st started faults latched results v) (read : u.bcu.stored.pending = true → RecordId.battery ∉ st.failed) :
    ∀ w ∈ v.nvs.writes, v.carries w := by
  obtain ⟨number, order, rpu⟩ := h.rpu
  have link : v.rpu.settings = u.rpu.settings := by rw [rpu]; rfl
  have fields : v.sqc = u.sqc ∧ v.oeb = u.oeb ∧ v.au = u.au ∧ v.mdr = u.mdr ∧ v.oru = u.oru ∧ v.lmu = u.lmu :=
    ⟨congrArg (·.2.2.2.1) h.blocks, congrArg (·.2.2.1) h.blocks, congrArg (·.2.2.2.2.2.1) h.blocks, congrArg (·.2.2.2.2.1) h.blocks,
      congrArg (·.2.2.2.2.2.2.1) h.blocks, congrArg (·.2.1) h.blocks⟩
  obtain ⟨sqc, oeb, au, mdr, oru, lmu⟩ := fields
  rw [h.writes.writes_eq]
  intro w hw
  obtain hw | hw := List.mem_append.mp hw
  · obtain hw | hw := List.mem_append.mp hw
    · obtain ⟨id, hid, rfl⟩ := List.mem_map.mp hw
      rw [State.carries, State.content_id]
      by_cases battery : id = .battery ∧ u.bcu.stored.pending = true
      · obtain ⟨rfl, pending⟩ := battery
        exact absurd hid (read pending)
      · by_cases idle : u.bcu.stored.pending = false
        · exact State.content_of sqc oeb au mdr oru (congrArg Bcu.stored (h.idle idle).2.1) link lmu id
        · have other : id ≠ .battery := fun e => battery ⟨e, by simpa using idle⟩
          cases id with
          | battery => exact absurd rfl other
          | _ => simp only [State.content, sqc, oeb, au, mdr, oru, link, lmu]
    · split at hw
      · rw [List.mem_singleton.mp hw]; rfl
      · cases hw
  · split at hw
    · next pending =>
      rw [List.mem_singleton.mp hw]
      change Content.battery v.bcu.stored = _
      rw [(h.cut pending).2.1]
    · cases hw

end Sys2Proof.Machine
end

section
/-! PROOFS. What power-on restores, substitutes, starts and reports (R186 to R189). -/

namespace Sys2Proof.Machine

/-- The start `v`, written out over the restored part `u`. -/
theorem State.Started.shape {u v : State} {st : Store} {started : Report} {faults latched results : List Report}
    (h : State.Started u st started faults latched results v) : ∃ number order stored next,
      v = { u with
        ports := u.ports.flagged (startFlags (!st.failed.isEmpty) u.mdr.latch u.bcu.stored.pending)
        rpu := u.rpu.opened (faults ++ latched) (started :: results) number order
        nvs := v.nvs
        freeIndex := if u.bcu.stored.pending then u.freeIndex + 1 else u.freeIndex
        bcu := { u.bcu with stored := stored, nextAttempt := next } }
      ∧ (u.bcu.stored.pending = false → stored = u.bcu.stored ∧ next = u.bcu.nextAttempt)
      ∧ (u.bcu.stored.pending = true → stored = u.cutStored ∧ next = some ⟨u.now + powerLossRetry, true⟩) := by
  have made {stored : BatteryRecord} {next : Option Attempt} (bcu : v.bcu = { u.bcu with stored := stored, nextAttempt := next })
      (free : v.freeIndex = if u.bcu.stored.pending then u.freeIndex + 1 else u.freeIndex) : ∃ number order,
      v = { u with
        ports := u.ports.flagged (startFlags (!st.failed.isEmpty) u.mdr.latch u.bcu.stored.pending)
        rpu := u.rpu.opened (faults ++ latched) (started :: results) number order
        nvs := v.nvs
        freeIndex := if u.bcu.stored.pending then u.freeIndex + 1 else u.freeIndex
        bcu := { u.bcu with stored := stored, nextAttempt := next } } := by
    obtain ⟨number, order, rpu⟩ := h.rpu
    have ports := h.ports
    rw [startFlags_eq] at ports
    have blocks := h.blocks
    refine ⟨number, order, ?_⟩
    rw [← ports, ← rpu, ← free, ← bcu]
    obtain ⟨clock, lmu, oeb, sqc, mdr, au, bcu', rpu', oru, ports', nvs, powered, free', pending⟩ := v
    simp only [State.blocks, Prod.mk.injEq] at blocks
    obtain ⟨rfl, rfl, rfl, rfl, rfl, rfl, rfl, rfl, rfl⟩ := blocks
    rfl
  by_cases pending : u.bcu.stored.pending = true
  · obtain ⟨free, bcu, -⟩ := h.cut pending
    obtain ⟨number, order, eq⟩ := made bcu (by rw [if_pos pending, free])
    exact ⟨number, order, _, _, eq, fun idle => absurd (idle.symm.trans pending) nofun, fun _ => ⟨rfl, rfl⟩⟩
  · obtain ⟨-, bcu, free⟩ := h.idle (by simpa using pending)
    obtain ⟨number, order, eq⟩ := made (stored := u.bcu.stored) (next := u.bcu.nextAttempt) bcu (by rw [if_neg pending, free])
    exact ⟨number, order, _, _, eq, fun _ => ⟨rfl, rfl⟩, fun h => absurd h pending⟩

/-- The records on their way into the store after a start, in order (R187, R189, R133). -/
theorem State.Started.ids {u v : State} {st : Store} {started : Report} {faults latched results : List Report}
    (h : State.Started u st started faults latched results v) : v.nvs.writes.map Content.id =
      st.failed ++ (if st.shutdownMark = some true then [.shutdownMark] else []) ++ (if u.bcu.stored.pending then [.battery] else []) := by
  have own : (st.failed.map u.content).map Content.id = st.failed := by
    rw [List.map_map]
    exact (List.map_congr_left fun id _ => u.content_id id).trans (List.map_id _)
  rw [h.writes.writes_eq, List.map_append, List.map_append, own]
  congr 1
  · congr 1
    split <;> rfl
  · split <;> rfl

/-- The write that clears the mark waits or is under way (R189). -/
theorem State.Started.clears {u v : State} {st : Store} {started : Report} {faults latched results : List Report}
    (h : State.Started u st started faults latched results v) (mark : st.shutdownMark = some true) :
    .shutdownMark false ∈ v.nvs.queue ∨ v.nvs.writing = some ⟨.shutdownMark false, false⟩ := by
  have mem : .shutdownMark false ∈ v.nvs.writes := by
    rw [h.writes.writes_eq, if_pos mark]
    simp
  obtain under | waits := List.mem_append.mp mem
  · cases hw : v.nvs.writing with
    | none => rw [hw] at under; cases under
    | some w =>
      rw [hw, Option.map_some, Option.toList_some, List.mem_singleton] at under
      have first := h.writes.first w hw
      obtain ⟨content, second⟩ := w
      dsimp only at first under
      rw [first, ← under]
      exact .inr rfl
  · exact .inl waits

/-- The command POWER_ON with no contacts read leads to the start. -/
theorem exec_powerOn_start {s : State} (off : s.powered = false) (keyed : s.nvs.store.keyed = true) :
    exec (.powerOn none) s = .next s.start := by
  obtain ⟨started, faults, latched, results, start⟩ := s.start_started keyed
  obtain ⟨number, order, stored, next, shape, -, -⟩ := start.shape
  have run : exec (.powerOn none) s = .next (s.powerOn none).rejudge := rfl
  have dark : s.powerOn none = s.start := by
    unfold State.powerOn
    rw [if_neg (by simp [off])]
  rw [run, dark, State.rejudge_warming (d := warmUp)]
  · rw [shape]; rfl
  · rw [shape]; rfl
  · rw [shape]; rfl

theorem powerOn_contacts {s : State} (off : s.powered = false) (keyed : s.nvs.store.keyed = true) (contacts : Contacts) :
    ∃ t u, exec (.powerOn none) s = .next t ∧ exec (.powerOn (some contacts)) s = .next u
      ∧ t.leads (.poleIndicationChange contacts) (u.supplyAs t) := by
  have read : s.powerOn (some contacts) = s.start.contactsRead contacts := by
    unfold State.powerOn
    rw [if_neg (by simp [off])]
  have run : exec (.powerOn (some contacts)) s = .next (s.powerOn (some contacts)).rejudge := rfl
  rw [read] at run
  exact ⟨_, _, exec_powerOn_start off keyed, run, _, act_powered (f := State.contactsRead contacts) s.start_spec.2.1, rfl⟩

theorem powerOn_powered {s : State} (contacts : Option Contacts) (on : s.powered = true) :
    ∃ dark, exec .powerLoss s = .next dark ∧ exec (.powerOn contacts) s = exec (.powerOn contacts) dark := by
  refine ⟨s.powerLoss, ?_, ?_⟩
  · change execPowerLoss s = _
    rw [execPowerLoss, if_pos on]
  · have same : s.powerOn contacts = s.powerLoss.powerOn contacts := by
      unfold State.powerOn
      rw [if_pos on, if_neg (show ¬ s.powerLoss.powered = true from Bool.false_ne_true)]
    change Host.Outcome.next (s.powerOn contacts).rejudge = .next (s.powerLoss.powerOn contacts).rejudge
    rw [same]

end Sys2Proof.Machine
end

section
/-! PROOFS. Power-on, clause by clause (R15, R39, R63, R88, R91, R111, R133, R158, R169, R182, R186 to R189). -/

namespace Sys2Proof.Machine

section

variable {u v : State} {st : Store} {started : Report} {faults latched results : List Report}

/-- The STORE_FAULT alarm stands first, if it stands (R187). -/
theorem State.Started.storeFault_absent (h : State.Started u st started faults latched results v) (none_ : st.failed = []) :
    ∀ x ∈ faults ++ latched, x.kind ≠ .alarm .storeFault := by
  rw [h.unfailed none_, List.nil_append]
  intro x hx
  cases set : u.mdr.latch with
  | false => rw [h.unlatched set] at hx; cases hx
  | true =>
    obtain ⟨y, rfl, kind⟩ := h.latch set
    rw [List.mem_singleton.mp hx, kind]
    nofun

theorem State.Started.alarms (h : State.Started u st started faults latched results v) :
    ∀ x ∈ faults ++ latched, x.kind = .alarm .storeFault ∨ (u.mdr.latch = true ∧ x.kind = .alarm .mechanismFault) := by
  intro x hx
  obtain hx | hx := List.mem_append.mp hx
  · by_cases none_ : st.failed = []
    · rw [h.unfailed none_] at hx; cases hx
    · obtain ⟨y, rfl, kind, -⟩ := h.failed none_
      rw [List.mem_singleton.mp hx]
      exact .inl kind
  · cases set : u.mdr.latch with
    | false => rw [h.unlatched set] at hx; cases hx
    | true =>
      obtain ⟨y, rfl, kind⟩ := h.latch set
      rw [List.mem_singleton.mp hx]
      exact .inr ⟨rfl, kind⟩

theorem State.Started.events (h : State.Started u st started faults latched results v) :
    ∀ x ∈ started :: results, x.kind = .event .start ∨ (u.bcu.stored.pending = true ∧ x.kind = .event .batteryTestResult) := by
  intro x hx
  obtain rfl | hx := List.mem_cons.mp hx
  · exact .inl h.start.1
  · by_cases pending : u.bcu.stored.pending = true
    · obtain ⟨-, -, y, rfl, kind, -⟩ := h.cut pending
      rw [List.mem_singleton.mp hx]
      exact .inr ⟨pending, kind⟩
    · rw [(h.idle (by simpa using pending)).1] at hx
      cases hx

end

/-- What a test cut off leaves of the record, and what none cut off does (R133). -/
theorem BatteryRecord.restarted {b stored : BatteryRecord} {cut : TestEntry} (idle : b.pending = false → stored = b)
    (entered : b.pending = true → stored = { b with pending := false, history := pushRing 8 cut b.history }) :
    stored.settings = b.settings ∧ stored.attributes = b.attributes ∧ stored.pending = false := by
  cases pending : b.pending with
  | false => rw [idle pending]; exact ⟨rfl, rfl, pending⟩
  | true => rw [entered pending]; exact ⟨rfl, rfl, rfl⟩

theorem attempt_after_start {s : State} : (some ⟨s.restored.now + powerLossRetry, true⟩ : Option Attempt) = some ⟨900000000, true⟩ := by
  have start : s.restored.now = 0 := rfl
  rw [start]
  rfl

/-- What each entry on its way into the store holds (R184). -/
def State.owns (t : State) : Content → Prop
  | .activeSettings x => x = t.sqc.active
  | .userCurve1 x => x = t.oeb.u1
  | .userCurve2 x => x = t.oeb.u2
  | .tagSlot n x => x = t.au.tags.find? fun y => y.slot == n
  | .authority x => x = t.au.block
  | .mechanism x => x = ⟨t.mdr.latch, t.mdr.settings⟩
  | .counters x => x = t.oru.counters
  | .recordRing x => x = t.oru.ring
  | .battery x => x = t.bcu.stored
  | .link x => x = t.rpu.settings
  | .tracker x => x = t.lmu.settings
  | .shutdownMark x => x = false

theorem State.carries.owns {t : State} {w : Content} (h : t.carries w) : t.owns w := by
  unfold State.carries at h
  cases w with
  | tagSlot n x => exact ((Content.tagSlot.inj h).2).symm
  | activeSettings x => exact (Content.activeSettings.inj h).symm
  | userCurve1 x => exact (Content.userCurve1.inj h).symm
  | userCurve2 x => exact (Content.userCurve2.inj h).symm
  | authority x => exact (Content.authority.inj h).symm
  | mechanism x => exact (Content.mechanism.inj h).symm
  | counters x => exact (Content.counters.inj h).symm
  | recordRing x => exact (Content.recordRing.inj h).symm
  | battery x => exact (Content.battery.inj h).symm
  | link x => exact (Content.link.inj h).symm
  | tracker x => exact (Content.tracker.inj h).symm
  | shutdownMark x => exact (Content.shutdownMark.inj h).symm

section

variable {s : State} {started : Report} {faults latched results : List Report}

/-- The STORE_FAULT alarm names the failed records and marks the one that receives the fail-safe entry (R187, log 32). -/
theorem State.Started.storeFault_first {v : State} {st : Store} (h : State.Started s st started faults latched results v) {failed : List RecordId}
    (names : st.failed = failed) (some_ : failed ≠ []) : ∃ x, (faults ++ latched).head? = some x ∧ x.kind = .alarm .storeFault ∧ x.number = 1
      ∧ x.classCount = 1 ∧ x.payload = 0x01 :: BitVec.ofNat 8 failed.length :: failed.flatMap fun id => [id.code, if st.marks id then 1 else 0] := by
  subst names
  obtain ⟨x, rfl, kind, number, count, payload⟩ := h.failed some_
  exact ⟨x, rfl, kind, number, count, payload.trans Store.faultPayload_eq⟩

theorem State.Started.mechanismFault_queued {v : State} {st : Store} (h : State.Started s st started faults latched results v)
    (latch : s.mdr.latch = true) : ∃ x ∈ faults ++ latched, x.kind = .alarm .mechanismFault := by
  obtain ⟨x, rfl, kind⟩ := h.latch latch
  exact ⟨x, List.mem_append_right _ List.mem_cons_self, kind⟩

theorem State.Started.result_queued {v : State} {st : Store} (h : State.Started s st started faults latched results v)
    (pending : s.bcu.stored.pending = true) :
    ∃ x ∈ started :: results, x.kind = .event .batteryTestResult ∧ x.payload = s.cutTest.enc := by
  obtain ⟨-, -, x, rfl, kind, payload⟩ := h.cut pending
  exact ⟨x, List.mem_cons_of_mem _ List.mem_cons_self, kind, payload⟩

end

/-- A part without supply starts. -/
theorem powerOn_started {s : State} (off : s.powered = false) (keyed : s.nvs.store.keyed = true) :
    ∃ v started faults latched results, exec (.powerOn none) s = .next v ∧ State.Started s.restored s.nvs.store started faults latched results v := by
  obtain ⟨started, faults, latched, results, start⟩ := s.start_started keyed
  exact ⟨_, started, faults, latched, results, exec_powerOn_start off keyed, start⟩

theorem State.Started.ids_named {u v : State} {st : Store} {started : Report} {faults latched results : List Report}
    (h : State.Started u st started faults latched results v) {failed : List RecordId} (names : st.failed = failed) :
    v.nvs.writes.map Content.id =
      failed ++ (if st.shutdownMark = some true then [.shutdownMark] else []) ++ (if u.bcu.stored.pending then [.battery] else []) :=
  names ▸ h.ids

theorem not_isEmpty_iff {α : Type} (l : List α) : (!l.isEmpty) = true ↔ l ≠ [] := by simp

/-- Settles O34: the start is the restored part with its flags, reports and writes, and each clause reads one of them. -/
theorem powerOnRestoresAndStarts : Obligations.PowerOnRestoresAndStarts := by
  refine ⟨fun s off keyed => ?_, fun s contacts on => powerOn_powered contacts on⟩
  intro st tracker mechanism battery link entry failSafe freed failed crewZero writes marked ring past held still idle calm hot sticky
  obtain ⟨v, started, faults, latched, results, run, start⟩ := powerOn_started off keyed
  obtain ⟨number, order, stored, next, shape, idle_, cut⟩ := start.shape
  have names : st.failed = failed := Store.failed_eq keyed
  have some_ : (!st.failed.isEmpty) = true ↔ failed ≠ [] := by rw [← names]; simp
  have flags : startFlags (!st.failed.isEmpty) mechanism.latch battery.pending = sticky := by
    rw [← startFlags_eq]
    exact congrArg (fun l : List RecordId => Flag.resetSeen.bit ||| (if l = [] then 0 else Flag.storeFault.bit)
      ||| (if mechanism.latch then Flag.mechFault.bit else 0) ||| (if battery.pending then Flag.testDone.bit else 0)) names
  have carried := start.carries (Store.pending_read keyed)
  obtain ⟨settings, attributes, over_⟩ := BatteryRecord.restarted (fun h => (idle_ h).1) (fun h => (cut h).1)
  refine ⟨⟨_, run.trans (congrArg _ shape), ?_⟩, powerOn_contacts off keyed⟩
  refine ⟨rfl, rfl, rfl, rfl, rfl, rfl, rfl, rfl, rfl, rfl, fun ch => by cases ch <;> rfl, rfl, rfl, rfl, rfl, rfl, Store.hot_eq, rfl, rfl,
    rfl, rfl, settings, attributes, over_, rfl, rfl, rfl, rfl, rfl, rfl, rfl, rfl, rfl, rfl, ?failing,
    idle_, fun pending => ⟨(cut pending).2.trans attempt_after_start, s.restored.cutTest, rfl, rfl, rfl, rfl, rfl, rfl, rfl,
      (cut pending).1, start.result_queued pending, (startFlags_testDone _ _ _).mpr pending, (startFlags_testDone _ _ _).mpr pending⟩,
    fun none_ => start.storeFault_absent (names.trans none_), start.storeFault_first names,
    (startFlags_storeFault _ _ _).trans some_, (startFlags_storeFault _ _ _).trans some_, start.writes.store_eq, start.writes.first,
    ⟨?ids, ?contents⟩, ?_⟩
  case failing => exact not_isEmpty_iff _
  case ids =>
    exact start.ids_named names
  case contents =>
    intro w hw
    have own := Eq.mp (congrArg (fun t : State => t.owns w) shape) (carried w hw).owns
    cases w <;> exact own
  refine ⟨rfl, rfl, rfl, rfl, rfl, rfl, rfl, rfl, rfl, rfl, rfl, rfl, rfl, rfl, rfl, rfl, rfl, rfl, start.alarms, start.events, rfl,
    ⟨started, rfl, start.start⟩, fun latch => ⟨(startFlags_mechFault _ _ _).mpr latch, (startFlags_mechFault _ _ _).mpr latch,
      start.mechanismFault_queued latch⟩,
    fun n x small found => Store.entry_in_tags small found, fun n small failing => Store.failSafe_in_tags small failing,
    fun x hx => Store.tags_from hx, Store.tags_ordered, fun none_ => congrArg placementsAfter none_, placementsAfter_spec, rfl,
    fun k kept => (Store.restoredCounters_some kept).trans ?some, fun lost => (Store.restoredCounters_none lost).trans ?none,
    start.clears, rfl, rfl, rfl, rfl, rfl, rfl, flags, flags, startFlags_attn _ _ _, startFlags_attn _ _ _, rfl, rfl, rfl, rfl, rfl, rfl, rfl, rfl,
    rfl, Store.cause_afterDisconnect, Store.cause_powerOn⟩
  case some => rw [numberAfter_eq] <;> rfl
  case none => rw [numberAfter_eq] <;> rfl

end Sys2Proof.Machine
end
